-- ==== Sys2Proof/Word.lean ====
section
/-! DEFINITION. The plain data types every file uses: bytes, core words, and tables kept as sorted lists. -/

namespace Sys2Proof

/-- One byte of memory. -/
abbrev Byte := BitVec 8

/-- A 32-bit register or lane of a core (Table 07.1). -/
abbrev Word := BitVec 32

/-- Sparse data by key: pairs with keys strictly rising and no entry equal to the table's default.
The operations that keep this form are in Machine/Tab.lean. -/
abbrev Tab (α : Type) := List (Nat × α)

/-- 2 to the power `k`, the bound of a `k`-bit field. -/
abbrev pow2 (k : Nat) : Nat := 2 ^ k

/-- Bits `[lo + n - 1 : lo]` of `v`, as a number (R5: bit 0 is the least significant). -/
def bits (v lo n : Nat) : Nat := v / 2 ^ lo % 2 ^ n

/-- Bit `k` of `v`. -/
def bit (v k : Nat) : Bool := v / 2 ^ k % 2 == 1

/-- A truth value as a one-bit field. -/
def b2n (b : Bool) : Nat := if b then 1 else 0

/-- The number that little-endian bytes spell (R5). -/
def leNat : List Byte → Nat
  | [] => 0
  | b :: bs => b.toNat + 256 * leNat bs

/-- The low `n` bytes of `v`, little-endian (R5). -/
def natLE : Nat → Nat → List Byte
  | 0, _ => []
  | n + 1, v => BitVec.ofNat 8 v :: natLE n (v / 256)

/-- The number that big-endian bytes spell. -/
def beNat (bs : List Byte) : Nat := bs.foldl (fun a b => a * 256 + b.toNat) 0

/-- The low `n` bytes of `v`, big-endian. -/
def natBE (n v : Nat) : List Byte := (natLE n v).reverse

end Sys2Proof
end

