-- ==== Sys2Proof/Syntax.lean ====
section
/-! DEFINITION. The commands of the device: one constructor for each row of the table of operations and events
(spec/opcode_table.json), with the operands that the row's rule names. An operand that the spec leaves to the world outside
the device's rules (what a decoder found, what a pin did, what a partner answered) is an operand of the event. -/

namespace Sys2Proof

/-- The requester of a Pattern Book request: the path it arrives on (R467), its role (0 none, 1 operator, 2 admin, 3 vendor)
and its world (R466). -/
structure Who where
  path : Nat
  role : Nat
  secure : Bool
  deriving DecidableEq, Repr

/-- MetaValue of a CXL.mem request (R48). -/
inductive MetaVal where
  | a
  | s
  | i
  deriving DecidableEq, Repr

/-- Answer of a host to a back-invalidation (R48). -/
inductive BiResp where
  | i
  | s
  | e
  deriving DecidableEq, Repr

/-- What the residue check of an instruction found (R157): it passed, it passed on the one re-run, or it failed twice. -/
inductive ResChk where
  | pass
  | retried
  | failed
  deriving DecidableEq, Repr

/-- What SEC-DED found in the local store words an instruction reads (R152). -/
inductive LsChk where
  | ok
  | corrected
  | uncorrectable
  deriving DecidableEq, Repr

/-- The core that issues an instruction, with what its residue check and its local store's SEC-DED find. -/
structure CoreCtx where
  core : Nat
  chk : ResChk
  ls : LsChk
  deriving DecidableEq, Repr

/-- A host write to an atomic window slot that covers bytes of REQUEST (R73, Table 04.1): the request word's fields ADDR and
TYPE (the row gives OP), its reserved bits, whether the write covered all of bytes 0 to 7, and the operand words it carries
(none: the slot keeps what an earlier write left there). -/
structure AtwReq where
  ld : Nat
  slot : Nat
  addr : Nat
  type : Nat
  rsvd : Nat
  full : Bool
  op1 : Option Nat
  op2 : Option Nat
  deriving DecidableEq, Repr

/-- A host write to a hint slot that covers bytes of HINT (R123, Tables 05.11 and 05.12). The row gives KIND. -/
structure HintReq where
  ld : Nat
  slot : Nat
  tile : Nat
  count : Nat
  rsvd : Nat
  full : Bool
  hold : Option Nat
  deriving DecidableEq, Repr

/-- One pace loop's reading at the end of a window (R31, R35): its pace, or a count that calibration does not allow. -/
inductive LoopReading where
  | pace (p : Nat)
  | bad
  deriving DecidableEq, Repr

/-- A host write to a job slot that covers bytes of SUBMIT (R201): its address field, its reserved bits, and whether it covered
all of bytes 0 to 7. -/
structure JobReq where
  ld : Nat
  slot : Nat
  addr : Nat
  rsvd : Nat
  full : Bool
  deriving DecidableEq, Repr

/-- A tile descriptor of a convert job: the job and the descriptor's index in its list (R142), and whether a lane's residue
check failed while it ran (R146). -/
structure DescRef where
  job : Nat
  index : Nat
  residueFailed : Bool
  deriving DecidableEq, Repr

/-- A CXL mailbox request: the logical device whose mailbox carries it. -/
structure MboxReq where
  ld : Nat
  fm : Bool
  deriving DecidableEq, Repr

/-- A shaper record as a SET object carries it (Table 16.2). -/
structure ShaperArg where
  mode : Bool
  reset : Bool
  rsvd : Nat
  cir : Nat
  pir : Nat
  cbs : Nat
  pbs : Nat
  deriving DecidableEq, Repr

/-- What reading a DRAM line found (R253, R257, R258, R394). -/
inductive EccOutcome where
  | clean
  | corrected (nibble : Nat)
  | rereadOk
  | uncorrectable (otherHalfOk : Bool)
  deriving DecidableEq, Repr


/-- A message of a management carrier (R469, R481, R482): carrier 0 management Ethernet, 1 MCTP, 2 a mailbox; the source address,
endpoint ID or logical device; and the bytes of the message. -/
structure TackIn where
  carrier : Nat
  src : Nat
  bytes : List Byte
  deriving DecidableEq, Repr

/-- Who sent an SPDM request (R427): a logical device on its mailbox, or an MCTP endpoint. -/
structure SpdmReq where
  mbox : Bool
  src : Nat
  deriving DecidableEq, Repr

/-- What a canary step found (R407, R408): the step that did not match its expected content or TCRC (0 none, 2 the check of TCRC,
3 the conversion), and whether the repeat of the step did not match either. -/
structure CanaryOutcome where
  failed : Nat
  again : Bool
  deriving DecidableEq, Repr

/-- A DRAM channel as boot step 4 finds it (R245 to R248): its capacity in GiB (0 absent), DRAM_ORG, speed grade, temperature, training
margin, whether it trained, and whether it is retained (R512). -/
structure DramFind where
  cap : Nat
  org : Nat
  grade : Nat
  temp : Int
  margin : Nat
  trained : Bool
  retained : Bool
  deriving DecidableEq, Repr

/-- A flash channel as boot step 4 finds it (R275, R276): present, trained, its targets in service and the raw capacity of each. -/
structure FlashFind where
  present : Bool
  trained : Bool
  targets : Nat
  targetGib : Nat
  deriving DecidableEq, Repr

/-- What the boot step that ends found in the world outside the rules (Table 24.3): the channels (step 4), whether the retained far maps
pass their check (step 5), tiles whose tag entry fails CHK and panels whose self-test fails (step 6). -/
structure BootReport where
  dram : List DramFind
  flash : List FlashFind
  mapsOk : Bool
  badTags : List Nat
  panelFails : List Nat
  deriving DecidableEq, Repr

/-- Instructions of the TAP (R443, R534): the four of IEEE 1149.1 that work in every state, and any other, by its code. -/
inductive JtagInstr where
  | bypass
  | idcode
  | samplePreload
  | extest
  | other (code : Nat)
  deriving DecidableEq, Repr

/-- The commands. -/
inductive Instr where
  /-- REGION_CREATE (R19). Administrator writes a creation argument; the Pilot checks it in arrival order and either records a new region or returns a failure status. -/
  | regionCreate (w : Who) (arg : Nat)
  /-- REGION_LIVE (R18). A reserving region's tiles are all resident and zero-filled, so the region enters LIVE and is offered to logical devices. -/
  | regionLive (region : Nat)
  /-- PACE_WINDOW_END (R31). At the end of each 1,024-tick window the device counts pace-loop tokens and publishes each block's pace. -/
  | paceWindowEnd (readings : List LoopReading)
  /-- PACE_LOW_WATER_CLEAR (R38). Command sets PACE_LOW_WATER to the current PACE_MIN. -/
  | paceLowWaterClear (w : Who)
  /-- SYSCLK25_LOSS (R40). No SYSCLK25 edge for 400 ns switches five islands to the backup oscillator without resetting them. -/
  | sysclk25Loss
  /-- PLL_LOCK_LOSS (R41). An island PLL loses lock; the island is held in reset and its ports, channels or the device are handled as faulted. -/
  | pllLockLoss (island port : Nat)
  /-- PLL_RELOCK (R41). An island PLL relocks and the island leaves reset. -/
  | pllRelock (island port : Nat)
  /-- MEM_RD (R53). A CXL.mem MemRd is stamped, checked, metered and applied by both planes per its MetaValue, with recalls and data returned. -/
  | memRd (ld tag hpa : Nat) (m : MetaVal)
  /-- MEM_RD_DATA (R53). A MemRdData takes a shared copy of the line and returns data. -/
  | memRdData (ld tag hpa : Nat)
  /-- MEM_INV (R53). A MemInv changes the line's state per its MetaValue without returning data. -/
  | memInv (ld tag hpa : Nat) (m : MetaVal)
  /-- MEM_WR (R53). A full-line MemWr is applied after any needed recalls, leaving the line in the state its MetaValue asks. -/
  | memWr (ld tag hpa : Nat) (m : MetaVal) (data : List Byte) (poison : Bool)
  /-- MEM_WR_PTL (R53). A partial-line write is applied after any needed recalls, leaving the line invalid. -/
  | memWrPtl (ld tag hpa : Nat) (m : MetaVal) (data : List Byte) (mask : List Bool) (poison : Bool)
  /-- MEM_CLN_EVCT (R53). A host drops a clean copy and the plane removes it from the line's holders. -/
  | memClnEvct (ld tag hpa : Nat)
  /-- MEM_SPEC_RD (R54). A speculative read starts a read of the line into the home slice and gets no response. -/
  | memSpecRd (ld hpa : Nat)
  /-- BIRSP (R53). A host's back-invalidation answer, with any write-back, updates the entry and releases the waiting request. -/
  | biRsp (agent line : Nat) (resp : BiResp) (wb : Option (List Byte))
  /-- BICONFLICT (R58). A host with a request outstanding signals a conflict and receives completion or BIConflictAck in home-slice order. -/
  | biConflict (agent line : Nat)
  /-- BISNP_TIMEOUT (R61). A back-invalidation unanswered for BISNP_TIMEOUT declares the agent dead. -/
  | bisnpTimeout (agent line : Nat)
  /-- DEAD_AGENT_SWEEP_END (R66). The sweep of a dead agent's entries ends, its remaining owned lines are poisoned and logged, and the agent becomes dead-fenced. -/
  | deadAgentSweepEnd (agent : Nat)
  /-- MANIFEST_REMAP_MARKER (R52). At a re-map marker both planes move a set's entries to the smaller set count, evicting where needed. -/
  | manifestRemapMarker (set : Nat)
  /-- TILE_RECALL_COMPLETE (R102). No entry of the tile remains; the recalling tile demotes, drops or returns to its former state per ABANDON. -/
  | tileRecallComplete (tile : Nat)
  /-- RANGE_RECALL_COMPLETE (R70). No entry remains in the recalled range, completing the release, decoder change or removal that started it. -/
  | rangeRecallComplete (id : Nat)
  /-- DEAD_POISON_LOG_CLEAR (R68). Command empties the dead-agent poison log. -/
  | deadPoisonLogClear (w : Who)
  /-- ATW_LOAD (R78). Atomic window LOAD returns the operand's old value. -/
  | atwLoad (r : AtwReq)
  /-- ATW_STORE (R78). Atomic window STORE writes OPERAND1. -/
  | atwStore (r : AtwReq)
  /-- ATW_SWAP (R78). Atomic window SWAP writes OPERAND1 and returns the old value. -/
  | atwSwap (r : AtwReq)
  /-- ATW_CAS (R78). Atomic window CAS writes OPERAND1 only if the old value equals OPERAND2. -/
  | atwCas (r : AtwReq)
  /-- ATW_ADD (R79). Atomic window ADD adds OPERAND1 with the stated wrap and flags. -/
  | atwAdd (r : AtwReq)
  /-- ATW_MIN (R79). Atomic window MIN keeps the minimum of old and OPERAND1. -/
  | atwMin (r : AtwReq)
  /-- ATW_MAX (R79). Atomic window MAX keeps the maximum of old and OPERAND1. -/
  | atwMax (r : AtwReq)
  /-- ATW_AND (R78). Atomic window AND on an integer operand. -/
  | atwAnd (r : AtwReq)
  /-- ATW_OR (R78). Atomic window OR on an integer operand. -/
  | atwOr (r : AtwReq)
  /-- ATW_XOR (R78). Atomic window XOR on an integer operand. -/
  | atwXor (r : AtwReq)
  /-- ATW_ADD_CAP (R79). Atomic window ADD_CAP adds OPERAND1 only if the sum does not pass OPERAND2. -/
  | atwAddCap (r : AtwReq)
  /-- HOME_EXECUTION (R88). Once recalls are answered, the fixed-function unit reads, modifies and writes the line indivisibly and posts the status. -/
  | homeExecution (line : Nat) (checkOk : Bool)
  /-- ATW_STATUS_READ (R76). A read of a slot's status is held until its operation ends or the hold expires. -/
  | atwStatusRead (ld slot tag : Nat)
  /-- ATW_HOLD_EXPIRY (R76). The status read hold expires and the read returns PENDING. -/
  | atwHoldExpiry (ld slot : Nat)
  /-- PRED_DECAY_MARKER (R85). Every PRED_DECAY the Pilot passes a decay marker through each home slice, lowering idle AHT records. -/
  | predDecayMarker
  /-- CHUNK_PLACED (R104). A promoted 4 KiB chunk is placed in its frame, its lines become valid and waiters are served; the last chunk ends the promotion. -/
  | chunkPlaced (tile chunk : Nat) (suspended : Bool)
  /-- FAR_COPY_COMMIT (R283). A demotion's program succeeds; the log entry is written and the tile becomes FAR, ZERO or clean. -/
  | farCopyCommit (tile : Nat)
  /-- EVICTION_SWEEP (R119). Free frames below FERRY_FREE_LOW start the channel's sweep choosing victims until the level is restored. -/
  | evictionSweep (chan : Nat)
  /-- AGE_TICK (R121). Each FERRY_AGE_TICK ages resident tiles and starts cleaning of old dirty tiles. -/
  | ageTick
  /-- SLIPWAY_SLOT_GRANTED (R109). A freed slot goes to a waiting crossing in class order, which then waits for its higher endpoint or starts. -/
  | slipwaySlotGranted (endpoint : Nat)
  /-- SLIPWAY_AGING_LIMIT (R110). A crossing waiting longer than FERRY_AGING_LIMIT at an endpoint is served as class 0 there. -/
  | slipwayAgingLimit (endpoint tile : Nat)
  /-- HINT_PROMOTE (R124). A PROMOTE hint brings its tiles resident. -/
  | hintPromote (r : HintReq)
  /-- HINT_DEMOTE (R124). A DEMOTE hint evicts its tiles to FAR or ZERO. -/
  | hintDemote (r : HintReq)
  /-- HINT_STAGE (R124). A STAGE hint brings tiles resident and holds them for HOLD ms. -/
  | hintStage (r : HintReq)
  /-- HINT_PIN (R126). A PIN hint pins its tiles resident, or is refused whole past a pin limit. -/
  | hintPin (r : HintReq)
  /-- HINT_UNPIN (R124). An UNPIN hint clears PIN on its tiles. -/
  | hintUnpin (r : HintReq)
  /-- HINT_UNSTAGE (R124). An UNSTAGE hint clears STAGE on its tiles. -/
  | hintUnstage (r : HintReq)
  /-- STAGE_EXPIRY (R125). A staged tile's hold expires; it loses STAGE and its table entry frees. -/
  | stageExpiry (tile : Nat)
  /-- CONVERT (R144). A CONVERT descriptor reads, checks, converts and writes a destination, sealing it and writing a result record. -/
  | convert (d : DescRef)
  /-- DECLARE (R145). A DECLARE descriptor computes TCRC over a tile and writes a typed sealed header without changing data. -/
  | declare (d : DescRef)
  /-- UNDECLARE (R145). An UNDECLARE descriptor writes the raw header with TYPED and SEALED clear. -/
  | undeclare (d : DescRef)
  /-- ALU_ADD (R172). ALU add of two registers. -/
  | aluAdd (c : CoreCtx) (rd ra rb : Nat)
  /-- ALU_SUB (R172). ALU subtract. -/
  | aluSub (c : CoreCtx) (rd ra rb : Nat)
  /-- ALU_AND (R172). ALU bitwise and. -/
  | aluAnd (c : CoreCtx) (rd ra rb : Nat)
  /-- ALU_OR (R172). ALU bitwise or. -/
  | aluOr (c : CoreCtx) (rd ra rb : Nat)
  /-- ALU_XOR (R172). ALU bitwise xor. -/
  | aluXor (c : CoreCtx) (rd ra rb : Nat)
  /-- SLL (R172). Shift left logical by RB[4:0]. -/
  | sll (c : CoreCtx) (rd ra rb : Nat)
  /-- SRL (R172). Shift right logical. -/
  | srl (c : CoreCtx) (rd ra rb : Nat)
  /-- SRA (R172). Shift right arithmetic. -/
  | sra (c : CoreCtx) (rd ra rb : Nat)
  /-- SLT (R172). Signed less-than compare writing 1 or 0. -/
  | slt (c : CoreCtx) (rd ra rb : Nat)
  /-- SLTU (R172). Unsigned less-than compare. -/
  | sltu (c : CoreCtx) (rd ra rb : Nat)
  /-- MUL (R172). Multiply, low 32 bits. -/
  | mul (c : CoreCtx) (rd ra rb : Nat)
  /-- MULH (R172). Multiply, high 32 bits signed. -/
  | mulh (c : CoreCtx) (rd ra rb : Nat)
  /-- MULHU (R172). Multiply, high 32 bits unsigned. -/
  | mulhu (c : CoreCtx) (rd ra rb : Nat)
  /-- ALU_MIN (R172). Signed minimum. -/
  | aluMin (c : CoreCtx) (rd ra rb : Nat)
  /-- ALU_MAX (R172). Signed maximum. -/
  | aluMax (c : CoreCtx) (rd ra rb : Nat)
  /-- MINU (R172). Unsigned minimum. -/
  | minu (c : CoreCtx) (rd ra rb : Nat)
  /-- MAXU (R172). Unsigned maximum. -/
  | maxu (c : CoreCtx) (rd ra rb : Nat)
  /-- ADDI (R171). Add sign-extended immediate. -/
  | addi (c : CoreCtx) (rd ra imm : Nat)
  /-- ANDI (R171). And zero-extended immediate. -/
  | andi (c : CoreCtx) (rd ra imm : Nat)
  /-- ORI (R171). Or zero-extended immediate. -/
  | ori (c : CoreCtx) (rd ra imm : Nat)
  /-- XORI (R171). Xor zero-extended immediate. -/
  | xori (c : CoreCtx) (rd ra imm : Nat)
  /-- SLTI (R171). Signed compare with immediate. -/
  | slti (c : CoreCtx) (rd ra imm : Nat)
  /-- SLTIU (R171). Unsigned compare with immediate. -/
  | sltiu (c : CoreCtx) (rd ra imm : Nat)
  /-- SHI_LEFT (R171). SHI with IMM[6:5] 0 shifts left by an immediate amount. -/
  | shiLeft (c : CoreCtx) (rd ra amount : Nat)
  /-- SHI_LOGICAL_RIGHT (R171). SHI with IMM[6:5] 1 shifts right logically. -/
  | shiLogicalRight (c : CoreCtx) (rd ra amount : Nat)
  /-- SHI_ARITHMETIC_RIGHT (R171). SHI with IMM[6:5] 2 shifts right arithmetically. -/
  | shiArithmeticRight (c : CoreCtx) (rd ra amount : Nat)
  /-- LUI (R171). Load upper immediate. -/
  | lui (c : CoreCtx) (rd imm : Nat)
  /-- RDSR (R173). Read a special register, latching a TSX snapshot for TIME. -/
  | rdsr (c : CoreCtx) (rd sr : Nat)
  /-- WRSR (R173). Write FLAGS bits [3:0]; any other target raises illegal instruction. -/
  | wrsr (c : CoreCtx) (ra sr : Nat)
  /-- LW (R174). Load word from local store. -/
  | lw (c : CoreCtx) (rd ra imm : Nat)
  /-- LH (R174). Load signed halfword. -/
  | lh (c : CoreCtx) (rd ra imm : Nat)
  /-- LHU (R174). Load unsigned halfword. -/
  | lhu (c : CoreCtx) (rd ra imm : Nat)
  /-- LB (R174). Load signed byte. -/
  | lb (c : CoreCtx) (rd ra imm : Nat)
  /-- LBU (R174). Load unsigned byte. -/
  | lbu (c : CoreCtx) (rd ra imm : Nat)
  /-- SW (R174). Store word to local store. -/
  | sw (c : CoreCtx) (rd ra imm : Nat)
  /-- SH (R174). Store halfword. -/
  | sh (c : CoreCtx) (rd ra imm : Nat)
  /-- SB (R174). Store byte. -/
  | sb (c : CoreCtx) (rd ra imm : Nat)
  /-- BEQ (R171). Branch if equal. -/
  | beq (c : CoreCtx) (ra rb off : Nat)
  /-- BNE (R171). Branch if not equal. -/
  | bne (c : CoreCtx) (ra rb off : Nat)
  /-- BLT (R171). Branch if signed less. -/
  | blt (c : CoreCtx) (ra rb off : Nat)
  /-- BGE (R171). Branch if signed greater or equal. -/
  | bge (c : CoreCtx) (ra rb off : Nat)
  /-- BLTU (R171). Branch if unsigned less. -/
  | bltu (c : CoreCtx) (ra rb off : Nat)
  /-- BGEU (R171). Branch if unsigned greater or equal. -/
  | bgeu (c : CoreCtx) (ra rb off : Nat)
  /-- JAL (R171). Jump and link by a signed immediate. -/
  | jal (c : CoreCtx) (rd imm : Nat)
  /-- JALR (R171). Jump and link to a register plus immediate. -/
  | jalr (c : CoreCtx) (rd ra imm : Nat)
  /-- LOP (R175). Lane operation computing the class of the named pattern slot in every enabled lane, with residue checking. -/
  | lop (c : CoreCtx) (ps vd va vb pk gr : Nat)
  /-- PLD (R179). Pattern load checks PCHK and combination before writing the slot. -/
  | pld (c : CoreCtx) (slot ra imm : Nat)
  /-- VLD (R178). Load lanes from consecutive local store words. -/
  | vld (c : CoreCtx) (v ga n off : Nat)
  /-- VST (R178). Store lanes to local store. -/
  | vst (c : CoreCtx) (v ga n off : Nat)
  /-- VINS (R171). Insert a general register into one lane. -/
  | vins (c : CoreCtx) (v g lane : Nat)
  /-- VEXT (R171). Extract one lane into a general register. -/
  | vext (c : CoreCtx) (v g lane : Nat)
  /-- ACC_ZERO (R171). ACC with G 0 zeroes an accumulator. -/
  | accZero (c : CoreCtx) (v lane : Nat)
  /-- ACC_READ (R171). ACC with G 1 reads an accumulator into a register pair. -/
  | accRead (c : CoreCtx) (v lane : Nat)
  /-- ACC_WRITE (R171). ACC with G 2 writes an accumulator from a register pair. -/
  | accWrite (c : CoreCtx) (v lane : Nat)
  /-- LRD (R180). Pool line read into one local store block. -/
  | lrd (c : CoreCtx) (gb gp gx : Nat)
  /-- LWR (R180). Pool full line write from one block. -/
  | lwr (c : CoreCtx) (gb gp gx : Nat)
  /-- LWP (R180). Pool partial line write of a byte range. -/
  | lwp (c : CoreCtx) (gb gp gx : Nat)
  /-- CRD (R180). Pool chunk read into 64 blocks. -/
  | crd (c : CoreCtx) (gb gp gx : Nat)
  /-- CWR (R180). Pool chunk write from 64 blocks. -/
  | cwr (c : CoreCtx) (gb gp gx : Nat)
  /-- HRD (R180). Reads a tile header into a block and starts a watch. -/
  | hrd (c : CoreCtx) (gb gp gx : Nat)
  /-- WOPEN (R182). Starts a panel watch on a tile. -/
  | wopen (c : CoreCtx) (gb gp gx : Nat)
  /-- WCHK (R182). Reports whether the panel's watch on a tile is intact. -/
  | wchk (c : CoreCtx) (gb gp gx : Nat)
  /-- HWR (R182). Writes a tile header, sealing only when the watch is intact. -/
  | hwr (c : CoreCtx) (gb gp gx : Nat)
  /-- POOL_DATA_LANDED (R181). Data of an issued pool read lands in its blocks, which become free and release waiting instructions. -/
  | poolDataLanded (core xfer : Nat)
  /-- AMO (R184). Core atomic executed at home, writing the old value and status to registers. -/
  | amo (c : CoreCtx) (rd gp gx gs : Nat)
  /-- FENCE (R183). Waits until every earlier pool transfer of the core has ended. -/
  | fence (c : CoreCtx)
  /-- SEND (R185). Sends a message on a neighbour link or through the weave port, waiting while the queue is full. -/
  | send (c : CoreCtx) (first target len port tag : Nat)
  /-- RECV (R186). Takes the oldest message of a queue, or waits, or returns at once with TRY. -/
  | recv (c : CoreCtx) (first hdr len port tag : Nat)
  /-- CORE_MESSAGE (R187). A core message cell arrives at its target core's weave inbound queue. -/
  | coreMessage (panel : Nat)
  /-- BAR (R189). Barrier arrival; the last named core releases all waiters. -/
  | bar (c : CoreCtx) (ra barrier : Nat)
  /-- TCHK (R190). Raises a user trap when the comparison holds. -/
  | tchk (c : CoreCtx) (cond ra rb fn : Nat)
  /-- CRCB (R190). Updates a CRC-32C register over one 64-byte block. -/
  | crcb (c : CoreCtx) (rd ra imm : Nat)
  /-- END (R191). Waits as FENCE does and ends the core's task. -/
  | taskEnd (c : CoreCtx)
  /-- JOB_SUBMIT (R204). A slot SUBMIT with ACTION 0 runs admission checks and queues the job or refuses it. -/
  | jobSubmit (r : JobReq) (action : Nat)
  /-- JOB_CANCEL (R212). A SUBMIT with ACTION 1 ends the named job with ABORTED_BERTH 0xC0. -/
  | jobCancel (r : JobReq)
  /-- JOB_PLACE (R205). When panels free, the scheduler places queue heads in priority order, lending panels where allowed. -/
  | jobPlace
  /-- QUANTUM_EXPIRY (R206). A queue head that waited longer than JOB_QUANTUM pre-empts a running job of equal priority. -/
  | quantumExpiry (job : Nat)
  /-- SAVE_COMPLETE (R216). A job's panel save areas are written and the job shows PREEMPTED. -/
  | saveComplete (job : Nat)
  /-- RESTORE_COMPLETE (R216). A saved job's state is read back and its cores are released. -/
  | restoreComplete (job : Nat) (scrcOk : Bool)
  /-- IMAGE_LOADED (R199). A placement image has been loaded and checked, and its tasks start. -/
  | imageLoaded (job : Nat)
  /-- TLIMIT_CHECK (R212). The millisecond check finds a job at its time limit and stops it with FAULT_CHECK 0x83. -/
  | tlimitCheck (job : Nat)
  /-- GRID_SAVE_ALL (R218). Command pre-empts every running job at once, or is refused when save slots are full. -/
  | gridSaveAll (w : Who)
  /-- ROUTE_CHANGE (R240). The Pilot writes the inactive route banks and flips the epoch at every interface. -/
  | routeChange
  /-- ROUTE_DRAIN_COMPLETE (R240). No old-epoch packet remains and the route change is reported complete. -/
  | routeDrainComplete
  /-- ACKNOWLEDGEMENT (R233). A TYPE 0x58 cell acknowledges a long packet or merged mask delivery. -/
  | acknowledgement (src ref refkind delivered sunk endpoint : Nat)
  /-- DEAD_ENDPOINT_ANSWER (R236). A TYPE 0x4F cell reaches a requester, which handles its access as uncorrectable. -/
  | deadEndpointAnswer (src ref endpoint : Nat)
  /-- CREDIT_RETURN (R226). A credit or grant cell returns room to a sender on A CH2. -/
  | creditReturn (kind src dst n : Nat)
  /-- WAIT_NOTICE (R398). A TYPE 0x5F cell re-arms the requester's reply timer. -/
  | waitNotice (src ref : Nat)
  /-- REPLY_TIMEOUT (R398). A reply timer expires; the request is treated as answered by TYPE 0x4F, or a long packet is resent once. -/
  | replyTimeout (src ref : Nat)
  /-- DRAM_LINE_READ (R253). A DRAM line read returns, is ECC-decoded, and is corrected, re-read, repaired or poisoned. -/
  | dramLineRead (chan line : Nat) (o : EccOutcome)
  /-- ALL_BANK_REFRESH (R254). Each tREFI a rank is refreshed, with periodic maintenance issued inside the stall. -/
  | allBankRefresh (chan rank : Nat) (drift : Bool)
  /-- PAGE_IDLE_PRECHARGE (R251). A bank idle for DRAM_PAGE_IDLE has its row precharged. -/
  | pageIdlePrecharge (chan bank : Nat)
  /-- DIMM_TEMP_SAMPLE (R254). Every 8 ms each DIMM sensor is read, choosing tREFI and applying the temperature limit. -/
  | dimmTempSample (temps : List Int)
  /-- DRAM_SCRUB_READ (R259). The background scrub reads each line once per scrub period and handles its errors. -/
  | dramScrubRead (chan area line : Nat) (o : EccOutcome)
  /-- CA_PARITY_ALERT (R260). ALERT_N reports CA parity and the slice replays commands from its buffer. -/
  | caParityAlert (chan replays : Nat) (failed : Bool)
  /-- WRITE_CRC_ALERT (R260). ALERT_N reports a write CRC error and the slice replays the write. -/
  | writeCrcAlert (chan replays : Nat) (failed : Bool)
  /-- DRAM_RETIRE (R266). Command starts or queues a graceful retirement of a DRAM channel. -/
  | dramRetire (w : Who) (arg : Nat)
  /-- DRAM_RETIREMENT_STEP (R267). A step of a graceful DRAM retirement ends and the next begins, until the channel is RETIRED. -/
  | dramRetirementStep
  /-- DRAM_CHANNEL_LOST (R271). A channel fails replay or stops answering for 10 µs; its contents are resolved per Table 11.9. -/
  | dramChannelLost (chan cause : Nat)
  /-- DRAM_LOG_CLEAR (R263). Command empties the DRAM error log. -/
  | dramLogClear (w : Who)
  /-- FAR_READ_FAILURE (R288). A far-shore read fails and a rebuild from the row is started or known to fail. -/
  | farReadFailure (tile chunk : Nat) (check : Bool)
  /-- REBUILD_COMPLETE (R288). A rebuild delivers the chunk, or poisons it under R289, and schedules a rewrite. -/
  | rebuildComplete (tile chunk : Nat) (ok : Bool)
  /-- PROGRAM_FAILURE (R290). A flash program fails; the block set is retired and the write retried elsewhere. -/
  | programFailure (chan block : Nat)
  /-- ERASE_FAILURE (R290). A flash erase fails and the block set is retired. -/
  | eraseFailure (chan block : Nat)
  /-- ROW_FLUSH (R279). FAR_ROW_FLUSH after a row's first program, its parity is programmed. -/
  | rowFlush (group : Nat)
  /-- MERGE (R284). Live log entries past FAR_MERGE_START start a merge of the fullest logical block. -/
  | merge (group : Nat)
  /-- BAND_RECLAIM (R285). Free bands below the low level reclaim the band with fewest live slots, or move cold data for wear. -/
  | bandReclaim (group : Nat)
  /-- TRANSLATION_CHECKPOINT (R286). Every 2^20 slots the flash manager checkpoints both maps. -/
  | translationCheckpoint
  /-- PFAIL (R291). PFAIL_N falls; the device stops crossings, finishes programs and parity and writes checkpoint markers. -/
  | pfail
  /-- FLASH_CHANNEL_LOST (R294). A flash channel silent for 100 µs is lost and served by rebuild. -/
  | flashChannelLost (chan : Nat)
  /-- FLX_LOSS_TIMEOUT (R294). One second after an FLX PLL loss without relock, the channels stay LOST and the rebuild sweep starts. -/
  | flxLossTimeout
  /-- FLX_RELOCK (R294). FLX relocks within 1 s and its channels return to service with waiting reads issued. -/
  | flxRelock
  /-- FLASH_RETIRE (R293). Command starts, queues or refuses a flash channel retirement. -/
  | flashRetire (w : Who) (arg : Nat)
  /-- FLASH_RETIREMENT_END (R293). A retiring flash channel's live slots are moved and it becomes RETIRED. -/
  | flashRetirementEnd
  /-- LINK_UP (R301). Training ends in 256- or 68-byte flit mode and the link's logical devices go live. -/
  | linkUp (link : Nat) (flit256 : Bool) (rate width : Nat)
  /-- LINK_DOWN (R317). A data link goes down; accepted transactions complete with responses discarded and agents die. -/
  | linkDown (link : Nat)
  /-- LINK_RECOVERY (R299). A lane bucket trip or replay limit retrains the link narrower or slower through Recovery. -/
  | linkRecovery (link : Nat)
  /-- RECOVERY_END (R301). Recovery ends in the same flit mode and the link returns to its UP state. -/
  | recoveryEnd (link : Nat) (ok sameFlit : Bool)
  /-- PERST (R528). A PERST_N low of at least 1 µs takes the link down and holds it from training. -/
  | perst (link : Nat)
  /-- DECODER_COMMIT (R313). A configuration write setting Commit commits the decoder or returns error-not-committed. -/
  | decoderCommit (ld n hpa size dpa ways : Nat)
  /-- DECODER_UNCOMMIT (R313). Clearing Commit uncommits the decoder, after an agent-filtered recall for HDM-DB. -/
  | decoderUncommit (ld n : Nat)
  /-- FUNCTION_LEVEL_RESET (R315). Resets one logical device: decoders uncommit, slots reset, agent dies if holding lines. -/
  | functionLevelReset (ld : Nat)
  /-- CXL_RESET (R315). CXL Reset of a logical device, acting as function-level reset. -/
  | cxlReset (ld : Nat)
  /-- SET_LD_ALLOCATIONS (R302). Fabric-manager command enables or disables logical devices, applied whole or not at all. -/
  | setLdAllocations (r : MboxReq) (start : Nat) (allocs : List Nat)
  /-- GET_LD_INFO (R310). Fabric-manager command returns logical device information. -/
  | getLdInfo (r : MboxReq)
  /-- GET_LD_ALLOCATIONS (R310). Fabric-manager command returns allocations. -/
  | getLdAllocations (r : MboxReq) (start limit : Nat)
  /-- GET_DC_REGION_CONFIGURATION (R310). Fabric-manager command returns DC region configuration. -/
  | getDcRegionConfiguration (r : MboxReq)
  /-- GET_DC_EXTENT_LISTS (R310). Fabric-manager command returns extent lists. -/
  | getDcExtentLists (r : MboxReq) (start count : Nat)
  /-- UNSUPPORTED_COMMAND (R310). Any mailbox or fabric-manager command not implemented returns Unsupported. -/
  | unsupportedCommand (r : MboxReq) (opcode : Nat)
  /-- IDENTIFY_MEMORY_DEVICE (R310). Mailbox command returns the device's memory identity. -/
  | identifyMemoryDevice (r : MboxReq)
  /-- GET_SUPPORTED_LOGS (R310). Mailbox command lists the Command Effects Log. -/
  | getSupportedLogs (r : MboxReq)
  /-- GET_LOG (R310). Mailbox command returns the Command Effects Log. -/
  | getLog (r : MboxReq) (cel : Bool) (offset len : Nat)
  /-- GET_EVENT_RECORDS (R403). Mailbox command returns queued event records. -/
  | getEventRecords (r : MboxReq) (log : Nat)
  /-- CLEAR_EVENT_RECORDS (R310). Mailbox command clears event records. -/
  | clearEventRecords (r : MboxReq) (log : Nat) (all : Bool) (handles : List Nat)
  /-- GET_EVENT_INTERRUPT_POLICY (R310). Mailbox command returns the event interrupt policy. -/
  | getEventInterruptPolicy (r : MboxReq)
  /-- SET_EVENT_INTERRUPT_POLICY (R310). Mailbox command sets the event interrupt policy. -/
  | setEventInterruptPolicy (r : MboxReq) (policy : Nat)
  /-- GET_TIMESTAMP (R310). Mailbox command returns the timestamp. -/
  | getTimestamp (r : MboxReq)
  /-- SET_TIMESTAMP (R310). Mailbox command records an offset from TIME48 for event records. -/
  | setTimestamp (r : MboxReq) (stamp : Nat)
  /-- GET_FW_INFO (R310). Mailbox command returns firmware information. -/
  | getFwInfo (r : MboxReq)
  /-- TRANSFER_FW (R454). Mailbox command stages a firmware bundle. -/
  | transferFw (r : MboxReq) (action offset : Nat) (data : List Byte)
  /-- ACTIVATE_FW (R455). Mailbox command activates staged images at the next reset; online activation is Unsupported. -/
  | activateFw (r : MboxReq) (action mask : Nat)
  /-- GET_HEALTH_INFO (R310). Mailbox command returns device-wide health. -/
  | getHealthInfo (r : MboxReq)
  /-- GET_ALERT_CONFIGURATION (R310). Mailbox command returns alert configuration. -/
  | getAlertConfiguration (r : MboxReq)
  /-- SET_ALERT_CONFIGURATION (R310). Mailbox command sets alert configuration. -/
  | setAlertConfiguration (r : MboxReq) (value : Nat)
  /-- GET_POISON_LIST (R310). Mailbox command lists poisoned lines within the device's accepted extents. -/
  | getPoisonList (r : MboxReq) (dpa len : Nat)
  /-- INJECT_POISON (R310). Mailbox command poisons a line in DEVELOP or RETURNED. -/
  | injectPoison (r : MboxReq) (dpa : Nat)
  /-- CLEAR_POISON (R310). Mailbox command writes given bytes to a line as a device write. -/
  | clearPoison (r : MboxReq) (dpa : Nat) (data : List Byte)
  /-- GET_DYNAMIC_CAPACITY_CONFIGURATION (R310). Mailbox command returns DC region 0. -/
  | getDynamicCapacityConfiguration (r : MboxReq)
  /-- GET_DYNAMIC_CAPACITY_EXTENT_LIST (R310). Mailbox command returns the extent list. -/
  | getDynamicCapacityExtentList (r : MboxReq) (start count : Nat)
  /-- ADD_DYNAMIC_CAPACITY_RESPONSE (R24). Host accepts offered extents; those not accepted are refused and withdrawn. -/
  | addDynamicCapacityResponse (r : MboxReq) (answered accepted : List Nat)
  /-- RELEASE_DYNAMIC_CAPACITY (R311). Host releases an extent; later requests are outside and an agent-filtered recall starts. -/
  | releaseDynamicCapacity (r : MboxReq) (regions : List Nat)
  /-- RELEASE_COMPLETE (R311). The recall and prior requests end and the extent leaves the list. -/
  | releaseComplete (ld region : Nat)
  /-- DC_RELEASE_TIMEOUT (R312). An extent not released in time is withdrawn as if released. -/
  | dcReleaseTimeout (ld region : Nat)
  /-- PATTERN_BOOK_TUNNEL (R482). Mailbox vendor command carries one Tack message and returns its response. -/
  | patternBookTunnel (r : MboxReq) (message : List Byte)
  /-- SEAM_DETECT (R324). A receiver is detected and the Seam port begins training. -/
  | seamDetect (port : Nat)
  /-- SEAM_TRAINING_END (R322). Training ends with a width, a partner check, mismatch, loopback or failure. -/
  | seamTrainingEnd (port unit flight : Nat) (ok : Bool) (rx tx : List Nat)
  /-- SEAM_DOWN_TIMEOUT (R324). 1 ms after DOWN the port returns to DETECT. -/
  | seamDownTimeout (port : Nat)
  /-- SEAM_LINK_DOWN (R338). A Seam port goes DOWN and its unanswered messages are resent on the other port or failed. -/
  | seamLinkDown (port cause : Nat)
  /-- IDLE_FRAME (R326). An IDLE frame is received, carrying acknowledgement fields. -/
  | idleFrame (port : Nat) (frame : List Byte)
  /-- CELL_FRAME (R326). A CELL frame is checked for FCRC and FSEQ and its Seam cells delivered. -/
  | cellFrame (port : Nat) (frame : List Byte)
  /-- DATA_FRAME (R326). A DATA frame carrying part of a long message is checked and accepted. -/
  | dataFrame (port : Nat) (frame : List Byte)
  /-- CTRL_FRAME (R331). A CTRL frame returns credits and carries acknowledgements and NAK. -/
  | ctrlFrame (port : Nat) (frame : List Byte)
  /-- ACK_FORCE (R330). SEAM_ACK_FORCE expires and the receiver sends an acknowledgement or credit return. -/
  | ackForce (port : Nat)
  /-- SEAM_REPLAY_TIMEOUT (R330). The oldest unacknowledged frame waited too long and every unacknowledged frame is resent. -/
  | seamReplayTimeout (port : Nat)
  /-- SPARE_REQ (R334). The transmitter copies a failing lane onto a spare and answers SPARE CONF. -/
  | spareReq (port lane spare sseq : Nat)
  /-- SPARE_CONF (R334). The receiver checks 32 frames on the spare and switches, sending SPARE DONE. -/
  | spareConf (port sseq : Nat) (ok : Bool)
  /-- SPARE_DONE (R334). The transmitter stops driving the replaced lane. -/
  | spareDone (port lane spare sseq : Nat)
  /-- LOOPBACK_REQUEST (R331). A loopback request is echoed within 2 µs. -/
  | loopbackRequest (port : Nat) (pattern : List Byte)
  /-- LOOPBACK_ECHO (R331). A loopback echo is compared with its request. -/
  | loopbackEcho (port : Nat) (pattern : List Byte)
  /-- SEAM_LOOPBACK_PERIOD (R357). Every period each up port sends a PRBS loopback request. -/
  | seamLoopbackPeriod
  /-- SEAM_HEARTBEAT (R363). A partner heartbeat in a CTRL frame updates liveness and its claim. -/
  | seamHeartbeat (port hseq claim unit time health : Nat)
  /-- MWRITE (R336). Mirror write of full lines applied as device writes and answered by MACK. -/
  | mwrite (port : Nat)
  /-- MPOISON (R336). Mirror write of lines as poison, answered by MACK. -/
  | mpoison (port : Nat)
  /-- MACK (R362). Mirror acknowledgement completes a tandem write or reveals a higher claim. -/
  | mack (port : Nat)
  /-- FETCH (R336). Partner asks for lines of one chunk, answered by FDATA or FNAK. -/
  | fetch (port : Nat)
  /-- FDATA (R336). The fetched lines arrive. -/
  | fdata (port : Nat)
  /-- FNAK (R336). A fetch is refused as poisoned, not current or outside a tandem region. -/
  | fnak (port : Nat)
  /-- CLAIM (R339). A received claim is answered GRANTED, FOLDED or REFUSED per Table 14.10. -/
  | claim (port : Nat)
  /-- CLAIM_ACK (R339). A claim answer starts the winner's transfer or ends the loser's claim. -/
  | claimAck (port : Nat)
  /-- PAIR_JOIN (R462). PAIR_REQ JOIN carries key check and firmware set, setting roles and mirroring. -/
  | pairJoin (port : Nat)
  /-- PAIR_LEASE (R364). PAIR_REQ LEASE from the primary is echoed by a lower-claim partner. -/
  | pairLease (port : Nat)
  /-- PAIR_HANDOVER (R366). PAIR_REQ HANDOVER makes the partner take a claim and become PRIMARY. -/
  | pairHandover (port : Nat)
  /-- PAIR_TAKEOVER (R366). PAIR_REQ TAKEOVER announces a standby's takeover. -/
  | pairTakeover (port : Nat)
  /-- PAIR_STEPDOWN (R362). PAIR_REQ STEPDOWN lists conflict spans for the winner to resync. -/
  | pairStepdown (port : Nat)
  /-- PAIR_REGION (R360). PAIR_REQ REGION creates, or with ARG1 0 removes, a tandem region on the partner. -/
  | pairRegion (port : Nat)
  /-- PAIR_VERIFY (R369). PAIR_REQ VERIFY is answered with the CRC of the partner's tile copy. -/
  | pairVerify (port : Nat)
  /-- PAIR_RSP (R370). A pair response arrives and completes its request. -/
  | pairRsp (port : Nat)
  /-- PLANE_ANSWER (R346). A plane answer reaches a landing, passed on if first and compared if second. -/
  | planeAnswer (tag cmp : Nat) (same : Bool)
  /-- PLANE_COMMAND (R345). A plane command reaches an output stage, executed if it carries the current claim, held if a follower's. -/
  | planeCommand (plane stage tag step line what claim : Nat)
  /-- MERGE_WINDOW_EXPIRY (R345). The second answer or command misses the merge window, a LATE divergence. -/
  | mergeWindowExpiry (tag : Nat)
  /-- RESOLVE_MARKER (R348). At the marker the line is recalled from all named agents and rewritten or poisoned. -/
  | resolveMarker (line failed : Nat)
  /-- PLANE_HEARTBEAT (R350). Every microsecond each plane sends a heartbeat on both paths. -/
  | planeHeartbeat (plane path : Nat)
  /-- PLANE_SILENCE (R350). Both heartbeat paths silent for 4 µs declare the plane failed. -/
  | planeSilence (plane path : Nat)
  /-- TAKEOVER (R352). A TAKEOVER cell installs the follower's claim at a stage, which executes held commands. -/
  | takeover (plane claim : Nat)
  /-- DUAL_ISSUE_WINDOW_END (R352). The dual-issue window ends and old-claim commands are refused. -/
  | dualIssueWindowEnd
  /-- PLANE_RETIRE (R351). Command retires the named plane unless it is the last. -/
  | planeRetire (w : Who) (arg : Nat)
  /-- PLANE_REJOIN (R354). Command returns a retired plane through claims, route change and set copy. -/
  | planeRejoin (w : Who) (arg : Nat)
  /-- COPY_MARKER (R354). At the marker the leader sends a set and its AHT records to the rejoining plane. -/
  | copyMarker (set : Nat)
  /-- MF_SCRUB_MARKER (R355). Every scrub period planes check CHK and compare set digests. -/
  | mfScrubMarker (set : Nat) (failA failB : List Nat) (differ : List Nat)
  /-- PANEL_TEST (R356). An idle unowned panel runs its self-test every PANEL_TEST_PERIOD. -/
  | panelTest (panel : Nat) (ok : Bool)
  /-- HEALTH_REFRESH (R358). Every 1 ms the health report is refreshed. -/
  | healthRefresh
  /-- HEALTH_CLEAR (R358). Command clears summary bits 4 to 6. -/
  | healthClear (w : Who)
  /-- PAIR_HEARTBEAT_SEND (R363). Every 10 µs a configured unit sends heartbeats on Seam and management paths. -/
  | pairHeartbeatSend
  /-- PARTNER_SILENT (R366). Nothing from the partner for PAIR_HB_LOSS; a standby takes over, a primary acts on its silence policy. -/
  | partnerSilent
  /-- LEASE_LAPSE (R364). The primary's lease lapses and tandem requests wait. -/
  | leaseLapse
  /-- TAKING_SERVE_START (R364). 52.5 µs after its last echo a TAKING unit begins to serve. -/
  | takingServeStart
  /-- OVERLAP_WINDOW_END (R365). 50 µs after an overlap takeover, old-primary mirror writes are refused. -/
  | overlapWindowEnd
  /-- PAIR_VERIFY_PERIOD (R369). Every period the primary checks the next tandem tile against the partner. -/
  | pairVerifyPeriod
  /-- PAIR_HANDOVER_CMD (R366). Command makes the primary drain and hand over to the partner. -/
  | pairHandoverCmd (w : Who)
  /-- PAIR_FORCE_PRIMARY (R366). Command makes a STALE or STANDBY unit take over at once. -/
  | pairForcePrimary (w : Who)
  /-- PAIR_PARTNER_UNIT (R359). Writing the partner unit configures the pair, or 0 unpairs the unit. -/
  | pairPartnerUnit (w : Who) (unit : Nat)
  /-- RESYNC_CLAIM (R367). When a Seam port comes back, the primary claims each marked span to resynchronise. -/
  | resyncClaim (span : Nat)
  /-- METER_REBALANCE (R378). Every period the Pilot redivides berth meter shares among landings. -/
  | meterRebalance
  /-- RED_QUEUE_RETEST (R380). A refilled meter re-meters the oldest red request, releasing or moving it. -/
  | redQueueRetest (link : Nat)
  /-- HOLD_RED_MEM_EXPIRY (R380). A red request held HOLD_RED_MEM enters the fabric without tokens. -/
  | holdRedMemExpiry (link : Nat)
  /-- HOLD_YELLOW_EXPIRY (R379). A yellow request reaches its hold bound and is released. -/
  | holdYellowExpiry (kind link : Nat)
  /-- BMETER_SHAPER_SET (R377). Command applies a shaper record to a berth meter at each landing's change point. -/
  | bmeterShaperSet (w : Who) (rec : ShaperArg)
  /-- PMETER_SHAPER_SET (R377). Command applies a shaper record to a port meter. -/
  | pmeterShaperSet (w : Who) (rec : ShaperArg)
  /-- BUCKET_LEAK (R387). Every W/N seconds a bucket above zero falls by one. -/
  | bucketLeak (source inst : Nat)
  /-- TILE_CHECKSUM_FAILURE (R397). A sealed tile fails TCRC; it is recalled and repaired, poisoned or contained. -/
  | tileChecksumFailure (tile : Nat)
  /-- CANARY_STEP (R407). Every CANARY_PERIOD a canary is promoted, checked, converted and demoted. -/
  | canaryStep (o : CanaryOutcome)
  /-- ERR_LOG_CLEAR (R400). Command empties the device error log. -/
  | errLogClear (w : Who)
  /-- DIV_LOG_CLEAR (R349). Command empties the divergence log. -/
  | divLogClear (w : Who)
  /-- BERTH_CREATE (R413). Command creates a berth with epoch 0 and a new key. -/
  | berthCreate (w : Who) (arg : Nat)
  /-- BERTH_DELETE (R424). Command ends jobs, releases panels, removes regions and grants, and returns the berth to UNDEFINED. -/
  | berthDelete (w : Who) (arg : Nat)
  /-- PANEL_ASSIGN (R415). Command assigns or releases a panel with a world. -/
  | panelAssign (w : Who) (arg : Nat)
  /-- LD_BIND (R414). Command binds a disabled logical device to a berth. -/
  | ldBind (w : Who) (arg : Nat)
  /-- WORLD_LANDING_SET (R410). Command sets a landing's world while both links are disabled. -/
  | worldLandingSet (w : Who) (arg : Nat)
  /-- REGION_DELETE (R423). Command starts removal of a region through Table 18.5. -/
  | regionDelete (w : Who) (arg : Nat)
  /-- REGION_REMOVAL_END (R423). Removal steps end; frames, reservations and translation are freed and the region is unused. -/
  | regionRemovalEnd (region : Nat)
  /-- PERM_GRANT (R417). Command sets a grantee's rights as an epoch-fenced permission change. -/
  | permGrant (w : Who) (arg : Nat)
  /-- PERM_DRAIN_COMPLETE (R421). Old-epoch counters reach zero; the drained epoch and status post and clean-up starts. -/
  | permDrainComplete
  /-- CONF_SET (R426). Command sets or clears a berth's or the device's confidential bit. -/
  | confSet (w : Who) (arg : Nat)
  /-- GET_VERSION (R427). SPDM request answered with versions. -/
  | getVersion (r : SpdmReq)
  /-- GET_CAPABILITIES (R427). SPDM request answered with CERT_CAP and CHAL_CAP. -/
  | getCapabilities (r : SpdmReq)
  /-- NEGOTIATE_ALGORITHMS (R427). SPDM request settles P-384 and SHA-384. -/
  | negotiateAlgorithms (r : SpdmReq) (asym hash : Nat)
  /-- GET_DIGESTS (R427). SPDM request returns chain digests. -/
  | getDigests (r : SpdmReq)
  /-- GET_CERTIFICATE (R428). SPDM request returns a chain, issuing a new berth leaf if its extensions changed. -/
  | getCertificate (r : SpdmReq) (slot offset len : Nat)
  /-- CHALLENGE (R427). SPDM challenge binds the nonce to a slot's chain digest. -/
  | challenge (r : SpdmReq) (slot nonce : Nat)
  /-- SPDM_UNSUPPORTED_REQUEST (R427). GET_MEASUREMENTS, KEY_EXCHANGE and other requests are answered ERROR UnsupportedRequest. -/
  | spdmUnsupportedRequest (r : SpdmReq) (code : Nat)
  /-- KEY_ROTATE (R437). Command starts a rotation to the other key slot. -/
  | keyRotate (w : Who)
  /-- REKEY_CROSSING (R438). A tile copy under the old slot is re-encrypted and committed under the new one. -/
  | rekeyCrossing (tile : Nat)
  /-- REKEY_SWEEP_COMPLETE (R437). The sweep is complete; the record becomes STEADY and the old slot is zeroed. -/
  | rekeySweepComplete (berth : Nat)
  /-- LC_TO_DEVELOP (R444). Transition BLANK to DEVELOP draws and fuses the UDS. -/
  | lcToDevelop (w : Who) (rsvd : Nat) (token : List Byte)
  /-- LC_TO_SEALED (R444). Transition DEVELOP to SEALED erases the pair secret and advances the KEK epoch. -/
  | lcToSealed (w : Who) (rsvd : Nat) (token : List Byte)
  /-- LC_TO_RETURNED (R444). Transition SEALED to RETURNED erases keys and configuration and marks a far format. -/
  | lcToReturned (w : Who) (rsvd : Nat) (token : List Byte)
  /-- LC_TO_VOID (R444). Transition to VOID blows the UDS fuses and erases NVM. -/
  | lcToVoid (w : Who) (rsvd : Nat) (token : List Byte)
  /-- LC_UNLOCK (R446). Command opens test access in RETURNED with a valid token. -/
  | lcUnlock (w : Who) (token : List Byte)
  /-- PAIR_SECRET (R441). Writing the pair secret derives the Seam link key and check value. -/
  | pairSecret (w : Who) (secret : List Byte)
  /-- FW_STAGE (R454). Segmented write stages a bundle into inactive banks. -/
  | fwStage (w : Who) (bundle : List Byte)
  /-- FW_ACTIVATE (R455). Command sets pending banks for the next reset. -/
  | fwActivate (w : Who) (arg : Nat)
  /-- FW_SVN_COMMIT (R457). Command raises each image's SVN floor. -/
  | fwSvnCommit (w : Who)
  /-- FW_ROLLBACK (R457). Command sets valid inactive banks pending with FORCE. -/
  | fwRollback (w : Who)
  /-- TRIAL_HOLD_EXPIRY (R456). The device served FW_TRIAL_HOLD without reset and the trial succeeds. -/
  | trialHoldExpiry
  /-- HELLO (R471). Tack HELLO opens a session and returns a nonce. -/
  | hello (m : TackIn)
  /-- AUTH (R471). Tack AUTH checks the proof and opens or refuses the session. -/
  | auth (m : TackIn)
  /-- CLOSE (R473). Tack CLOSE ends the session. -/
  | close (m : TackIn)
  /-- HEARTBEAT (R479). Tack HEARTBEAT keeps a session open and returns device state. -/
  | heartbeat (m : TackIn)
  /-- GET (R475). Tack GET reads an object value from an offset. -/
  | get (m : TackIn)
  /-- SET (R475). Tack SET writes an object that has no row of its own. -/
  | set (m : TackIn)
  /-- NEXT (R490). Tack NEXT returns the next defined object and its ACCESS word. -/
  | next (m : TackIn)
  /-- SEG_BEGIN (R476). Opens a segmented transfer on an object. -/
  | segBegin (m : TackIn)
  /-- SEG_DATA (R476). Delivers one segment and reports contiguous bytes received. -/
  | segData (m : TackIn)
  /-- SEG_END (R476). Checks the CRC and applies the whole value. -/
  | segEnd (m : TackIn)
  /-- PAIR_HB (R480). A management-path pair heartbeat is checked and accepted. -/
  | pairHb (m : TackIn)
  /-- PAIR_MSG (R480). A management-path pair message is checked and handled as its pair operation. -/
  | pairMsg (m : TackIn)
  /-- TACK_IDLE_TIMEOUT (R473). A session with no valid message for the idle timeout closes. -/
  | tackIdleTimeout (session : Nat)
  /-- EVENT_HEARTBEAT (R479). Every EVENT_HEARTBEAT the device sends a health event. -/
  | eventHeartbeat
  /-- GET_ENDPOINT_ID (R481). MCTP control message returns the endpoint ID. -/
  | getEndpointId (src : Nat)
  /-- SET_ENDPOINT_ID (R481). MCTP control message sets the endpoint ID. -/
  | setEndpointId (src op eid : Nat)
  /-- GET_MCTP_VERSION_SUPPORT (R481). MCTP control message returns versions. -/
  | getMctpVersionSupport (src type : Nat)
  /-- GET_MESSAGE_TYPE_SUPPORT (R481). MCTP control message returns supported types. -/
  | getMessageTypeSupport (src : Nat)
  /-- DIAG_DATA_READ (R492). Reads 64 bytes at DIAG_ADDR in the selected space. -/
  | diagDataRead (w : Who)
  /-- DIAG_DATA_WRITE (R492). Writes 64 bytes at DIAG_ADDR in the selected space. -/
  | diagDataWrite (w : Who) (data : List Byte)
  /-- POWER_CAP (R494). Writing the cap makes it bind from 2 ms later. -/
  | powerCap (w : Who) (cap : Nat)
  /-- CONTROL_PERIOD (R497). Every 100 µs the Pilot measures power and temperature and moves the throttle ladder. -/
  | controlPeriod (power : Nat) (temps : List Int) (vcore : Nat)
  /-- AVS_RETRY (R532). An unacknowledged AVSBus command is retried after 10 µs, then VCORE is treated as fixed. -/
  | avsRetry
  /-- POWER_ON (R509). PORST_N rises, straps latch and a cold start begins. -/
  | powerOn (straps : Nat)
  /-- WARM_RESET_INPUT (R509). WRST_N low for 1 µs starts a warm restart. -/
  | warmResetInput
  /-- RESTART (R513). Command starts a warm or cold restart, with optional flush and halt. -/
  | restart (w : Who) (arg : Nat)
  /-- PILOT_WATCHDOG (R511). PFW silent for 1 s causes a warm restart. -/
  | pilotWatchdog
  /-- BOOT_STEP_END (R514). A boot step ends and the next begins, until the landing opens. -/
  | bootStepEnd (r : BootReport)
  /-- LANDING_OPEN (R515). After step 6 and link up, the landing opens and held requests are served. -/
  | landingOpen (link : Nat)
  /-- FAR_FORMAT (R522). Command formats the far shore and fixes capacities. -/
  | farFormat (w : Who)
  /-- RAIL_OUT_OF_TOLERANCE (R539). A rail out of tolerance for 2 µs acts as PFAIL_N. -/
  | railOutOfTolerance (rail : Nat)
  /-- THERMTRIP_RELEASE (R505). The hottest sensor falls below 95 °C and THERMTRIP_N is released. -/
  | thermtripRelease
  /-- UNASSIGNED_OPCODE (R171). An instruction word with an unassigned OPC or FN, or a nonzero reserved field, raises the illegal-instruction exception. -/
  | unassignedOpcode (c : CoreCtx) (word : Nat)
  /-- POOL_WRITE_ACCEPTED (R181). A core's pool write is taken by the panel port and accepted into its home slice's write queue, freeing its draining blocks and releasing FENCE and END waits. -/
  | poolWriteAccepted (core xfer : Nat)
  /-- YELLOW_HOLD_RELEASE (R379). A yellow-held request is released when its meters' Tc covers its cost, or a yellow MEM request when no green request waits at the issue point. -/
  | yellowHoldRelease (kind link : Nat)
  /-- BLOCK_LOCK_LOSS (R335). A Seam lane loses block lock or sees an invalid sync header, feeding its bucket, and the link goes DOWN when 3 or more logical lanes lose lock at once. -/
  | blockLockLoss (port : Nat) (lanes : List Nat) (lost : Bool)
  /-- SKP_ORDERED_SET (R321). Every 256 data blocks a SKP ordered-set block is sent on all lanes and the receiver's elastic buffer adds or removes bytes. -/
  | skpOrderedSet (port : Nat)
  /-- NAK_RESEND_TIMEOUT (R330). Twice the forcing time after a NAK, if the expected frame has still not arrived, the receiver sends NAK again. -/
  | nakResendTimeout (port : Nat)
  /-- SPARE_RESEND (R334). An unanswered SPARE REQ, CONF or DONE message is sent again every 1 µs with the same SSEQ. -/
  | spareResend (port : Nat)
  /-- LOOPBACK_ECHO_TIMEOUT (R331). A loopback request whose echo does not come is counted as a loopback failure. -/
  | loopbackEchoTimeout (port : Nat)
  /-- FLIT_ERROR (R388). A host flit error attributed to a lane by FEC or CRC is replayed on the link and feeds that lane's bucket. -/
  | flitError (link : Nat) (lanes : List Nat)
  /-- PERST_RELEASE (R528). A PERST_N input rises and the link proceeds under Table 13.3, beginning training. -/
  | perstRelease (link : Nat)
  /-- PORST_ASSERT (R523). A falling PORST_N ends any running sequence at once and holds the device for a cold start. -/
  | porstAssert
  /-- MG_LINK_CHANGE (R483). A management Ethernet PHY link goes up or down at 1,000 Mb/s, changing MG_LINK and what the port can carry. -/
  | mgLinkChange (port : Nat) (up : Bool)
  /-- ARP_REQUEST (R483). An ARP request received on a management port is answered. -/
  | arpRequest (port addr src : Nat)
  /-- NEIGHBOUR_DISCOVERY (R483). An IPv6 neighbour discovery message received on a management port is answered. -/
  | neighbourDiscovery (port addr src : Nat)
  /-- ICMP_ECHO_REQUEST (R483). An ICMP echo request received on a management port is answered. -/
  | icmpEchoRequest (port addr src : Nat) (data : List Byte)
  /-- JTAG_INSTRUCTION (R534). An IEEE 1149.1 instruction loaded through the TAP runs, or is refused by life-cycle state. -/
  | jtagInstruction (j : JtagInstr)
  /-- CONFIG_RECORD_WRITTEN (R517). Both copies of the configuration record are programmed, posting the status of the command or SET that changed it. -/
  | configRecordWritten
  /-- MERGE_COMPLETE (R284). A merge's programs succeed; the block map entry is set, the block's log entries are dropped, and waiting insertions proceed. -/
  | mergeComplete (group : Nat)
  /-- ERASE_COMPLETE (R285). A band's multi-plane erase succeeds; the band becomes an erased free band and its erase count rises. -/
  | eraseComplete (group : Nat)
  /-- WAIT_NOTICE_INTERVAL (R398). Every 10 µs while a destination holds an accepted request in a bounded wait, it sends another wait notice. -/
  | waitNoticeInterval (src ref : Nat)
  deriving DecidableEq, Repr

end Sys2Proof
end

