-- ==== Sys2Proof/Config.lean ====
section
/-! DEFINITION. What the spec leaves to the part or does not print: constants with no body, so that no proof can see a value.
A claim about them holds whatever they are. -/

namespace Sys2Proof

/-- Free values: the value that the model's counter at `n` stands for, wherever the spec states a result for no reader. -/
opaque Config.freeNat : Nat → Nat

/-- H of R51: the fixed 17-bit hash of a tile number that places its lines in manifest sets. The spec does not print it. -/
opaque Config.tileHash : Nat → Nat

/-- Hc of R96: the fixed 12-bit hash of a tile number that indexes CHMAP. The spec does not print it. -/
opaque Config.chmapHash : Nat → Nat

/-- The fixed hash of a line number that selects its set of the atomic history table (R83), below 4,096. -/
opaque Config.ahtHash : Nat → Nat

/-- The fixed hash of a tile number that selects its tag bucket (R98). -/
opaque Config.tagHash : Nat → Nat

/-- The pace that calibration predicts for a block (0 to 6 as PACE_GRID to PACE_FFU) at a VCORE in mV and a junction temperature (R34). -/
opaque Config.predictedPace : Nat → Nat → Int → Nat

/-- M of R433: the AES-256 encryption, under the first half of the data key of a generation, of the block that holds a tile's number
and the generation. Data keys are random (Table 19.1). -/
opaque Config.headerMask : Nat → Nat → Nat

/-- HMAC-SHA-384 of a key and a message, 48 bytes big-endian (R431, R471). The spec names the function and does not print it. -/
opaque Config.hmac384 : List Byte → List Byte → List Byte

/-- SHA-384 of a message (R431, R451). -/
opaque Config.sha384 : List Byte → List Byte

/-- AES-256 of one 16-byte block under a 32-byte key (R441). -/
opaque Config.aes256 : List Byte → List Byte → List Byte

/-- The ECDSA P-384 signature over a message verifies under the Craelvas authority key (R445, R451). -/
opaque Config.authoritySigned : List Byte → List Byte → Bool

/-- UNIT, the unit identifier derived from the unique device secret, and the die identifier fused at wafer test (R431). -/
opaque Config.unitId : BitVec 64
opaque Config.dieId : BitVec 64

/-- The MAC address fused for each management port (R483). -/
opaque Config.macAddress : Nat → Nat

/-- The JEP106 manufacturer code assigned to Craelvas (R534). -/
opaque Config.jep106 : Nat

/-- SHA-384 of the certificate chain with these contents (R427): the certificates' bytes are not printed. -/
opaque Config.chainDigest : List Nat → Nat

/-- The vendor ID assigned to Craelvas (Table 22.3), which the spec does not print. -/
opaque Config.vendorId : Nat

end Sys2Proof
end

