-- ==== Sys2Proof/Machine/Objects.lean ====
section
/-! DEFINITION. The object dictionary: every object of Tables 22.3 to 22.13 (R491) with its identity, type, access and
default, written from those tables (R485, R486). -/

namespace Sys2Proof

/-- Types of Pattern Book objects (R469). -/
inductive ObjTy where
  | u8 | u16 | u32 | u64 | i32 | enum8 | bits32 | bool | time48 | str
  | oct (n : Nat)
  | cmd
  deriving DecidableEq, Repr

/-- Markers of Table 22.1. -/
inductive Mark where
  | secure | secureIf | world | conf | path | nextReset | noSess | recov | seg | l1 | l2 | v
  deriving DecidableEq, Repr

/-- One object: index, subindex, type, KIND (0 RO, 1 RW, 2 WO, 3 CMD), lowest reading and writing role, markers, and the
value it holds when a cold start ends (R489; 0 where the value is derived from other state). -/
structure Obj where
  index : Nat
  sub : Nat
  ty : ObjTy
  kind : Nat
  rrole : Nat
  wrole : Nat
  marks : List Mark
  dflt : Nat
  deriving DecidableEq, Repr

namespace Obj

/-- 0x1000.01 (chapter 00). -/
def VENDOR_ID : Obj := ⟨0x1000, 0x01, .u16, 0, 1, 0, [.noSess, .recov], 0⟩
/-- 0x1000.02 (chapter 00). -/
def DEVICE_ID : Obj := ⟨0x1000, 0x02, .u16, 0, 1, 0, [.noSess, .recov], 0x2432⟩
/-- 0x1000.03 (chapter 00). -/
def SILICON_REV : Obj := ⟨0x1000, 0x03, .u8, 0, 1, 0, [.noSess, .recov], 0xB1⟩
/-- 0x1000.04 (chapter 00). -/
def ORDERING_CODE : Obj := ⟨0x1000, 0x04, .str, 0, 1, 0, [.noSess, .recov], 0⟩
/-- 0x1100.01 (chapter 21). -/
def CRED_OPERATOR_NS : Obj := ⟨0x1100, 0x01, (.oct 48), 2, 0, 2, [], 0⟩
/-- 0x1100.02 (chapter 21). -/
def CRED_OPERATOR_S : Obj := ⟨0x1100, 0x02, (.oct 48), 2, 0, 2, [.secure], 0⟩
/-- 0x1100.03 (chapter 21). -/
def CRED_ADMIN_NS : Obj := ⟨0x1100, 0x03, (.oct 48), 2, 0, 2, [.secure], 0⟩
/-- 0x1100.04 (chapter 21). -/
def CRED_ADMIN_S : Obj := ⟨0x1100, 0x04, (.oct 48), 2, 0, 2, [.secure], 0⟩
/-- 0x1100.06 (chapter 21). -/
def CRED_EVENT : Obj := ⟨0x1100, 0x06, (.oct 48), 2, 0, 2, [.secure], 0⟩
/-- 0x1100.05 (chapter 21). -/
def CRED_VENDOR : Obj := ⟨0x1100, 0x05, (.oct 48), 2, 0, 3, [], 0⟩
/-- 0x1101.01 (chapter 21). -/
def CRED_STATE : Obj := ⟨0x1101, 0x01, .bits32, 0, 1, 0, [], 0⟩
/-- 0x1200.01 (chapter 21). -/
def TACK_SESSIONS : Obj := ⟨0x1200, 0x01, .u8, 0, 1, 0, [], 0⟩
/-- 0x1200.02 (chapter 21). -/
def TACK_AUTH_FAILS : Obj := ⟨0x1200, 0x02, .u64, 0, 1, 0, [], 0⟩
/-- 0x1200.03 (chapter 21). -/
def TACK_IDLE_TIMEOUT : Obj := ⟨0x1200, 0x03, .u16, 1, 1, 2, [], 30⟩
/-- 0x1201.01 (chapter 21). -/
def EVENT_DEST_0 : Obj := ⟨0x1201, 0x01, (.oct 20), 1, 1, 2, [.secureIf], 0⟩
/-- 0x1201.02 (chapter 21). -/
def EVENT_DEST_1 : Obj := ⟨0x1201, 0x02, (.oct 20), 1, 1, 2, [.secureIf], 0⟩
/-- 0x1201.03 (chapter 21). -/
def EVENT_SEQ : Obj := ⟨0x1201, 0x03, .u32, 0, 1, 0, [], 0⟩
/-- 0x1201.04 (chapter 21). -/
def EVENT_HEARTBEAT : Obj := ⟨0x1201, 0x04, .u16, 1, 1, 2, [], 10⟩
/-- 0x1202.01 (chapter 21). -/
def PAIR_MGMT_DISCARDS : Obj := ⟨0x1202, 0x01, .u64, 0, 1, 0, [], 0⟩
/-- 0x1300.01 (chapter 21). -/
def MG_SELECT : Obj := ⟨0x1300, 0x01, .u8, 1, 1, 1, [.path], 0⟩
/-- 0x1300.02 (chapter 21). -/
def MG_ADDR : Obj := ⟨0x1300, 0x02, (.oct 16), 1, 1, 2, [], 0⟩
/-- 0x1300.04 (chapter 21). -/
def MG_GATEWAY : Obj := ⟨0x1300, 0x04, (.oct 16), 1, 1, 2, [], 0⟩
/-- 0x1300.03 (chapter 21). -/
def MG_PREFIX : Obj := ⟨0x1300, 0x03, .u8, 1, 1, 2, [], 64⟩
/-- 0x1300.05 (chapter 21). -/
def MG_LINK : Obj := ⟨0x1300, 0x05, .enum8, 0, 1, 0, [], 0⟩
/-- 0x1300.06 (chapter 21). -/
def MG_MAC : Obj := ⟨0x1300, 0x06, (.oct 6), 0, 1, 0, [], 0⟩
/-- 0x2100.01 (chapter 23). -/
def POWER_CAP : Obj := ⟨0x2100, 0x01, .u8, 1, 1, 2, [], 75⟩
/-- 0x2100.02 (chapter 23). -/
def POWER_NOW : Obj := ⟨0x2100, 0x02, .u16, 0, 1, 0, [], 0⟩
/-- 0x2100.03 (chapter 23). -/
def VCORE_MV : Obj := ⟨0x2100, 0x03, .u16, 0, 1, 0, [], 0⟩
/-- 0x2100.04 (chapter 23). -/
def POWER_PEAK : Obj := ⟨0x2100, 0x04, .u16, 0, 1, 0, [], 0⟩
/-- 0x2100.05 (chapter 23). -/
def POWER_LIMITING : Obj := ⟨0x2100, 0x05, .bool, 0, 1, 0, [], 0⟩
/-- 0x2100.06 (chapter 23). -/
def POWER_CAP_STEPS : Obj := ⟨0x2100, 0x06, .u64, 0, 1, 0, [], 0⟩
/-- 0x2101.01 (chapter 23). -/
def THERM_SELECT : Obj := ⟨0x2101, 0x01, .u8, 1, 1, 1, [.path], 0⟩
/-- 0x2101.02 (chapter 23). -/
def THERM_TEMP : Obj := ⟨0x2101, 0x02, .i32, 0, 1, 0, [], 0⟩
/-- 0x2101.03 (chapter 23). -/
def THERM_HOTTEST : Obj := ⟨0x2101, 0x03, .i32, 0, 1, 0, [], 0⟩
/-- 0x2101.04 (chapter 23). -/
def THERM_WARN : Obj := ⟨0x2101, 0x04, .u8, 1, 1, 2, [], 100⟩
/-- 0x2101.05 (chapter 23). -/
def THERM_TRIP : Obj := ⟨0x2101, 0x05, .u8, 0, 1, 0, [], 110⟩
/-- 0x2101.06 (chapter 23). -/
def THERM_STATE : Obj := ⟨0x2101, 0x06, .enum8, 0, 1, 0, [], 0⟩
/-- 0x2101.07 (chapter 23). -/
def THERM_EVENTS : Obj := ⟨0x2101, 0x07, .u64, 0, 1, 0, [], 0⟩
/-- 0x2200.01 (chapter 02). -/
def PACE_MIN : Obj := ⟨0x2200, 0x01, .u16, 0, 1, 0, [], 0⟩
/-- 0x2200.02 (chapter 02). -/
def PACE_GRID : Obj := ⟨0x2200, 0x02, .u16, 0, 1, 0, [], 0⟩
/-- 0x2200.03 (chapter 02). -/
def PACE_WEAVE : Obj := ⟨0x2200, 0x03, .u16, 0, 1, 0, [], 0⟩
/-- 0x2200.04 (chapter 02). -/
def PACE_MANIFEST_A : Obj := ⟨0x2200, 0x04, .u16, 0, 1, 0, [], 0⟩
/-- 0x2200.05 (chapter 02). -/
def PACE_MANIFEST_B : Obj := ⟨0x2200, 0x05, .u16, 0, 1, 0, [], 0⟩
/-- 0x2200.06 (chapter 02). -/
def PACE_SLICES : Obj := ⟨0x2200, 0x06, .u16, 0, 1, 0, [], 0⟩
/-- 0x2200.07 (chapter 02). -/
def PACE_FERRY : Obj := ⟨0x2200, 0x07, .u16, 0, 1, 0, [], 0⟩
/-- 0x2200.08 (chapter 02). -/
def PACE_FFU : Obj := ⟨0x2200, 0x08, .u16, 0, 1, 0, [], 0⟩
/-- 0x2200.09 (chapter 02). -/
def PACE_STAMP : Obj := ⟨0x2200, 0x09, .time48, 0, 1, 0, [], 0⟩
/-- 0x2200.0A (chapter 02). -/
def PACE_LOW_WATER : Obj := ⟨0x2200, 0x0A, .u16, 0, 1, 0, [], 1500⟩
/-- 0x2200.0B (chapter 02). -/
def PACE_LOW_WATER_CLEAR : Obj := ⟨0x2200, 0x0B, .cmd, 3, 1, 1, [], 0⟩
/-- 0x2200.0C (chapter 02). -/
def PACE_STATUS : Obj := ⟨0x2200, 0x0C, .bits32, 0, 1, 0, [], 0⟩
/-- 0x2200.0D (chapter 02). -/
def PACE_ALERT_BELOW : Obj := ⟨0x2200, 0x0D, .u16, 1, 1, 1, [], 650⟩
/-- 0x2200.0E (chapter 02). -/
def PACE_LOOP_FAULT : Obj := ⟨0x2200, 0x0E, .u64, 0, 1, 0, [], 0⟩
/-- 0x2200.0F (chapter 02). -/
def PACE_LOOP_FAULT_HI : Obj := ⟨0x2200, 0x0F, .u64, 0, 1, 0, [], 0⟩
/-- 0x2200.10 (chapter 02). -/
def PACE_LOOP_FAULT_TOP : Obj := ⟨0x2200, 0x10, .u64, 0, 1, 0, [], 0⟩
/-- 0x2201.01 (chapter 02). -/
def ISLAND_LOCK : Obj := ⟨0x2201, 0x01, .bits32, 0, 1, 0, [], 0⟩
/-- 0x2201.02 (chapter 02). -/
def CLOCK_SOURCE : Obj := ⟨0x2201, 0x02, .enum8, 0, 1, 0, [], 0⟩
/-- 0x2300.01 (chapter 19). -/
def LC_STATE : Obj := ⟨0x2300, 0x01, .enum8, 0, 1, 0, [.noSess, .recov], 0⟩
/-- 0x2300.02 (chapter 19). -/
def LC_TRANSITION : Obj := ⟨0x2300, 0x02, .cmd, 3, 2, 2, [.secure, .recov], 0⟩
/-- 0x2300.03 (chapter 19). -/
def LC_NONCE : Obj := ⟨0x2300, 0x03, (.oct 32), 0, 1, 0, [.noSess, .recov], 0⟩
/-- 0x2300.04 (chapter 19). -/
def LC_UNLOCK : Obj := ⟨0x2300, 0x04, .cmd, 3, 3, 3, [.recov], 0⟩
/-- 0x2300.05 (chapter 19). -/
def LC_DEBUG_OPEN : Obj := ⟨0x2300, 0x05, .bool, 0, 1, 0, [.recov], 0⟩
/-- 0x2300.06 (chapter 19). -/
def LC_KEK_EPOCH : Obj := ⟨0x2300, 0x06, .u8, 0, 1, 0, [.recov], 0⟩
/-- 0x2300.07 (chapter 19). -/
def UNIT_ID : Obj := ⟨0x2300, 0x07, .u64, 0, 1, 0, [.noSess, .recov], 0⟩
/-- 0x2400.01 (chapter 20). -/
def FW_STATE : Obj := ⟨0x2400, 0x01, .enum8, 0, 1, 0, [.recov], 0⟩
/-- 0x2400.02 (chapter 20). -/
def FW_COMPAT : Obj := ⟨0x2400, 0x02, .enum8, 0, 1, 0, [.recov], 0⟩
/-- 0x2400.03 (chapter 20). -/
def FW_SET_ID : Obj := ⟨0x2400, 0x03, .u64, 0, 1, 0, [.recov], 0⟩
/-- 0x2400.04 (chapter 20). -/
def FW_TRIAL : Obj := ⟨0x2400, 0x04, .enum8, 0, 1, 0, [.recov], 0⟩
/-- 0x2400.05 (chapter 20). -/
def FW_PARTNER_SET_ID : Obj := ⟨0x2400, 0x05, .u64, 0, 1, 0, [.recov], 0⟩
/-- 0x2401.01 (chapter 20). -/
def FW_IMAGE_SELECT : Obj := ⟨0x2401, 0x01, .u8, 1, 1, 1, [.path, .recov], 2⟩
/-- 0x2401.02 (chapter 20). -/
def FW_IF_ACTIVE : Obj := ⟨0x2401, 0x02, .u32, 0, 1, 0, [.recov], 0⟩
/-- 0x2401.03 (chapter 20). -/
def FW_BUILD_ACTIVE : Obj := ⟨0x2401, 0x03, .u32, 0, 1, 0, [.recov], 0⟩
/-- 0x2401.04 (chapter 20). -/
def FW_SVN_ACTIVE : Obj := ⟨0x2401, 0x04, .u16, 0, 1, 0, [.recov], 0⟩
/-- 0x2401.05 (chapter 20). -/
def FW_SVN_FLOOR : Obj := ⟨0x2401, 0x05, .u16, 0, 1, 0, [.recov], 0⟩
/-- 0x2401.06 (chapter 20). -/
def FW_BANK_ACTIVE : Obj := ⟨0x2401, 0x06, .enum8, 0, 1, 0, [.recov], 0⟩
/-- 0x2401.07 (chapter 20). -/
def FW_IF_INACTIVE : Obj := ⟨0x2401, 0x07, .u32, 0, 1, 0, [.recov], 0⟩
/-- 0x2402.01 (chapter 20). -/
def FW_STAGE : Obj := ⟨0x2402, 0x01, (.oct 16777216), 2, 0, 2, [.seg, .recov], 0⟩
/-- 0x2402.02 (chapter 20). -/
def FW_STAGE_STATUS : Obj := ⟨0x2402, 0x02, .enum8, 0, 1, 0, [.recov], 0⟩
/-- 0x2402.03 (chapter 20). -/
def FW_ACTIVATE : Obj := ⟨0x2402, 0x03, .cmd, 3, 2, 2, [.recov], 0⟩
/-- 0x2402.04 (chapter 20). -/
def FW_SVN_COMMIT : Obj := ⟨0x2402, 0x04, .cmd, 3, 2, 2, [.recov], 0⟩
/-- 0x2402.06 (chapter 20). -/
def FW_ROLLBACK : Obj := ⟨0x2402, 0x06, .cmd, 3, 2, 2, [.recov], 0⟩
/-- 0x2402.05 (chapter 20). -/
def FW_TRIAL_HOLD : Obj := ⟨0x2402, 0x05, .u16, 1, 1, 2, [.recov], 60⟩
/-- 0x2410.01 (chapter 20). -/
def FW_COMPAT_POLICY : Obj := ⟨0x2410, 0x01, .enum8, 1, 1, 2, [.secure, .nextReset, .recov], 1⟩
/-- 0x2410.02 (chapter 20). -/
def FW_MATRIX_ROWS : Obj := ⟨0x2410, 0x02, .u16, 0, 1, 0, [.recov], 0⟩
/-- 0x2500.01 (chapter 24). -/
def RESTART : Obj := ⟨0x2500, 0x01, .cmd, 3, 2, 2, [], 0⟩
/-- 0x2500.02 (chapter 24). -/
def RESET_KIND : Obj := ⟨0x2500, 0x02, .enum8, 0, 1, 0, [], 0⟩
/-- 0x2500.05 (chapter 24). -/
def BOOT_STEP : Obj := ⟨0x2500, 0x05, .enum8, 0, 1, 0, [], 0⟩
/-- 0x2500.03 (chapter 24). -/
def BOOT_DONE_TIME : Obj := ⟨0x2500, 0x03, .time48, 0, 1, 0, [], 0⟩
/-- 0x2500.04 (chapter 24). -/
def BOOT_COUNT : Obj := ⟨0x2500, 0x04, .u32, 0, 1, 0, [], 0⟩
/-- 0x2500.06 (chapter 24). -/
def TRAIN_RETAIN : Obj := ⟨0x2500, 0x06, .bool, 1, 1, 2, [], 1⟩
/-- 0x2500.07 (chapter 24). -/
def FAR_FORMAT : Obj := ⟨0x2500, 0x07, .cmd, 3, 2, 2, [.secure], 0⟩
/-- 0x2600.01 (chapter 25). -/
def STRAPS : Obj := ⟨0x2600, 0x01, .bits32, 0, 1, 0, [], 0⟩
/-- 0x2600.02 (chapter 25). -/
def RAIL_SELECT : Obj := ⟨0x2600, 0x02, .u8, 1, 1, 1, [.path], 0⟩
/-- 0x2600.03 (chapter 25). -/
def RAIL_MV : Obj := ⟨0x2600, 0x03, .u16, 0, 1, 0, [], 0⟩
/-- 0x3000.01 (chapter 18). -/
def BERTH_SELECT : Obj := ⟨0x3000, 0x01, .u8, 1, 1, 1, [.path], 0⟩
/-- 0x3000.02 (chapter 18). -/
def BERTH_STATE : Obj := ⟨0x3000, 0x02, .enum8, 0, 1, 0, [], 0⟩
/-- 0x3000.03 (chapter 18). -/
def BERTH_CONFIDENTIAL : Obj := ⟨0x3000, 0x03, .bool, 0, 1, 0, [], 0⟩
/-- 0x3000.04 (chapter 18). -/
def BERTH_REGIONS : Obj := ⟨0x3000, 0x04, .u16, 0, 1, 0, [], 0⟩
/-- 0x3000.05 (chapter 18). -/
def BERTH_PANELS : Obj := ⟨0x3000, 0x05, .u64, 0, 1, 0, [], 0⟩
/-- 0x3001.01 (chapter 18). -/
def BERTH_CREATE : Obj := ⟨0x3001, 0x01, .cmd, 3, 2, 2, [], 0⟩
/-- 0x3001.04 (chapter 18). -/
def LD_BIND : Obj := ⟨0x3001, 0x04, .cmd, 3, 2, 2, [], 0⟩
/-- 0x3001.02 (chapter 18). -/
def BERTH_DELETE : Obj := ⟨0x3001, 0x02, .cmd, 3, 2, 2, [.secureIf], 0⟩
/-- 0x3001.03 (chapter 18). -/
def PANEL_ASSIGN : Obj := ⟨0x3001, 0x03, .cmd, 3, 2, 2, [.secureIf], 0⟩
/-- 0x3002.01 (chapter 18). -/
def WORLD_LANDINGS : Obj := ⟨0x3002, 0x01, .bits32, 0, 1, 0, [], 0⟩
/-- 0x3002.02 (chapter 18). -/
def WORLD_LANDING_SET : Obj := ⟨0x3002, 0x02, .cmd, 3, 2, 2, [.secure], 0⟩
/-- 0x3002.03 (chapter 18). -/
def WORLD_PANELS : Obj := ⟨0x3002, 0x03, .u64, 0, 1, 0, [], 0⟩
/-- 0x3100.01 (chapter 01). -/
def REGION_SELECT : Obj := ⟨0x3100, 0x01, .u16, 1, 1, 1, [.path, .l1], 0⟩
/-- 0x3100.02 (chapter 01). -/
def REGION_BASE : Obj := ⟨0x3100, 0x02, .u32, 0, 1, 0, [], 0⟩
/-- 0x3100.03 (chapter 01). -/
def REGION_SIZE : Obj := ⟨0x3100, 0x03, .u32, 0, 1, 0, [], 0⟩
/-- 0x3100.04 (chapter 01). -/
def REGION_CLASS : Obj := ⟨0x3100, 0x04, .enum8, 0, 1, 0, [], 0⟩
/-- 0x3100.06 (chapter 01). -/
def REGION_SHARE : Obj := ⟨0x3100, 0x06, .enum8, 0, 1, 0, [], 0⟩
/-- 0x3100.07 (chapter 01). -/
def REGION_STATE : Obj := ⟨0x3100, 0x07, .enum8, 0, 1, 0, [], 0⟩
/-- 0x3100.05 (chapter 01). -/
def REGION_OWNER : Obj := ⟨0x3100, 0x05, .u8, 0, 1, 0, [], 0⟩
/-- 0x3100.09 (chapter 01). -/
def REGION_PRIV_LD : Obj := ⟨0x3100, 0x09, .u8, 0, 1, 0, [], 0⟩
/-- 0x3100.08 (chapter 01). -/
def REGION_WORLD : Obj := ⟨0x3100, 0x08, .bool, 0, 1, 0, [], 0⟩
/-- 0x3101.01 (chapter 01). -/
def REGION_CREATE : Obj := ⟨0x3101, 0x01, .cmd, 3, 2, 2, [.secureIf, .l1], 0⟩
/-- 0x3101.02 (chapter 18). -/
def REGION_DELETE : Obj := ⟨0x3101, 0x02, .cmd, 3, 2, 2, [.secureIf], 0⟩
/-- 0x3102.01 (chapter 01). -/
def POOL_VISIBLE_GIB : Obj := ⟨0x3102, 0x01, .u32, 0, 1, 0, [], 0⟩
/-- 0x3102.02 (chapter 01). -/
def POOL_FREE_GIB : Obj := ⟨0x3102, 0x02, .u32, 0, 1, 0, [], 0⟩
/-- 0x3102.03 (chapter 01). -/
def POOL_LARGEST_FREE_GIB : Obj := ⟨0x3102, 0x03, .u32, 0, 1, 0, [], 0⟩
/-- 0x3102.04 (chapter 01). -/
def NEAR_USABLE_GIB : Obj := ⟨0x3102, 0x04, .u32, 0, 1, 0, [], 0⟩
/-- 0x3102.05 (chapter 01). -/
def NEAR_RESERVABLE_GIB : Obj := ⟨0x3102, 0x05, .u32, 0, 1, 0, [], 0⟩
/-- 0x3102.06 (chapter 01). -/
def NEAR_RESERVED_GIB : Obj := ⟨0x3102, 0x06, .u32, 0, 1, 0, [], 0⟩
/-- 0x3103.01 (chapter 01). -/
def LD_SELECT : Obj := ⟨0x3103, 0x01, .u8, 1, 1, 1, [.path, .l1], 0⟩
/-- 0x3103.02 (chapter 01). -/
def LD_AGENT : Obj := ⟨0x3103, 0x02, .u8, 0, 1, 0, [], 0⟩
/-- 0x3103.03 (chapter 01). -/
def LD_BERTH : Obj := ⟨0x3103, 0x03, .u8, 0, 1, 0, [], 0⟩
/-- 0x3103.04 (chapter 01). -/
def LD_COHERENCE : Obj := ⟨0x3103, 0x04, .enum8, 0, 1, 0, [], 0⟩
/-- 0x3103.05 (chapter 01). -/
def LD_EXTENTS : Obj := ⟨0x3103, 0x05, .u16, 0, 1, 0, [], 0⟩
/-- 0x3103.06 (chapter 01). -/
def LD_EXTENTS_WITHHELD : Obj := ⟨0x3103, 0x06, .u32, 0, 1, 0, [], 0⟩
/-- 0x3103.07 (chapter 01). -/
def LD_OUTSIDE_EXTENT : Obj := ⟨0x3103, 0x07, .u64, 0, 1, 0, [], 0⟩
/-- 0x3200.01 (chapter 18). -/
def PERM_GRANT : Obj := ⟨0x3200, 0x01, .cmd, 3, 2, 2, [.secureIf], 0⟩
/-- 0x3200.02 (chapter 18). -/
def PERM_GRANT_COUNT : Obj := ⟨0x3200, 0x02, .u16, 0, 1, 0, [], 0⟩
/-- 0x3201.01 (chapter 18). -/
def PERM_EPOCH : Obj := ⟨0x3201, 0x01, .u16, 0, 1, 0, [], 0⟩
/-- 0x3201.02 (chapter 18). -/
def PERM_EPOCH_DRAINED : Obj := ⟨0x3201, 0x02, .u16, 0, 1, 0, [], 0⟩
/-- 0x3201.03 (chapter 18). -/
def PERM_OLD_INFLIGHT : Obj := ⟨0x3201, 0x03, .u32, 0, 1, 0, [], 0⟩
/-- 0x3201.06 (chapter 18). -/
def PERM_CLEAN_PENDING : Obj := ⟨0x3201, 0x06, .u32, 0, 1, 0, [], 0⟩
/-- 0x3201.04 (chapter 18). -/
def PERM_DRAIN_LAST : Obj := ⟨0x3201, 0x04, .time48, 0, 1, 0, [], 0⟩
/-- 0x3201.05 (chapter 18). -/
def PERM_DRAIN_MAX : Obj := ⟨0x3201, 0x05, .time48, 0, 1, 0, [], 0⟩
/-- 0x3201.07 (chapter 18). -/
def PERM_REFUSED : Obj := ⟨0x3201, 0x07, .u64, 0, 1, 0, [], 0⟩
/-- 0x3300.01 (chapter 18). -/
def CONF_DEVICE : Obj := ⟨0x3300, 0x01, .bool, 0, 1, 0, [], 0⟩
/-- 0x3300.02 (chapter 18). -/
def CONF_SET : Obj := ⟨0x3300, 0x02, .cmd, 3, 2, 2, [], 0⟩
/-- 0x3301.01 (chapter 18). -/
def ATTEST_BERTH_SELECT : Obj := ⟨0x3301, 0x01, .u8, 1, 1, 1, [.path], 0⟩
/-- 0x3301.02 (chapter 18). -/
def ATTEST_LEAF_SERIAL : Obj := ⟨0x3301, 0x02, .u64, 0, 1, 0, [], 0⟩
/-- 0x3301.03 (chapter 18). -/
def ATTEST_OID_ARC : Obj := ⟨0x3301, 0x03, .str, 0, 1, 0, [], 0⟩
/-- 0x3400.01 (chapter 19). -/
def KEY_BERTH_SELECT : Obj := ⟨0x3400, 0x01, .u8, 1, 1, 1, [.path], 0⟩
/-- 0x3400.02 (chapter 19). -/
def KEY_STATE : Obj := ⟨0x3400, 0x02, .enum8, 0, 1, 0, [], 0⟩
/-- 0x3400.03 (chapter 19). -/
def KEY_ACTIVE_SLOT : Obj := ⟨0x3400, 0x03, .enum8, 0, 1, 0, [], 0⟩
/-- 0x3400.04 (chapter 19). -/
def KEY_GEN_A : Obj := ⟨0x3400, 0x04, .u32, 0, 1, 0, [], 0⟩
/-- 0x3400.05 (chapter 19). -/
def KEY_GEN_B : Obj := ⟨0x3400, 0x05, .u32, 0, 1, 0, [], 0⟩
/-- 0x3400.06 (chapter 19). -/
def KEY_ROTATE : Obj := ⟨0x3400, 0x06, .cmd, 3, 2, 2, [.secureIf], 0⟩
/-- 0x3400.07 (chapter 19). -/
def REKEY_LEFT : Obj := ⟨0x3400, 0x07, .u64, 0, 1, 0, [], 0⟩
/-- 0x3401.01 (chapter 19). -/
def REKEY_SHARE : Obj := ⟨0x3401, 0x01, .u8, 1, 1, 2, [], 10⟩
/-- 0x3401.02 (chapter 19). -/
def KEY_MISMATCHES : Obj := ⟨0x3401, 0x02, .u64, 0, 1, 0, [], 0⟩
/-- 0x3402.01 (chapter 19). -/
def PAIR_SECRET : Obj := ⟨0x3402, 0x01, (.oct 48), 2, 0, 2, [.secure], 0⟩
/-- 0x3402.02 (chapter 19). -/
def PAIR_KEY_CHECK : Obj := ⟨0x3402, 0x02, .u64, 0, 1, 0, [], 0⟩
/-- 0x3402.03 (chapter 19). -/
def PAIR_KEY_MATCH : Obj := ⟨0x3402, 0x03, .bool, 0, 1, 0, [], 0⟩
/-- 0x4100.01 (chapter 03). -/
def MF_CAPACITY_LINES : Obj := ⟨0x4100, 0x01, .u32, 0, 1, 0, [], 0⟩
/-- 0x4100.02 (chapter 03). -/
def MF_TRACKED_A : Obj := ⟨0x4100, 0x02, .u32, 0, 1, 0, [], 0⟩
/-- 0x4100.03 (chapter 03). -/
def MF_TRACKED_B : Obj := ⟨0x4100, 0x03, .u32, 0, 1, 0, [], 0⟩
/-- 0x4100.04 (chapter 03). -/
def MF_TRACKED_HIGH : Obj := ⟨0x4100, 0x04, .u32, 0, 1, 0, [], 0⟩
/-- 0x4100.05 (chapter 03). -/
def MF_CACHE_HITS : Obj := ⟨0x4100, 0x05, .u16, 0, 1, 0, [], 0⟩
/-- 0x4101.01 (chapter 03). -/
def BISNP_TIMEOUT : Obj := ⟨0x4101, 0x01, .u32, 1, 1, 2, [], 200⟩
/-- 0x4101.02 (chapter 03). -/
def MF_RECALLS : Obj := ⟨0x4101, 0x02, .u64, 0, 1, 0, [], 0⟩
/-- 0x4101.03 (chapter 03). -/
def MF_CAPACITY_RECALLS : Obj := ⟨0x4101, 0x03, .u64, 0, 1, 0, [], 0⟩
/-- 0x4101.04 (chapter 03). -/
def MF_RECALL_TABLE_WAITS : Obj := ⟨0x4101, 0x04, .u64, 0, 1, 0, [], 0⟩
/-- 0x4101.05 (chapter 03). -/
def MF_PROTOCOL_ANOMALIES : Obj := ⟨0x4101, 0x05, .u64, 0, 1, 0, [], 0⟩
/-- 0x4101.06 (chapter 03). -/
def MF_RECALL_MAX : Obj := ⟨0x4101, 0x06, .time48, 0, 1, 0, [], 0⟩
/-- 0x4102.01 (chapter 03). -/
def AGENT_SELECT : Obj := ⟨0x4102, 0x01, .u8, 1, 1, 1, [.path], 0⟩
/-- 0x4102.02 (chapter 03). -/
def AGENT_STATE : Obj := ⟨0x4102, 0x02, .enum8, 0, 1, 0, [], 0⟩
/-- 0x4102.05 (chapter 03). -/
def AGENT_DEATH_CAUSE : Obj := ⟨0x4102, 0x05, .enum8, 0, 1, 0, [], 0⟩
/-- 0x4102.03 (chapter 03). -/
def AGENT_LINES_SHARED : Obj := ⟨0x4102, 0x03, .u32, 0, 1, 0, [], 0⟩
/-- 0x4102.04 (chapter 03). -/
def AGENT_LINES_OWNED : Obj := ⟨0x4102, 0x04, .u32, 0, 1, 0, [], 0⟩
/-- 0x4102.07 (chapter 03). -/
def AGENT_POISONED_LINES : Obj := ⟨0x4102, 0x07, .u32, 0, 1, 0, [], 0⟩
/-- 0x4102.06 (chapter 03). -/
def AGENT_DEATH_TIME : Obj := ⟨0x4102, 0x06, .time48, 0, 1, 0, [], 0⟩
/-- 0x4103.01 (chapter 03). -/
def DEAD_POISON_LOG_COUNT : Obj := ⟨0x4103, 0x01, .u32, 0, 1, 0, [], 0⟩
/-- 0x4103.02 (chapter 03). -/
def DEAD_POISON_LOG_INDEX : Obj := ⟨0x4103, 0x02, .u16, 1, 1, 1, [.path], 0⟩
/-- 0x4103.03 (chapter 03). -/
def DEAD_POISON_LOG_ENTRY : Obj := ⟨0x4103, 0x03, (.oct 16), 0, 1, 0, [.world], 0⟩
/-- 0x4103.04 (chapter 03). -/
def DEAD_POISON_LOG_LOST : Obj := ⟨0x4103, 0x04, .u64, 0, 1, 0, [], 0⟩
/-- 0x4103.05 (chapter 03). -/
def DEAD_POISON_LOG_CLEAR : Obj := ⟨0x4103, 0x05, .cmd, 3, 2, 2, [], 0⟩
/-- 0x4200.01 (chapter 04). -/
def PRED_ENABLE : Obj := ⟨0x4200, 0x01, .bool, 1, 1, 2, [], 1⟩
/-- 0x4200.02 (chapter 04). -/
def PRED_THRESHOLD : Obj := ⟨0x4200, 0x02, .u8, 1, 1, 2, [], 4⟩
/-- 0x4200.03 (chapter 04). -/
def PRED_DECAY : Obj := ⟨0x4200, 0x03, .u32, 1, 1, 2, [], 1000⟩
/-- 0x4200.04 (chapter 04). -/
def AHT_RECORDS_A : Obj := ⟨0x4200, 0x04, .u32, 0, 1, 0, [], 0⟩
/-- 0x4200.05 (chapter 04). -/
def AHT_RECORDS_B : Obj := ⟨0x4200, 0x05, .u32, 0, 1, 0, [], 0⟩
/-- 0x4200.06 (chapter 04). -/
def AHT_EVICTIONS : Obj := ⟨0x4200, 0x06, .u64, 0, 1, 0, [], 0⟩
/-- 0x4201.01 (chapter 04). -/
def PLACE_REGION_SELECT : Obj := ⟨0x4201, 0x01, .u16, 1, 1, 1, [.path], 0⟩
/-- 0x4201.02 (chapter 04). -/
def PLACE_REGION_MODE : Obj := ⟨0x4201, 0x02, .enum8, 1, 1, 2, [.secureIf], 0⟩
/-- 0x4202.01 (chapter 04). -/
def ATW_HOLD : Obj := ⟨0x4202, 0x01, .u16, 1, 1, 2, [], 2⟩
/-- 0x4203.01 (chapter 04). -/
def ATW_HOME_OPS : Obj := ⟨0x4203, 0x01, .u64, 0, 1, 0, [], 0⟩
/-- 0x4203.02 (chapter 04). -/
def ATW_GRANTS : Obj := ⟨0x4203, 0x02, .u64, 0, 1, 0, [], 0⟩
/-- 0x4203.03 (chapter 04). -/
def ATW_REFUSED_RED : Obj := ⟨0x4203, 0x03, .u64, 0, 1, 0, [], 0⟩
/-- 0x4203.04 (chapter 04). -/
def ATW_DELAYED_YELLOW : Obj := ⟨0x4203, 0x04, .u64, 0, 1, 0, [], 0⟩
/-- 0x4203.05 (chapter 04). -/
def ATW_POISON : Obj := ⟨0x4203, 0x05, .u64, 0, 1, 0, [], 0⟩
/-- 0x4203.06 (chapter 04). -/
def ATW_BAD_REQUEST : Obj := ⟨0x4203, 0x06, .u64, 0, 1, 0, [], 0⟩
/-- 0x4203.07 (chapter 04). -/
def ATW_SLOT_BUSY_DROPS : Obj := ⟨0x4203, 0x07, .u64, 0, 1, 0, [], 0⟩
/-- 0x4203.08 (chapter 04). -/
def ATW_PENDING_READS : Obj := ⟨0x4203, 0x08, .u64, 0, 1, 0, [], 0⟩
/-- 0x4300.01 (chapter 15). -/
def MF_MODE : Obj := ⟨0x4300, 0x01, .enum8, 0, 1, 0, [], 0⟩
/-- 0x4300.02 (chapter 15). -/
def MF_PLANE_A_STATE : Obj := ⟨0x4300, 0x02, .enum8, 0, 1, 0, [], 0⟩
/-- 0x4300.03 (chapter 15). -/
def MF_PLANE_B_STATE : Obj := ⟨0x4300, 0x03, .enum8, 0, 1, 0, [], 1⟩
/-- 0x4300.04 (chapter 15). -/
def MF_CLAIM_A : Obj := ⟨0x4300, 0x04, .u32, 0, 1, 0, [], 0⟩
/-- 0x4300.05 (chapter 15). -/
def MF_CLAIM_B : Obj := ⟨0x4300, 0x05, .u32, 0, 1, 0, [], 0⟩
/-- 0x4300.06 (chapter 15). -/
def MERGE_WINDOW : Obj := ⟨0x4300, 0x06, .u16, 1, 1, 2, [], 5⟩
/-- 0x4300.07 (chapter 15). -/
def PLANE_TAKEOVERS : Obj := ⟨0x4300, 0x07, .u32, 0, 1, 0, [], 0⟩
/-- 0x4300.08 (chapter 15). -/
def DIVERGENCES : Obj := ⟨0x4300, 0x08, .u64, 0, 1, 0, [], 0⟩
/-- 0x4300.0C (chapter 15). -/
def PLANE_STALE_REFUSED : Obj := ⟨0x4300, 0x0C, .u64, 0, 1, 0, [], 0⟩
/-- 0x4300.0A (chapter 15). -/
def PLANE_REJOIN : Obj := ⟨0x4300, 0x0A, .cmd, 3, 2, 2, [], 0⟩
/-- 0x4300.0B (chapter 15). -/
def PLANE_RETIRE : Obj := ⟨0x4300, 0x0B, .cmd, 3, 2, 2, [], 0⟩
/-- 0x4301.01 (chapter 15). -/
def DIV_LOG_COUNT : Obj := ⟨0x4301, 0x01, .u16, 0, 1, 0, [], 0⟩
/-- 0x4301.02 (chapter 15). -/
def DIV_LOG_INDEX : Obj := ⟨0x4301, 0x02, .u16, 1, 1, 1, [.path], 0⟩
/-- 0x4301.03 (chapter 15). -/
def DIV_LOG_ENTRY : Obj := ⟨0x4301, 0x03, (.oct 32), 0, 1, 0, [], 0⟩
/-- 0x4301.04 (chapter 15). -/
def DIV_LOG_LOST : Obj := ⟨0x4301, 0x04, .u64, 0, 1, 0, [], 0⟩
/-- 0x4301.05 (chapter 15). -/
def DIV_LOG_CLEAR : Obj := ⟨0x4301, 0x05, .cmd, 3, 2, 2, [], 0⟩
/-- 0x4302.01 (chapter 15). -/
def MF_SCRUB_PERIOD : Obj := ⟨0x4302, 0x01, .u32, 1, 1, 2, [], 600⟩
/-- 0x4302.02 (chapter 15). -/
def PANEL_TEST_PERIOD : Obj := ⟨0x4302, 0x02, .u16, 1, 1, 2, [], 100⟩
/-- 0x4302.03 (chapter 15). -/
def SEAM_LOOPBACK_PERIOD : Obj := ⟨0x4302, 0x03, .u16, 1, 1, 2, [], 1000⟩
/-- 0x4302.04 (chapter 15). -/
def PAIR_VERIFY_PERIOD : Obj := ⟨0x4302, 0x04, .u16, 1, 1, 2, [], 10⟩
/-- 0x4303.01 (chapter 15). -/
def HEALTH_REPORT : Obj := ⟨0x4303, 0x01, (.oct 64), 0, 1, 0, [], 0⟩
/-- 0x4303.02 (chapter 15). -/
def HEALTH_SUMMARY : Obj := ⟨0x4303, 0x02, .bits32, 0, 1, 0, [], 0⟩
/-- 0x4303.03 (chapter 15). -/
def HEALTH_CLEAR : Obj := ⟨0x4303, 0x03, .cmd, 3, 1, 1, [], 0⟩
/-- 0x4400.01 (chapter 15). -/
def PAIR_PARTNER_UNIT : Obj := ⟨0x4400, 0x01, .u64, 1, 1, 2, [], 0⟩
/-- 0x4400.02 (chapter 15). -/
def PAIR_MODE : Obj := ⟨0x4400, 0x02, .enum8, 1, 1, 2, [], 0⟩
/-- 0x4400.03 (chapter 15). -/
def PAIR_SILENCE_POLICY : Obj := ⟨0x4400, 0x03, .enum8, 1, 1, 2, [], 0⟩
/-- 0x4400.04 (chapter 15). -/
def PAIR_ROLE : Obj := ⟨0x4400, 0x04, .enum8, 0, 1, 0, [], 0⟩
/-- 0x4400.05 (chapter 15). -/
def PAIR_MIRROR_STATE : Obj := ⟨0x4400, 0x05, .enum8, 0, 1, 0, [], 3⟩
/-- 0x4400.06 (chapter 15). -/
def PAIR_CLAIM : Obj := ⟨0x4400, 0x06, .u32, 0, 1, 0, [], 0⟩
/-- 0x4400.07 (chapter 15). -/
def PAIR_PARTNER_CLAIM : Obj := ⟨0x4400, 0x07, .u32, 0, 1, 0, [], 0⟩
/-- 0x4400.0B (chapter 15). -/
def PAIR_TAKEOVERS : Obj := ⟨0x4400, 0x0B, .u32, 0, 1, 0, [], 0⟩
/-- 0x4400.0C (chapter 15). -/
def PAIR_CONFLICT_SPANS : Obj := ⟨0x4400, 0x0C, .u32, 0, 1, 0, [], 0⟩
/-- 0x4400.0D (chapter 15). -/
def PAIR_RESYNC_LEFT : Obj := ⟨0x4400, 0x0D, .u32, 0, 1, 0, [], 0⟩
/-- 0x4400.08 (chapter 15). -/
def PAIR_HB_LOSS : Obj := ⟨0x4400, 0x08, .u32, 1, 1, 2, [], 1000⟩
/-- 0x4400.09 (chapter 15). -/
def PAIR_HANDOVER : Obj := ⟨0x4400, 0x09, .cmd, 3, 2, 2, [], 0⟩
/-- 0x4400.0A (chapter 15). -/
def PAIR_FORCE_PRIMARY : Obj := ⟨0x4400, 0x0A, .cmd, 3, 2, 2, [], 0⟩
/-- 0x4400.0E (chapter 15). -/
def PAIR_VERIFY_FAILS : Obj := ⟨0x4400, 0x0E, .u64, 0, 1, 0, [], 0⟩
/-- 0x4400.0F (chapter 15). -/
def PAIR_LEASE_WAITS : Obj := ⟨0x4400, 0x0F, .u64, 0, 1, 0, [], 0⟩
/-- 0x4400.10 (chapter 15). -/
def PAIR_PARTNER_MGMT : Obj := ⟨0x4400, 0x10, (.oct 16), 1, 1, 2, [], 0⟩
/-- 0x5000.01 (chapter 05). -/
def TILE_SELECT : Obj := ⟨0x5000, 0x01, .u64, 1, 1, 1, [.path], 0⟩
/-- 0x5000.02 (chapter 05). -/
def TILE_STATE : Obj := ⟨0x5000, 0x02, .enum8, 0, 1, 0, [.world], 0⟩
/-- 0x5000.03 (chapter 05). -/
def TILE_FLAGS : Obj := ⟨0x5000, 0x03, .bits32, 0, 1, 0, [.world], 0⟩
/-- 0x5000.04 (chapter 05). -/
def TILE_HOME : Obj := ⟨0x5000, 0x04, .u8, 0, 1, 0, [.world], 0⟩
/-- 0x5000.05 (chapter 05). -/
def TILE_DIRTY_LINES : Obj := ⟨0x5000, 0x05, .u16, 0, 1, 0, [.world], 0⟩
/-- 0x5001.01 (chapter 05). -/
def CHAN_SELECT : Obj := ⟨0x5001, 0x01, .u8, 1, 1, 1, [.path], 0⟩
/-- 0x5001.02 (chapter 05). -/
def CHAN_FRAMES : Obj := ⟨0x5001, 0x02, .u32, 0, 1, 0, [], 0⟩
/-- 0x5001.03 (chapter 05). -/
def CHAN_FREE : Obj := ⟨0x5001, 0x03, .u32, 0, 1, 0, [], 0⟩
/-- 0x5001.04 (chapter 05). -/
def CHAN_RESERVED : Obj := ⟨0x5001, 0x04, .u32, 0, 1, 0, [], 0⟩
/-- 0x5001.05 (chapter 05). -/
def CHAN_PINNED : Obj := ⟨0x5001, 0x05, .u32, 0, 1, 0, [], 0⟩
/-- 0x5001.06 (chapter 05). -/
def CHAN_STAGED : Obj := ⟨0x5001, 0x06, .u32, 0, 1, 0, [], 0⟩
/-- 0x5001.07 (chapter 05). -/
def CHAN_TAG_OVERFLOW : Obj := ⟨0x5001, 0x07, .u32, 0, 1, 0, [], 0⟩
/-- 0x5002.01 (chapter 06). -/
def TILE_HEADER : Obj := ⟨0x5002, 0x01, (.oct 64), 0, 1, 0, [.world], 0⟩
/-- 0x5100.01 (chapter 05). -/
def FERRY_PROMOTIONS : Obj := ⟨0x5100, 0x01, .u64, 0, 1, 0, [], 0⟩
/-- 0x5100.02 (chapter 05). -/
def FERRY_DEMOTIONS : Obj := ⟨0x5100, 0x02, .u64, 0, 1, 0, [], 0⟩
/-- 0x5100.03 (chapter 05). -/
def FERRY_CLEANINGS : Obj := ⟨0x5100, 0x03, .u64, 0, 1, 0, [], 0⟩
/-- 0x5100.04 (chapter 05). -/
def FERRY_DROPS : Obj := ⟨0x5100, 0x04, .u64, 0, 1, 0, [], 0⟩
/-- 0x5100.05 (chapter 05). -/
def FERRY_DEMAND_MISSES : Obj := ⟨0x5100, 0x05, .u64, 0, 1, 0, [], 0⟩
/-- 0x5100.06 (chapter 05). -/
def FERRY_ABANDONS : Obj := ⟨0x5100, 0x06, .u64, 0, 1, 0, [], 0⟩
/-- 0x5100.07 (chapter 05). -/
def FERRY_ABORTS : Obj := ⟨0x5100, 0x07, .u64, 0, 1, 0, [], 0⟩
/-- 0x5100.08 (chapter 05). -/
def FERRY_FRAME_WAITS : Obj := ⟨0x5100, 0x08, .u64, 0, 1, 0, [], 0⟩
/-- 0x5100.09 (chapter 05). -/
def FERRY_BYTES_NEAR : Obj := ⟨0x5100, 0x09, .u64, 0, 1, 0, [], 0⟩
/-- 0x5100.0A (chapter 05). -/
def FERRY_BYTES_FAR : Obj := ⟨0x5100, 0x0A, .u64, 0, 1, 0, [], 0⟩
/-- 0x5100.0D (chapter 05). -/
def SLIPWAY_WAITS : Obj := ⟨0x5100, 0x0D, .u64, 0, 1, 0, [], 0⟩
/-- 0x5100.0B (chapter 05). -/
def FERRY_MISS_MAX : Obj := ⟨0x5100, 0x0B, .time48, 0, 1, 0, [], 0⟩
/-- 0x5100.0C (chapter 05). -/
def FERRY_RATIO : Obj := ⟨0x5100, 0x0C, .u16, 0, 1, 0, [], 1000⟩
/-- 0x5120.01 (chapter 05). -/
def FERRY_FREE_LOW : Obj := ⟨0x5120, 0x01, .u16, 1, 1, 2, [], 10⟩
/-- 0x5120.03 (chapter 05). -/
def FERRY_AGE_TICK : Obj := ⟨0x5120, 0x03, .u16, 1, 1, 2, [], 1000⟩
/-- 0x5120.05 (chapter 05). -/
def FERRY_AGING_LIMIT : Obj := ⟨0x5120, 0x05, .u16, 1, 1, 2, [], 200⟩
/-- 0x5120.02 (chapter 05). -/
def FERRY_DEMOTE_AGE : Obj := ⟨0x5120, 0x02, .u8, 1, 1, 2, [], 30⟩
/-- 0x5120.04 (chapter 05). -/
def FERRY_COMPRESS : Obj := ⟨0x5120, 0x04, .enum8, 1, 1, 2, [], 1⟩
/-- 0x5121.01 (chapter 05). -/
def PIN_LIMIT_PCT : Obj := ⟨0x5121, 0x01, .u8, 1, 1, 2, [], 50⟩
/-- 0x5121.02 (chapter 05). -/
def PIN_BERTH_SELECT : Obj := ⟨0x5121, 0x02, .u8, 1, 1, 1, [.path], 0⟩
/-- 0x5121.03 (chapter 05). -/
def PIN_BERTH_LIMIT_GIB : Obj := ⟨0x5121, 0x03, .u32, 1, 1, 2, [], 0⟩
/-- 0x5121.04 (chapter 05). -/
def PIN_BERTH_USED_TILES : Obj := ⟨0x5121, 0x04, .u32, 0, 1, 0, [], 0⟩
/-- 0x5122.01 (chapter 05). -/
def HINTS_DONE : Obj := ⟨0x5122, 0x01, .u64, 0, 1, 0, [], 0⟩
/-- 0x5122.02 (chapter 05). -/
def HINTS_PARTIAL : Obj := ⟨0x5122, 0x02, .u64, 0, 1, 0, [], 0⟩
/-- 0x5122.03 (chapter 05). -/
def HINTS_REFUSED_RED : Obj := ⟨0x5122, 0x03, .u64, 0, 1, 0, [], 0⟩
/-- 0x5122.04 (chapter 05). -/
def HINTS_DELAYED_YELLOW : Obj := ⟨0x5122, 0x04, .u64, 0, 1, 0, [], 0⟩
/-- 0x5122.05 (chapter 05). -/
def HINT_SLOT_BUSY_DROPS : Obj := ⟨0x5122, 0x05, .u64, 0, 1, 0, [], 0⟩
/-- 0x5200.01 (chapter 06). -/
def CONV_DESCRIPTORS : Obj := ⟨0x5200, 0x01, .u64, 0, 1, 0, [], 0⟩
/-- 0x5200.02 (chapter 06). -/
def CONV_NOT_OK : Obj := ⟨0x5200, 0x02, .u64, 0, 1, 0, [], 0⟩
/-- 0x5200.03 (chapter 06). -/
def TCRC_FAIL_PROMOTE : Obj := ⟨0x5200, 0x03, .u64, 0, 1, 0, [], 0⟩
/-- 0x5200.04 (chapter 06). -/
def TCRC_FAIL_DEMOTE : Obj := ⟨0x5200, 0x04, .u64, 0, 1, 0, [], 0⟩
/-- 0x5200.05 (chapter 06). -/
def TCRC_FAIL_SOURCE : Obj := ⟨0x5200, 0x05, .u64, 0, 1, 0, [], 0⟩
/-- 0x5200.06 (chapter 06). -/
def CONV_UNSEALED : Obj := ⟨0x5200, 0x06, .u64, 0, 1, 0, [], 0⟩
/-- 0x5201.01 (chapter 06). -/
def TCRC_VERIFY_DEMOTE : Obj := ⟨0x5201, 0x01, .bool, 1, 1, 2, [], 1⟩
/-- 0x6000.01 (chapter 07). -/
def PANEL_SELECT : Obj := ⟨0x6000, 0x01, .u8, 1, 1, 1, [.path], 0⟩
/-- 0x6000.02 (chapter 07). -/
def PANEL_STATE : Obj := ⟨0x6000, 0x02, .enum8, 0, 1, 0, [.world], 0⟩
/-- 0x6000.03 (chapter 07). -/
def PANEL_BERTH : Obj := ⟨0x6000, 0x03, .u8, 0, 1, 0, [.world], 0xFF⟩
/-- 0x6000.04 (chapter 07). -/
def PANEL_WORLD : Obj := ⟨0x6000, 0x04, .bool, 0, 1, 0, [.world], 0⟩
/-- 0x6000.05 (chapter 07). -/
def PANEL_PACE : Obj := ⟨0x6000, 0x05, .u16, 0, 1, 0, [.world], 0⟩
/-- 0x6000.06 (chapter 07). -/
def PANEL_RESIDUE_RETRIES : Obj := ⟨0x6000, 0x06, .u64, 0, 1, 0, [.world], 0⟩
/-- 0x6000.07 (chapter 07). -/
def PANEL_RESIDUE_TRAPS : Obj := ⟨0x6000, 0x07, .u64, 0, 1, 0, [.world], 0⟩
/-- 0x6000.08 (chapter 07). -/
def PANEL_LS_CORRECTED : Obj := ⟨0x6000, 0x08, .u64, 0, 1, 0, [.world], 0⟩
/-- 0x6000.09 (chapter 07). -/
def PANEL_LS_UNCORRECTABLE : Obj := ⟨0x6000, 0x09, .u64, 0, 1, 0, [.world], 0⟩
/-- 0x6000.0A (chapter 07). -/
def PANEL_WEAVE_BYTES_IN : Obj := ⟨0x6000, 0x0A, .u64, 0, 1, 0, [.world], 0⟩
/-- 0x6000.0B (chapter 07). -/
def PANEL_WEAVE_BYTES_OUT : Obj := ⟨0x6000, 0x0B, .u64, 0, 1, 0, [.world], 0⟩
/-- 0x6000.0C (chapter 07). -/
def PANEL_LINK_DISCARDS : Obj := ⟨0x6000, 0x0C, .u64, 0, 1, 0, [.world], 0⟩
/-- 0x6001.01 (chapter 07). -/
def GRID_PANELS_IN_SERVICE : Obj := ⟨0x6001, 0x01, .u64, 0, 1, 0, [], 0⟩
/-- 0x6001.02 (chapter 07). -/
def GRID_RESIDUE_ENABLE : Obj := ⟨0x6001, 0x02, .bool, 1, 1, 3, [.l2], 1⟩
/-- 0x6002.01 (chapter 07). -/
def CORE_SELECT : Obj := ⟨0x6002, 0x01, .u16, 1, 1, 1, [.path], 0⟩
/-- 0x6002.02 (chapter 07). -/
def CORE_INSTRUCTIONS : Obj := ⟨0x6002, 0x02, .u64, 0, 1, 0, [.conf], 0⟩
/-- 0x6002.03 (chapter 07). -/
def CORE_MSG_WAITS : Obj := ⟨0x6002, 0x03, .u64, 0, 1, 0, [.conf], 0⟩
/-- 0x6002.04 (chapter 07). -/
def CORE_POOL_WAITS : Obj := ⟨0x6002, 0x04, .u64, 0, 1, 0, [.conf], 0⟩
/-- 0x6100.01 (chapter 09, 11). -/
def JOB_SAVE_SLOTS : Obj := ⟨0x6100, 0x01, .u8, 0, 1, 0, [], 0⟩
/-- 0x6100.02 (chapter 09, 11). -/
def GRID_SAVE_ALL : Obj := ⟨0x6100, 0x02, .cmd, 3, 2, 2, [], 0⟩
/-- 0x6100.03 (chapter 09, 11). -/
def JOB_SAVE_MAX : Obj := ⟨0x6100, 0x03, .time48, 0, 1, 0, [], 0⟩
/-- 0x6101.01 (chapter 09). -/
def JOB_BERTH_SELECT : Obj := ⟨0x6101, 0x01, .u8, 1, 1, 1, [.path], 0⟩
/-- 0x6101.02 (chapter 09). -/
def JOB_QUEUE_LIMIT : Obj := ⟨0x6101, 0x02, .u16, 1, 1, 2, [], 256⟩
/-- 0x6101.06 (chapter 09). -/
def JOB_QUANTUM : Obj := ⟨0x6101, 0x06, .u16, 1, 1, 2, [], 10⟩
/-- 0x6101.03 (chapter 09). -/
def JOB_PRIO_CAP : Obj := ⟨0x6101, 0x03, .u8, 1, 1, 2, [], 1⟩
/-- 0x6101.04 (chapter 09). -/
def JOB_LEND_LIMIT : Obj := ⟨0x6101, 0x04, .u8, 1, 1, 2, [], 0⟩
/-- 0x6101.05 (chapter 09). -/
def JOB_TLIMIT_DEFAULT : Obj := ⟨0x6101, 0x05, .u32, 1, 1, 2, [], 10000⟩
/-- 0x6102.01 (chapter 09). -/
def JOBS_DONE : Obj := ⟨0x6102, 0x01, .u64, 0, 1, 0, [], 0⟩
/-- 0x6102.02 (chapter 09). -/
def JOBS_REFUSED_RED : Obj := ⟨0x6102, 0x02, .u64, 0, 1, 0, [], 0⟩
/-- 0x6102.03 (chapter 09). -/
def JOBS_REFUSED_QUOTA : Obj := ⟨0x6102, 0x03, .u64, 0, 1, 0, [], 0⟩
/-- 0x6102.04 (chapter 09). -/
def JOBS_DELAYED_YELLOW : Obj := ⟨0x6102, 0x04, .u64, 0, 1, 0, [], 0⟩
/-- 0x6102.05 (chapter 09). -/
def JOBS_FAULT : Obj := ⟨0x6102, 0x05, .u64, 0, 1, 0, [], 0⟩
/-- 0x6102.06 (chapter 09). -/
def JOBS_ABORTED : Obj := ⟨0x6102, 0x06, .u64, 0, 1, 0, [], 0⟩
/-- 0x6102.07 (chapter 09). -/
def JOBS_PREEMPTIONS : Obj := ⟨0x6102, 0x07, .u64, 0, 1, 0, [], 0⟩
/-- 0x6102.08 (chapter 09). -/
def JOB_SLOT_BUSY_DROPS : Obj := ⟨0x6102, 0x08, .u64, 0, 1, 0, [], 0⟩
/-- 0x6103.01 (chapter 09). -/
def JOB_SELECT : Obj := ⟨0x6103, 0x01, .u16, 1, 1, 2, [.path], 0⟩
/-- 0x6103.02 (chapter 09). -/
def JOB_SAVE_OFFSET : Obj := ⟨0x6103, 0x02, .u32, 1, 1, 2, [.path], 0⟩
/-- 0x6103.03 (chapter 09). -/
def JOB_SAVE_WINDOW : Obj := ⟨0x6103, 0x03, (.oct 64), 0, 2, 0, [.world, .conf], 0⟩
/-- 0x7000.01 (chapter 13). -/
def HP_ENABLE : Obj := ⟨0x7000, 0x01, .bool, 1, 1, 2, [], 1⟩
/-- 0x7000.02 (chapter 13). -/
def HP_BIFURCATE : Obj := ⟨0x7000, 0x02, .bool, 1, 1, 2, [.nextReset], 0⟩
/-- 0x7000.03 (chapter 13). -/
def HP_CLOCKING : Obj := ⟨0x7000, 0x03, .enum8, 1, 1, 2, [.nextReset], 0⟩
/-- 0x7000.04 (chapter 13). -/
def HP_RATE_MAX : Obj := ⟨0x7000, 0x04, .enum8, 1, 1, 2, [.nextReset], 2⟩
/-- 0x7000.05 (chapter 13). -/
def HP_SELECT : Obj := ⟨0x7000, 0x05, .u8, 1, 1, 1, [.path], 0⟩
/-- 0x7001.01 (chapter 13). -/
def HL_SELECT : Obj := ⟨0x7001, 0x01, .u8, 1, 1, 1, [.path], 0⟩
/-- 0x7001.02 (chapter 13). -/
def HL_STATE : Obj := ⟨0x7001, 0x02, .enum8, 0, 1, 0, [], 0⟩
/-- 0x7001.05 (chapter 13). -/
def HL_FLIT : Obj := ⟨0x7001, 0x05, .enum8, 0, 1, 0, [], 0⟩
/-- 0x7001.03 (chapter 13). -/
def HL_RATE : Obj := ⟨0x7001, 0x03, .enum8, 0, 1, 0, [], 0⟩
/-- 0x7001.04 (chapter 13). -/
def HL_WIDTH : Obj := ⟨0x7001, 0x04, .u8, 0, 1, 0, [], 0⟩
/-- 0x7001.06 (chapter 13). -/
def HL_OPEN : Obj := ⟨0x7001, 0x06, .u16, 0, 1, 0, [], 0⟩
/-- 0x7001.07 (chapter 13). -/
def HL_OPEN_HIGH : Obj := ⟨0x7001, 0x07, .u16, 0, 1, 0, [], 0⟩
/-- 0x7001.08 (chapter 13). -/
def HL_RESP_DISCARDS : Obj := ⟨0x7001, 0x08, .u64, 0, 1, 0, [], 0⟩
/-- 0x7001.09 (chapter 13). -/
def HL_SEQ_STALLS : Obj := ⟨0x7001, 0x09, .u64, 0, 1, 0, [], 0⟩
/-- 0x7001.0B (chapter 13). -/
def HL_NO_DECODER : Obj := ⟨0x7001, 0x0B, .u64, 0, 1, 0, [], 0⟩
/-- 0x7001.0A (chapter 13). -/
def HL_DEGRADES : Obj := ⟨0x7001, 0x0A, .u32, 0, 1, 0, [], 0⟩
/-- 0x7002.01 (chapter 13). -/
def DC_RELEASE_TIMEOUT : Obj := ⟨0x7002, 0x01, .u32, 1, 1, 2, [], 1000⟩
/-- 0x7002.02 (chapter 13). -/
def DC_FORCED_WITHDRAWALS : Obj := ⟨0x7002, 0x02, .u64, 0, 1, 0, [], 0⟩
/-- 0x7100.01 (chapter 14). -/
def SEAM_SELECT : Obj := ⟨0x7100, 0x01, .u8, 1, 1, 1, [.path], 0⟩
/-- 0x7100.02 (chapter 14). -/
def SEAM_STATE : Obj := ⟨0x7100, 0x02, .enum8, 0, 1, 0, [], 0⟩
/-- 0x7100.08 (chapter 14). -/
def SEAM_DOWN_CAUSE : Obj := ⟨0x7100, 0x08, .enum8, 0, 1, 0, [], 0⟩
/-- 0x7100.03 (chapter 14). -/
def SEAM_WIDTH : Obj := ⟨0x7100, 0x03, .u8, 0, 1, 0, [], 0⟩
/-- 0x7100.04 (chapter 14). -/
def SEAM_PARTNER_UNIT : Obj := ⟨0x7100, 0x04, .u64, 0, 1, 0, [], 0⟩
/-- 0x7100.05 (chapter 14). -/
def SEAM_FLIGHT_NS : Obj := ⟨0x7100, 0x05, .u16, 0, 1, 0, [], 0⟩
/-- 0x7100.06 (chapter 14). -/
def SEAM_LANE_MAP : Obj := ⟨0x7100, 0x06, (.oct 32), 0, 1, 0, [], 0⟩
/-- 0x7100.07 (chapter 14). -/
def SEAM_SPARES_LEFT : Obj := ⟨0x7100, 0x07, .u8, 0, 1, 0, [], 0⟩
/-- 0x7101.01 (chapter 14). -/
def SEAM_FRAMES_TX : Obj := ⟨0x7101, 0x01, .u64, 0, 1, 0, [], 0⟩
/-- 0x7101.02 (chapter 14). -/
def SEAM_FRAMES_RX : Obj := ⟨0x7101, 0x02, .u64, 0, 1, 0, [], 0⟩
/-- 0x7101.03 (chapter 14). -/
def SEAM_CRC_ERRORS : Obj := ⟨0x7101, 0x03, .u64, 0, 1, 0, [], 0⟩
/-- 0x7101.04 (chapter 14). -/
def SEAM_REPLAYS : Obj := ⟨0x7101, 0x04, .u64, 0, 1, 0, [], 0⟩
/-- 0x7101.05 (chapter 14). -/
def SEAM_NAKS_SENT : Obj := ⟨0x7101, 0x05, .u64, 0, 1, 0, [], 0⟩
/-- 0x7101.08 (chapter 14). -/
def SEAM_LANE_ERRORS : Obj := ⟨0x7101, 0x08, .u64, 0, 1, 0, [], 0⟩
/-- 0x7101.09 (chapter 14). -/
def SEAM_CREDIT_WAITS : Obj := ⟨0x7101, 0x09, .u64, 0, 1, 0, [], 0⟩
/-- 0x7101.0A (chapter 14). -/
def SEAM_REPLAY_FULL_WAITS : Obj := ⟨0x7101, 0x0A, .u64, 0, 1, 0, [], 0⟩
/-- 0x7101.06 (chapter 14). -/
def SEAM_SPARE_SWAPS : Obj := ⟨0x7101, 0x06, .u32, 0, 1, 0, [], 0⟩
/-- 0x7101.0B (chapter 14). -/
def SEAM_RETRAINS : Obj := ⟨0x7101, 0x0B, .u32, 0, 1, 0, [], 0⟩
/-- 0x7101.07 (chapter 14). -/
def SEAM_LANE_SELECT : Obj := ⟨0x7101, 0x07, .u8, 1, 1, 1, [.path], 0⟩
/-- 0x7102.01 (chapter 14). -/
def SEAM_ENABLE : Obj := ⟨0x7102, 0x01, .bool, 1, 1, 2, [], 1⟩
/-- 0x7102.02 (chapter 14). -/
def SEAM_ACK_COALESCE : Obj := ⟨0x7102, 0x02, .u8, 1, 1, 2, [], 32⟩
/-- 0x7102.03 (chapter 14). -/
def SEAM_ACK_FORCE : Obj := ⟨0x7102, 0x03, .u16, 1, 1, 2, [], 250⟩
/-- 0x7102.04 (chapter 14). -/
def SEAM_REPLAY_TIMEOUT : Obj := ⟨0x7102, 0x04, .u16, 1, 1, 2, [], 4000⟩
/-- 0x7103.01 (chapter 14). -/
def SEAM_CLAIMS_SENT : Obj := ⟨0x7103, 0x01, .u64, 0, 1, 0, [], 0⟩
/-- 0x7103.02 (chapter 14). -/
def SEAM_CLAIMS_WON : Obj := ⟨0x7103, 0x02, .u64, 0, 1, 0, [], 0⟩
/-- 0x7103.03 (chapter 14). -/
def SEAM_CLAIMS_FOLDED : Obj := ⟨0x7103, 0x03, .u64, 0, 1, 0, [], 0⟩
/-- 0x7103.04 (chapter 14). -/
def SEAM_MSG_REFUSED : Obj := ⟨0x7103, 0x04, .u64, 0, 1, 0, [], 0⟩
/-- 0x7103.05 (chapter 14). -/
def SEAM_MSG_RESENT : Obj := ⟨0x7103, 0x05, .u64, 0, 1, 0, [], 0⟩
/-- 0x7103.06 (chapter 14). -/
def SEAM_LOOPBACK_FAILS : Obj := ⟨0x7103, 0x06, .u64, 0, 1, 0, [], 0⟩
/-- 0x7300.01 (chapter 10). -/
def WEAVE_ROUTE_EPOCH : Obj := ⟨0x7300, 0x01, .bool, 0, 1, 0, [], 0⟩
/-- 0x7300.02 (chapter 10). -/
def WEAVE_ROUTE_STATE : Obj := ⟨0x7300, 0x02, .enum8, 0, 1, 0, [], 0⟩
/-- 0x7300.03 (chapter 10). -/
def WEAVE_DRAIN_LAST : Obj := ⟨0x7300, 0x03, .time48, 0, 1, 0, [], 0⟩
/-- 0x7300.04 (chapter 10). -/
def WEAVE_DRAIN_MAX : Obj := ⟨0x7300, 0x04, .time48, 0, 1, 0, [], 0⟩
/-- 0x7300.05 (chapter 10). -/
def WEAVE_ROUTE_CHANGES : Obj := ⟨0x7300, 0x05, .u64, 0, 1, 0, [], 0⟩
/-- 0x7301.01 (chapter 10). -/
def WEAVE_EP_SELECT : Obj := ⟨0x7301, 0x01, .u16, 1, 1, 1, [.path], 0⟩
/-- 0x7301.02 (chapter 10). -/
def WEAVE_EP_STATE : Obj := ⟨0x7301, 0x02, .enum8, 0, 1, 0, [], 0⟩
/-- 0x7301.03 (chapter 10). -/
def WEAVE_EP_SUNK : Obj := ⟨0x7301, 0x03, .u64, 0, 1, 0, [], 0⟩
/-- 0x7302.01 (chapter 10). -/
def WEAVE_HOP_CORRECTED : Obj := ⟨0x7302, 0x01, .u64, 0, 1, 0, [], 0⟩
/-- 0x7302.02 (chapter 10). -/
def WEAVE_HOP_UNCORRECTABLE : Obj := ⟨0x7302, 0x02, .u64, 0, 1, 0, [], 0⟩
/-- 0x7302.03 (chapter 10). -/
def WEAVE_HEADER_ERRORS : Obj := ⟨0x7302, 0x03, .u64, 0, 1, 0, [], 0⟩
/-- 0x7302.04 (chapter 10). -/
def WEAVE_ORDER_ERRORS : Obj := ⟨0x7302, 0x04, .u64, 0, 1, 0, [], 0⟩
/-- 0x7302.05 (chapter 10). -/
def WEAVE_PROTOCOL_ERRORS : Obj := ⟨0x7302, 0x05, .u64, 0, 1, 0, [], 0⟩
/-- 0x7303.01 (chapter 10). -/
def WEAVE_MERGE_WAITS : Obj := ⟨0x7303, 0x01, .u64, 0, 1, 0, [], 0⟩
/-- 0x7303.02 (chapter 10). -/
def WEAVE_BISNP_CREDIT_WAITS : Obj := ⟨0x7303, 0x02, .u64, 0, 1, 0, [], 0⟩
/-- 0x8000.01 (chapter 11). -/
def DRAM_CHAN_SELECT : Obj := ⟨0x8000, 0x01, .u8, 1, 1, 1, [.path], 0⟩
/-- 0x8000.02 (chapter 11). -/
def DRAM_CHAN_STATE : Obj := ⟨0x8000, 0x02, .enum8, 0, 1, 0, [], 0⟩
/-- 0x8000.03 (chapter 11). -/
def DRAM_ORG : Obj := ⟨0x8000, 0x03, .bits32, 0, 1, 0, [], 0⟩
/-- 0x8000.04 (chapter 11). -/
def DRAM_CAPACITY_GIB : Obj := ⟨0x8000, 0x04, .u16, 0, 1, 0, [], 0⟩
/-- 0x8000.07 (chapter 11). -/
def DRAM_TRAIN_MARGIN : Obj := ⟨0x8000, 0x07, .u16, 0, 1, 0, [], 0⟩
/-- 0x8000.05 (chapter 11). -/
def DRAM_TEMP : Obj := ⟨0x8000, 0x05, .i32, 0, 1, 0, [], 0⟩
/-- 0x8000.06 (chapter 11). -/
def DRAM_REFRESH_RATE : Obj := ⟨0x8000, 0x06, .enum8, 0, 1, 0, [], 0⟩
/-- 0x8000.08 (chapter 11). -/
def DRAM_SHADOWED : Obj := ⟨0x8000, 0x08, .bool, 0, 1, 0, [], 0⟩
/-- 0x8001.01 (chapter 11). -/
def DRAM_SPEED : Obj := ⟨0x8001, 0x01, .enum8, 0, 1, 0, [], 0⟩
/-- 0x8001.02 (chapter 11). -/
def DRAM_SPEED_MAX : Obj := ⟨0x8001, 0x02, .enum8, 1, 1, 2, [.nextReset], 2⟩
/-- 0x8001.03 (chapter 11). -/
def DRAM_PAGE_IDLE : Obj := ⟨0x8001, 0x03, .u16, 1, 1, 2, [], 100⟩
/-- 0x8001.04 (chapter 11). -/
def DRAM_SCRUB_PERIOD : Obj := ⟨0x8001, 0x04, .u16, 1, 1, 2, [], 24⟩
/-- 0x8001.05 (chapter 11). -/
def DRAM_LOG_CORRECTED : Obj := ⟨0x8001, 0x05, .bool, 1, 1, 2, [], 0⟩
/-- 0x8001.06 (chapter 11). -/
def DRAM_TEMP_LIMIT : Obj := ⟨0x8001, 0x06, .u8, 1, 1, 2, [], 95⟩
/-- 0x8002.01 (chapter 11). -/
def DRAM_CORRECTED : Obj := ⟨0x8002, 0x01, .u64, 0, 1, 0, [], 0⟩
/-- 0x8002.02 (chapter 11). -/
def DRAM_REREAD_OK : Obj := ⟨0x8002, 0x02, .u64, 0, 1, 0, [], 0⟩
/-- 0x8002.03 (chapter 11). -/
def DRAM_REPAIRED : Obj := ⟨0x8002, 0x03, .u64, 0, 1, 0, [], 0⟩
/-- 0x8002.04 (chapter 11). -/
def DRAM_POISONED : Obj := ⟨0x8002, 0x04, .u64, 0, 1, 0, [], 0⟩
/-- 0x8002.05 (chapter 11). -/
def DRAM_CA_REPLAYS : Obj := ⟨0x8002, 0x05, .u64, 0, 1, 0, [], 0⟩
/-- 0x8002.06 (chapter 11). -/
def DRAM_WCRC_REPLAYS : Obj := ⟨0x8002, 0x06, .u64, 0, 1, 0, [], 0⟩
/-- 0x8002.07 (chapter 11). -/
def DRAM_REFRESHES : Obj := ⟨0x8002, 0x07, .u64, 0, 1, 0, [], 0⟩
/-- 0x8003.01 (chapter 11). -/
def DRAM_RETIRE : Obj := ⟨0x8003, 0x01, .cmd, 3, 2, 2, [], 0⟩
/-- 0x8003.02 (chapter 11). -/
def DRAM_RETIRE_PROGRESS : Obj := ⟨0x8003, 0x02, .u32, 0, 1, 0, [], 0⟩
/-- 0x8003.03 (chapter 11). -/
def DRAM_RSV_DISPLACED : Obj := ⟨0x8003, 0x03, .u32, 0, 1, 0, [], 0⟩
/-- 0x8003.04 (chapter 11). -/
def DRAM_MIRROR_DEGRADED : Obj := ⟨0x8003, 0x04, .bits32, 0, 1, 0, [], 0⟩
/-- 0x8003.05 (chapter 11). -/
def DRAM_LOST_LINES : Obj := ⟨0x8003, 0x05, .u64, 0, 1, 0, [], 0⟩
/-- 0x8004.01 (chapter 11). -/
def DRAM_LOG_COUNT : Obj := ⟨0x8004, 0x01, .u16, 0, 1, 0, [], 0⟩
/-- 0x8004.02 (chapter 11). -/
def DRAM_LOG_INDEX : Obj := ⟨0x8004, 0x02, .u16, 1, 1, 1, [.path], 0⟩
/-- 0x8004.03 (chapter 11). -/
def DRAM_LOG_ENTRY : Obj := ⟨0x8004, 0x03, (.oct 32), 0, 1, 0, [.world], 0⟩
/-- 0x8004.04 (chapter 11). -/
def DRAM_LOG_LOST : Obj := ⟨0x8004, 0x04, .u64, 0, 1, 0, [], 0⟩
/-- 0x8004.05 (chapter 11). -/
def DRAM_LOG_CLEAR : Obj := ⟨0x8004, 0x05, .cmd, 3, 2, 2, [], 0⟩
/-- 0x8100.01 (chapter 12). -/
def FLASH_CHAN_SELECT : Obj := ⟨0x8100, 0x01, .u8, 1, 1, 1, [.path], 0⟩
/-- 0x8100.02 (chapter 12). -/
def FLASH_CHAN_STATE : Obj := ⟨0x8100, 0x02, .enum8, 0, 1, 0, [], 0⟩
/-- 0x8100.03 (chapter 12). -/
def FLASH_TARGETS : Obj := ⟨0x8100, 0x03, .bits32, 0, 1, 0, [], 0⟩
/-- 0x8100.04 (chapter 12). -/
def FLASH_RAW_GIB : Obj := ⟨0x8100, 0x04, .u32, 0, 1, 0, [], 0⟩
/-- 0x8100.05 (chapter 12). -/
def FLASH_READ_UNCORR : Obj := ⟨0x8100, 0x05, .u64, 0, 1, 0, [], 0⟩
/-- 0x8100.06 (chapter 12). -/
def FLASH_PROG_FAIL : Obj := ⟨0x8100, 0x06, .u64, 0, 1, 0, [], 0⟩
/-- 0x8100.07 (chapter 12). -/
def FLASH_ERASE_FAIL : Obj := ⟨0x8100, 0x07, .u64, 0, 1, 0, [], 0⟩
/-- 0x8100.08 (chapter 12). -/
def FLASH_SUSPENDS : Obj := ⟨0x8100, 0x08, .u64, 0, 1, 0, [], 0⟩
/-- 0x8101.01 (chapter 12). -/
def FAR_RAW_GIB : Obj := ⟨0x8101, 0x01, .u32, 0, 1, 0, [], 0⟩
/-- 0x8101.02 (chapter 12). -/
def FAR_DATA_GIB : Obj := ⟨0x8101, 0x02, .u32, 0, 1, 0, [], 0⟩
/-- 0x8101.03 (chapter 12). -/
def FAR_EXPOSED_GIB : Obj := ⟨0x8101, 0x03, .u32, 0, 1, 0, [], 0⟩
/-- 0x8101.04 (chapter 12). -/
def FAR_FLOOR_GIB : Obj := ⟨0x8101, 0x04, .u32, 0, 1, 0, [], 0⟩
/-- 0x8101.06 (chapter 12). -/
def FAR_LOG_CAPACITY : Obj := ⟨0x8101, 0x06, .u32, 0, 1, 0, [], 0⟩
/-- 0x8101.07 (chapter 12). -/
def FAR_FREE_BANDS : Obj := ⟨0x8101, 0x07, .u32, 0, 1, 0, [], 0⟩
/-- 0x8101.05 (chapter 12). -/
def FAR_LOG_ENTRIES : Obj := ⟨0x8101, 0x05, .u32, 0, 1, 0, [], 0⟩
/-- 0x8101.08 (chapter 12). -/
def FAR_BAD_BLOCK_SETS : Obj := ⟨0x8101, 0x08, .u32, 0, 1, 0, [], 0⟩
/-- 0x8101.09 (chapter 12). -/
def FAR_WEAR_MAX : Obj := ⟨0x8101, 0x09, .u32, 0, 1, 0, [], 0⟩
/-- 0x8101.0A (chapter 12). -/
def FAR_WEAR_MIN : Obj := ⟨0x8101, 0x0A, .u32, 0, 1, 0, [], 0⟩
/-- 0x8101.0B (chapter 12). -/
def FAR_REBUILDS : Obj := ⟨0x8101, 0x0B, .u64, 0, 1, 0, [], 0⟩
/-- 0x8101.0C (chapter 12). -/
def FAR_UNRECOVERED : Obj := ⟨0x8101, 0x0C, .u64, 0, 1, 0, [], 0⟩
/-- 0x8101.0D (chapter 12). -/
def FAR_MERGES : Obj := ⟨0x8101, 0x0D, .u64, 0, 1, 0, [], 0⟩
/-- 0x8101.0E (chapter 12). -/
def FAR_WRITE_AMP : Obj := ⟨0x8101, 0x0E, .u16, 0, 1, 0, [], 1000⟩
/-- 0x8102.01 (chapter 12). -/
def FAR_ROW_FLUSH : Obj := ⟨0x8102, 0x01, .u16, 1, 1, 2, [], 10⟩
/-- 0x8102.02 (chapter 12). -/
def FAR_WEAR_SPREAD : Obj := ⟨0x8102, 0x02, .u16, 1, 1, 2, [], 256⟩
/-- 0x8102.04 (chapter 12). -/
def FAR_FREE_BANDS_LOW : Obj := ⟨0x8102, 0x04, .u16, 1, 1, 2, [], 64⟩
/-- 0x8102.03 (chapter 12). -/
def FAR_MERGE_START : Obj := ⟨0x8102, 0x03, .u8, 1, 1, 2, [], 50⟩
/-- 0x8103.01 (chapter 12). -/
def FLASH_RETIRE : Obj := ⟨0x8103, 0x01, .cmd, 3, 2, 2, [], 0⟩
/-- 0x8103.02 (chapter 12). -/
def FLASH_RETIRE_PROGRESS : Obj := ⟨0x8103, 0x02, .u64, 0, 1, 0, [], 0⟩
/-- 0x8103.03 (chapter 12). -/
def FLASH_REBUILD_PROGRESS : Obj := ⟨0x8103, 0x03, .u64, 0, 1, 0, [], 0⟩
/-- 0x9000.01 (chapter 16). -/
def METER_REBALANCE : Obj := ⟨0x9000, 0x01, .u16, 1, 1, 2, [], 100⟩
/-- 0x9000.02 (chapter 16). -/
def HOLD_YELLOW_MEM : Obj := ⟨0x9000, 0x02, .u16, 1, 1, 2, [], 20⟩
/-- 0x9000.03 (chapter 16). -/
def HOLD_RED_MEM : Obj := ⟨0x9000, 0x03, .u16, 1, 1, 2, [], 100⟩
/-- 0x9000.04 (chapter 16). -/
def HOLD_YELLOW_ATW : Obj := ⟨0x9000, 0x04, .u16, 1, 1, 2, [], 20⟩
/-- 0x9000.05 (chapter 16). -/
def HOLD_YELLOW_HINT : Obj := ⟨0x9000, 0x05, .u16, 1, 1, 2, [], 1⟩
/-- 0x9000.06 (chapter 16). -/
def HOLD_YELLOW_JOB : Obj := ⟨0x9000, 0x06, .u16, 1, 1, 2, [], 50⟩
/-- 0x9100.01 (chapter 16). -/
def BMETER_BERTH : Obj := ⟨0x9100, 0x01, .u8, 1, 1, 1, [.path], 0⟩
/-- 0x9100.02 (chapter 16). -/
def BMETER_KIND : Obj := ⟨0x9100, 0x02, .enum8, 1, 1, 1, [.path], 0⟩
/-- 0x9100.03 (chapter 16). -/
def BMETER_SHAPER : Obj := ⟨0x9100, 0x03, (.oct 32), 0, 1, 0, [], 0⟩
/-- 0x9100.04 (chapter 16). -/
def BMETER_SHAPER_SET : Obj := ⟨0x9100, 0x04, .cmd, 3, 2, 2, [.secureIf], 0⟩
/-- 0x9101.01 (chapter 16). -/
def BMETER_GREEN : Obj := ⟨0x9101, 0x01, .u64, 0, 1, 0, [], 0⟩
/-- 0x9101.02 (chapter 16). -/
def BMETER_YELLOW : Obj := ⟨0x9101, 0x02, .u64, 0, 1, 0, [], 0⟩
/-- 0x9101.03 (chapter 16). -/
def BMETER_RED : Obj := ⟨0x9101, 0x03, .u64, 0, 1, 0, [], 0⟩
/-- 0x9101.04 (chapter 16). -/
def BMETER_BOUND_RELEASES : Obj := ⟨0x9101, 0x04, .u64, 0, 1, 0, [], 0⟩
/-- 0x9101.05 (chapter 16). -/
def BMETER_TC : Obj := ⟨0x9101, 0x05, .u64, 0, 1, 0, [], 0⟩
/-- 0x9101.06 (chapter 16). -/
def BMETER_TP : Obj := ⟨0x9101, 0x06, .u64, 0, 1, 0, [], 0⟩
/-- 0x9101.07 (chapter 16). -/
def BMETER_INSTANCES : Obj := ⟨0x9101, 0x07, .u8, 0, 1, 0, [], 0⟩
/-- 0x9200.01 (chapter 16). -/
def PMETER_PORT : Obj := ⟨0x9200, 0x01, .u8, 1, 1, 1, [.path], 0⟩
/-- 0x9200.02 (chapter 16). -/
def PMETER_SHAPER : Obj := ⟨0x9200, 0x02, (.oct 32), 0, 1, 0, [], 0⟩
/-- 0x9200.03 (chapter 16). -/
def PMETER_SHAPER_SET : Obj := ⟨0x9200, 0x03, .cmd, 3, 2, 2, [], 0⟩
/-- 0x9201.01 (chapter 16). -/
def PMETER_GREEN : Obj := ⟨0x9201, 0x01, .u64, 0, 1, 0, [], 0⟩
/-- 0x9201.02 (chapter 16). -/
def PMETER_YELLOW : Obj := ⟨0x9201, 0x02, .u64, 0, 1, 0, [], 0⟩
/-- 0x9201.03 (chapter 16). -/
def PMETER_RED : Obj := ⟨0x9201, 0x03, .u64, 0, 1, 0, [], 0⟩
/-- 0x9201.04 (chapter 16). -/
def PMETER_EARLY_RELEASES : Obj := ⟨0x9201, 0x04, .u64, 0, 1, 0, [], 0⟩
/-- 0x9201.05 (chapter 16). -/
def PMETER_BOUND_RELEASES : Obj := ⟨0x9201, 0x05, .u64, 0, 1, 0, [], 0⟩
/-- 0x9201.08 (chapter 16). -/
def PMETER_DEVLOAD_SEVERE : Obj := ⟨0x9201, 0x08, .u64, 0, 1, 0, [], 0⟩
/-- 0x9201.06 (chapter 16). -/
def PMETER_HELD_NOW : Obj := ⟨0x9201, 0x06, .u16, 0, 1, 0, [], 0⟩
/-- 0x9201.07 (chapter 16). -/
def PMETER_HOLD_MAX : Obj := ⟨0x9201, 0x07, .time48, 0, 1, 0, [], 0⟩
/-- 0xA000.01 (chapter 17). -/
def ERR_LOG_COUNT : Obj := ⟨0xA000, 0x01, .u16, 0, 1, 0, [.recov], 0⟩
/-- 0xA000.02 (chapter 17). -/
def ERR_LOG_INDEX : Obj := ⟨0xA000, 0x02, .u16, 1, 1, 1, [.path, .recov], 0⟩
/-- 0xA000.03 (chapter 17). -/
def ERR_LOG_ENTRY : Obj := ⟨0xA000, 0x03, (.oct 32), 0, 1, 0, [.world, .recov], 0⟩
/-- 0xA000.04 (chapter 17). -/
def ERR_LOG_LOST : Obj := ⟨0xA000, 0x04, .u64, 0, 1, 0, [.recov], 0⟩
/-- 0xA000.05 (chapter 17). -/
def ERR_LOG_CLEAR : Obj := ⟨0xA000, 0x05, .cmd, 3, 2, 2, [.recov], 0⟩
/-- 0xA010.01 (chapter 02). -/
def LANDING_FIFO_DISCARDS : Obj := ⟨0xA010, 0x01, .u64, 0, 1, 0, [], 0⟩
/-- 0xA010.02 (chapter 17). -/
def WEAVE_LATE_REPLIES : Obj := ⟨0xA010, 0x02, .u64, 0, 1, 0, [], 0⟩
/-- 0xA010.03 (chapter 17). -/
def FAR_POISON_FULL_WAITS : Obj := ⟨0xA010, 0x03, .u64, 0, 1, 0, [], 0⟩
/-- 0xA010.04 (chapter 17). -/
def TILE_CHECK_FAILURES : Obj := ⟨0xA010, 0x04, .u64, 0, 1, 0, [], 0⟩
/-- 0xA100.01 (chapter 17). -/
def BUCKET_SELECT : Obj := ⟨0xA100, 0x01, .u16, 1, 1, 1, [.path], 0x0100⟩
/-- 0xA100.02 (chapter 17). -/
def BUCKET_LEVEL : Obj := ⟨0xA100, 0x02, .u16, 0, 1, 0, [], 0⟩
/-- 0xA100.03 (chapter 17). -/
def BUCKET_WINDOW : Obj := ⟨0xA100, 0x03, .u32, 0, 1, 0, [], 0⟩
/-- 0xA100.04 (chapter 17). -/
def BUCKET_THRESHOLD : Obj := ⟨0xA100, 0x04, .u16, 0, 1, 0, [], 0⟩
/-- 0xA100.05 (chapter 17). -/
def BUCKET_TRIPS : Obj := ⟨0xA100, 0x05, .u32, 0, 1, 0, [], 0⟩
/-- 0xA100.06 (chapter 17). -/
def BUCKET_EVENTS : Obj := ⟨0xA100, 0x06, .u64, 0, 1, 0, [], 0⟩
/-- 0xA200.01 (chapter 17). -/
def CONTAIN_CHANNEL_SELECT : Obj := ⟨0xA200, 0x01, .u8, 1, 1, 1, [.path], 0⟩
/-- 0xA200.02 (chapter 17). -/
def CONTAIN_CHANNEL_MODE : Obj := ⟨0xA200, 0x02, .enum8, 1, 1, 2, [], 0⟩
/-- 0xA200.03 (chapter 17). -/
def CONTAIN_CLASS_MODE : Obj := ⟨0xA200, 0x03, .bits32, 1, 1, 2, [], 0⟩
/-- 0xA201.01 (chapter 17). -/
def REPORT_SELECT : Obj := ⟨0xA201, 0x01, .u8, 1, 1, 1, [.path], 80⟩
/-- 0xA201.02 (chapter 17). -/
def REPORT_MODE : Obj := ⟨0xA201, 0x02, .enum8, 1, 1, 2, [], 0⟩
/-- 0xA201.03 (chapter 17). -/
def REPORT_SUPPRESSED : Obj := ⟨0xA201, 0x03, .u64, 0, 1, 0, [], 0⟩
/-- 0xA300.01 (chapter 17). -/
def SDC_FULL_CHECKING : Obj := ⟨0xA300, 0x01, .bool, 0, 1, 0, [], 1⟩
/-- 0xA300.02 (chapter 17). -/
def SDC_GAPS : Obj := ⟨0xA300, 0x02, .bits32, 0, 1, 0, [], 0⟩
/-- 0xA301.01 (chapter 17). -/
def CANARY_ENABLE : Obj := ⟨0xA301, 0x01, .bool, 1, 1, 2, [], 1⟩
/-- 0xA301.02 (chapter 17). -/
def CANARY_PERIOD : Obj := ⟨0xA301, 0x02, .u16, 1, 1, 2, [], 100⟩
/-- 0xA301.03 (chapter 17). -/
def CANARY_STEPS : Obj := ⟨0xA301, 0x03, .u64, 0, 1, 0, [], 0⟩
/-- 0xA301.04 (chapter 17). -/
def CANARY_FAILS : Obj := ⟨0xA301, 0x04, .u64, 0, 1, 0, [], 0⟩
/-- 0xA301.05 (chapter 17). -/
def CANARY_LAST_FAIL : Obj := ⟨0xA301, 0x05, (.oct 32), 0, 1, 0, [], 0⟩
/-- 0xA400.01 (chapter 17, 24). -/
def RESET_CAUSE : Obj := ⟨0xA400, 0x01, .enum8, 0, 1, 0, [], 0⟩
/-- 0xA400.02 (chapter 17, 24). -/
def RESET_RECORD : Obj := ⟨0xA400, 0x02, (.oct 32), 0, 1, 0, [], 0⟩
/-- 0xA400.03 (chapter 17, 24). -/
def CONTAIN_RESETS : Obj := ⟨0xA400, 0x03, .u32, 0, 1, 0, [], 0⟩
/-- 0xF000.01 (chapter 25, 19). -/
def TOBS_SELECT : Obj := ⟨0xF000, 0x01, .u16, 1, 3, 3, [.v], 0⟩
/-- 0xF000.02 (chapter 25, 19). -/
def TRACE_ENABLE : Obj := ⟨0xF000, 0x02, .bool, 1, 3, 3, [.v], 0⟩
/-- 0xF000.03 (chapter 25, 19). -/
def TRACE_FILTER : Obj := ⟨0xF000, 0x03, (.oct 32), 1, 3, 3, [.v], 0⟩
/-- 0xF000.04 (chapter 25, 19). -/
def TRACE_STATUS : Obj := ⟨0xF000, 0x04, .bits32, 0, 3, 0, [.v], 0⟩
/-- 0xF001.01 (chapter 22). -/
def DIAG_ADDR : Obj := ⟨0xF001, 0x01, .u64, 1, 3, 3, [.v], 0⟩
/-- 0xF001.02 (chapter 22). -/
def DIAG_DATA : Obj := ⟨0xF001, 0x02, (.oct 64), 1, 3, 3, [.v], 0⟩
/-- 0xF001.03 (chapter 22). -/
def DIAG_REFUSED : Obj := ⟨0xF001, 0x03, .u64, 0, 3, 0, [.v], 0⟩

/-- The objects 0x1xxx in index order. -/
def page1 : List Obj :=
  [VENDOR_ID, DEVICE_ID, SILICON_REV, ORDERING_CODE, CRED_OPERATOR_NS, CRED_OPERATOR_S,
   CRED_ADMIN_NS, CRED_ADMIN_S, CRED_VENDOR, CRED_EVENT, CRED_STATE, TACK_SESSIONS,
   TACK_AUTH_FAILS, TACK_IDLE_TIMEOUT, EVENT_DEST_0, EVENT_DEST_1, EVENT_SEQ, EVENT_HEARTBEAT,
   PAIR_MGMT_DISCARDS, MG_SELECT, MG_ADDR, MG_PREFIX, MG_GATEWAY, MG_LINK,
   MG_MAC]
/-- The objects 0x2xxx in index order. -/
def page2 : List Obj :=
  [POWER_CAP, POWER_NOW, VCORE_MV, POWER_PEAK, POWER_LIMITING, POWER_CAP_STEPS,
   THERM_SELECT, THERM_TEMP, THERM_HOTTEST, THERM_WARN, THERM_TRIP, THERM_STATE,
   THERM_EVENTS, PACE_MIN, PACE_GRID, PACE_WEAVE, PACE_MANIFEST_A, PACE_MANIFEST_B,
   PACE_SLICES, PACE_FERRY, PACE_FFU, PACE_STAMP, PACE_LOW_WATER, PACE_LOW_WATER_CLEAR,
   PACE_STATUS, PACE_ALERT_BELOW, PACE_LOOP_FAULT, PACE_LOOP_FAULT_HI, PACE_LOOP_FAULT_TOP, ISLAND_LOCK,
   CLOCK_SOURCE, LC_STATE, LC_TRANSITION, LC_NONCE, LC_UNLOCK, LC_DEBUG_OPEN,
   LC_KEK_EPOCH, UNIT_ID, FW_STATE, FW_COMPAT, FW_SET_ID, FW_TRIAL,
   FW_PARTNER_SET_ID, FW_IMAGE_SELECT, FW_IF_ACTIVE, FW_BUILD_ACTIVE, FW_SVN_ACTIVE, FW_SVN_FLOOR,
   FW_BANK_ACTIVE, FW_IF_INACTIVE, FW_STAGE, FW_STAGE_STATUS, FW_ACTIVATE, FW_SVN_COMMIT,
   FW_TRIAL_HOLD, FW_ROLLBACK, FW_COMPAT_POLICY, FW_MATRIX_ROWS, RESTART, RESET_KIND,
   BOOT_DONE_TIME, BOOT_COUNT, BOOT_STEP, TRAIN_RETAIN, FAR_FORMAT, STRAPS,
   RAIL_SELECT, RAIL_MV]
/-- The objects 0x3xxx in index order. -/
def page3 : List Obj :=
  [BERTH_SELECT, BERTH_STATE, BERTH_CONFIDENTIAL, BERTH_REGIONS, BERTH_PANELS, BERTH_CREATE,
   BERTH_DELETE, PANEL_ASSIGN, LD_BIND, WORLD_LANDINGS, WORLD_LANDING_SET, WORLD_PANELS,
   REGION_SELECT, REGION_BASE, REGION_SIZE, REGION_CLASS, REGION_OWNER, REGION_SHARE,
   REGION_STATE, REGION_WORLD, REGION_PRIV_LD, REGION_CREATE, REGION_DELETE, POOL_VISIBLE_GIB,
   POOL_FREE_GIB, POOL_LARGEST_FREE_GIB, NEAR_USABLE_GIB, NEAR_RESERVABLE_GIB, NEAR_RESERVED_GIB, LD_SELECT,
   LD_AGENT, LD_BERTH, LD_COHERENCE, LD_EXTENTS, LD_EXTENTS_WITHHELD, LD_OUTSIDE_EXTENT,
   PERM_GRANT, PERM_GRANT_COUNT, PERM_EPOCH, PERM_EPOCH_DRAINED, PERM_OLD_INFLIGHT, PERM_DRAIN_LAST,
   PERM_DRAIN_MAX, PERM_CLEAN_PENDING, PERM_REFUSED, CONF_DEVICE, CONF_SET, ATTEST_BERTH_SELECT,
   ATTEST_LEAF_SERIAL, ATTEST_OID_ARC, KEY_BERTH_SELECT, KEY_STATE, KEY_ACTIVE_SLOT, KEY_GEN_A,
   KEY_GEN_B, KEY_ROTATE, REKEY_LEFT, REKEY_SHARE, KEY_MISMATCHES, PAIR_SECRET,
   PAIR_KEY_CHECK, PAIR_KEY_MATCH]
/-- The objects 0x4xxx in index order. -/
def page4 : List Obj :=
  [MF_CAPACITY_LINES, MF_TRACKED_A, MF_TRACKED_B, MF_TRACKED_HIGH, MF_CACHE_HITS, BISNP_TIMEOUT,
   MF_RECALLS, MF_CAPACITY_RECALLS, MF_RECALL_TABLE_WAITS, MF_PROTOCOL_ANOMALIES, MF_RECALL_MAX, AGENT_SELECT,
   AGENT_STATE, AGENT_LINES_SHARED, AGENT_LINES_OWNED, AGENT_DEATH_CAUSE, AGENT_DEATH_TIME, AGENT_POISONED_LINES,
   DEAD_POISON_LOG_COUNT, DEAD_POISON_LOG_INDEX, DEAD_POISON_LOG_ENTRY, DEAD_POISON_LOG_LOST, DEAD_POISON_LOG_CLEAR, PRED_ENABLE,
   PRED_THRESHOLD, PRED_DECAY, AHT_RECORDS_A, AHT_RECORDS_B, AHT_EVICTIONS, PLACE_REGION_SELECT,
   PLACE_REGION_MODE, ATW_HOLD, ATW_HOME_OPS, ATW_GRANTS, ATW_REFUSED_RED, ATW_DELAYED_YELLOW,
   ATW_POISON, ATW_BAD_REQUEST, ATW_SLOT_BUSY_DROPS, ATW_PENDING_READS, MF_MODE, MF_PLANE_A_STATE,
   MF_PLANE_B_STATE, MF_CLAIM_A, MF_CLAIM_B, MERGE_WINDOW, PLANE_TAKEOVERS, DIVERGENCES,
   PLANE_REJOIN, PLANE_RETIRE, PLANE_STALE_REFUSED, DIV_LOG_COUNT, DIV_LOG_INDEX, DIV_LOG_ENTRY,
   DIV_LOG_LOST, DIV_LOG_CLEAR, MF_SCRUB_PERIOD, PANEL_TEST_PERIOD, SEAM_LOOPBACK_PERIOD, PAIR_VERIFY_PERIOD,
   HEALTH_REPORT, HEALTH_SUMMARY, HEALTH_CLEAR, PAIR_PARTNER_UNIT, PAIR_MODE, PAIR_SILENCE_POLICY,
   PAIR_ROLE, PAIR_MIRROR_STATE, PAIR_CLAIM, PAIR_PARTNER_CLAIM, PAIR_HB_LOSS, PAIR_HANDOVER,
   PAIR_FORCE_PRIMARY, PAIR_TAKEOVERS, PAIR_CONFLICT_SPANS, PAIR_RESYNC_LEFT, PAIR_VERIFY_FAILS, PAIR_LEASE_WAITS,
   PAIR_PARTNER_MGMT]
/-- The objects 0x5xxx in index order. -/
def page5 : List Obj :=
  [TILE_SELECT, TILE_STATE, TILE_FLAGS, TILE_HOME, TILE_DIRTY_LINES, CHAN_SELECT,
   CHAN_FRAMES, CHAN_FREE, CHAN_RESERVED, CHAN_PINNED, CHAN_STAGED, CHAN_TAG_OVERFLOW,
   TILE_HEADER, FERRY_PROMOTIONS, FERRY_DEMOTIONS, FERRY_CLEANINGS, FERRY_DROPS, FERRY_DEMAND_MISSES,
   FERRY_ABANDONS, FERRY_ABORTS, FERRY_FRAME_WAITS, FERRY_BYTES_NEAR, FERRY_BYTES_FAR, FERRY_MISS_MAX,
   FERRY_RATIO, SLIPWAY_WAITS, FERRY_FREE_LOW, FERRY_DEMOTE_AGE, FERRY_AGE_TICK, FERRY_COMPRESS,
   FERRY_AGING_LIMIT, PIN_LIMIT_PCT, PIN_BERTH_SELECT, PIN_BERTH_LIMIT_GIB, PIN_BERTH_USED_TILES, HINTS_DONE,
   HINTS_PARTIAL, HINTS_REFUSED_RED, HINTS_DELAYED_YELLOW, HINT_SLOT_BUSY_DROPS, CONV_DESCRIPTORS, CONV_NOT_OK,
   TCRC_FAIL_PROMOTE, TCRC_FAIL_DEMOTE, TCRC_FAIL_SOURCE, CONV_UNSEALED, TCRC_VERIFY_DEMOTE]
/-- The objects 0x6xxx in index order. -/
def page6 : List Obj :=
  [PANEL_SELECT, PANEL_STATE, PANEL_BERTH, PANEL_WORLD, PANEL_PACE, PANEL_RESIDUE_RETRIES,
   PANEL_RESIDUE_TRAPS, PANEL_LS_CORRECTED, PANEL_LS_UNCORRECTABLE, PANEL_WEAVE_BYTES_IN, PANEL_WEAVE_BYTES_OUT, PANEL_LINK_DISCARDS,
   GRID_PANELS_IN_SERVICE, GRID_RESIDUE_ENABLE, CORE_SELECT, CORE_INSTRUCTIONS, CORE_MSG_WAITS, CORE_POOL_WAITS,
   JOB_SAVE_SLOTS, GRID_SAVE_ALL, JOB_SAVE_MAX, JOB_BERTH_SELECT, JOB_QUEUE_LIMIT, JOB_PRIO_CAP,
   JOB_LEND_LIMIT, JOB_TLIMIT_DEFAULT, JOB_QUANTUM, JOBS_DONE, JOBS_REFUSED_RED, JOBS_REFUSED_QUOTA,
   JOBS_DELAYED_YELLOW, JOBS_FAULT, JOBS_ABORTED, JOBS_PREEMPTIONS, JOB_SLOT_BUSY_DROPS, JOB_SELECT,
   JOB_SAVE_OFFSET, JOB_SAVE_WINDOW]
/-- The objects 0x7xxx in index order. -/
def page7 : List Obj :=
  [HP_ENABLE, HP_BIFURCATE, HP_CLOCKING, HP_RATE_MAX, HP_SELECT, HL_SELECT,
   HL_STATE, HL_RATE, HL_WIDTH, HL_FLIT, HL_OPEN, HL_OPEN_HIGH,
   HL_RESP_DISCARDS, HL_SEQ_STALLS, HL_DEGRADES, HL_NO_DECODER, DC_RELEASE_TIMEOUT, DC_FORCED_WITHDRAWALS,
   SEAM_SELECT, SEAM_STATE, SEAM_WIDTH, SEAM_PARTNER_UNIT, SEAM_FLIGHT_NS, SEAM_LANE_MAP,
   SEAM_SPARES_LEFT, SEAM_DOWN_CAUSE, SEAM_FRAMES_TX, SEAM_FRAMES_RX, SEAM_CRC_ERRORS, SEAM_REPLAYS,
   SEAM_NAKS_SENT, SEAM_SPARE_SWAPS, SEAM_LANE_SELECT, SEAM_LANE_ERRORS, SEAM_CREDIT_WAITS, SEAM_REPLAY_FULL_WAITS,
   SEAM_RETRAINS, SEAM_ENABLE, SEAM_ACK_COALESCE, SEAM_ACK_FORCE, SEAM_REPLAY_TIMEOUT, SEAM_CLAIMS_SENT,
   SEAM_CLAIMS_WON, SEAM_CLAIMS_FOLDED, SEAM_MSG_REFUSED, SEAM_MSG_RESENT, SEAM_LOOPBACK_FAILS, WEAVE_ROUTE_EPOCH,
   WEAVE_ROUTE_STATE, WEAVE_DRAIN_LAST, WEAVE_DRAIN_MAX, WEAVE_ROUTE_CHANGES, WEAVE_EP_SELECT, WEAVE_EP_STATE,
   WEAVE_EP_SUNK, WEAVE_HOP_CORRECTED, WEAVE_HOP_UNCORRECTABLE, WEAVE_HEADER_ERRORS, WEAVE_ORDER_ERRORS, WEAVE_PROTOCOL_ERRORS,
   WEAVE_MERGE_WAITS, WEAVE_BISNP_CREDIT_WAITS]
/-- The objects 0x8xxx in index order. -/
def page8 : List Obj :=
  [DRAM_CHAN_SELECT, DRAM_CHAN_STATE, DRAM_ORG, DRAM_CAPACITY_GIB, DRAM_TEMP, DRAM_REFRESH_RATE,
   DRAM_TRAIN_MARGIN, DRAM_SHADOWED, DRAM_SPEED, DRAM_SPEED_MAX, DRAM_PAGE_IDLE, DRAM_SCRUB_PERIOD,
   DRAM_LOG_CORRECTED, DRAM_TEMP_LIMIT, DRAM_CORRECTED, DRAM_REREAD_OK, DRAM_REPAIRED, DRAM_POISONED,
   DRAM_CA_REPLAYS, DRAM_WCRC_REPLAYS, DRAM_REFRESHES, DRAM_RETIRE, DRAM_RETIRE_PROGRESS, DRAM_RSV_DISPLACED,
   DRAM_MIRROR_DEGRADED, DRAM_LOST_LINES, DRAM_LOG_COUNT, DRAM_LOG_INDEX, DRAM_LOG_ENTRY, DRAM_LOG_LOST,
   DRAM_LOG_CLEAR, FLASH_CHAN_SELECT, FLASH_CHAN_STATE, FLASH_TARGETS, FLASH_RAW_GIB, FLASH_READ_UNCORR,
   FLASH_PROG_FAIL, FLASH_ERASE_FAIL, FLASH_SUSPENDS, FAR_RAW_GIB, FAR_DATA_GIB, FAR_EXPOSED_GIB,
   FAR_FLOOR_GIB, FAR_LOG_ENTRIES, FAR_LOG_CAPACITY, FAR_FREE_BANDS, FAR_BAD_BLOCK_SETS, FAR_WEAR_MAX,
   FAR_WEAR_MIN, FAR_REBUILDS, FAR_UNRECOVERED, FAR_MERGES, FAR_WRITE_AMP, FAR_ROW_FLUSH,
   FAR_WEAR_SPREAD, FAR_MERGE_START, FAR_FREE_BANDS_LOW, FLASH_RETIRE, FLASH_RETIRE_PROGRESS, FLASH_REBUILD_PROGRESS]
/-- The objects 0x9xxx in index order. -/
def page9 : List Obj :=
  [METER_REBALANCE, HOLD_YELLOW_MEM, HOLD_RED_MEM, HOLD_YELLOW_ATW, HOLD_YELLOW_HINT, HOLD_YELLOW_JOB,
   BMETER_BERTH, BMETER_KIND, BMETER_SHAPER, BMETER_SHAPER_SET, BMETER_GREEN, BMETER_YELLOW,
   BMETER_RED, BMETER_BOUND_RELEASES, BMETER_TC, BMETER_TP, BMETER_INSTANCES, PMETER_PORT,
   PMETER_SHAPER, PMETER_SHAPER_SET, PMETER_GREEN, PMETER_YELLOW, PMETER_RED, PMETER_EARLY_RELEASES,
   PMETER_BOUND_RELEASES, PMETER_HELD_NOW, PMETER_HOLD_MAX, PMETER_DEVLOAD_SEVERE]
/-- The objects 0xAxxx in index order. -/
def pageA : List Obj :=
  [ERR_LOG_COUNT, ERR_LOG_INDEX, ERR_LOG_ENTRY, ERR_LOG_LOST, ERR_LOG_CLEAR, LANDING_FIFO_DISCARDS,
   WEAVE_LATE_REPLIES, FAR_POISON_FULL_WAITS, TILE_CHECK_FAILURES, BUCKET_SELECT, BUCKET_LEVEL, BUCKET_WINDOW,
   BUCKET_THRESHOLD, BUCKET_TRIPS, BUCKET_EVENTS, CONTAIN_CHANNEL_SELECT, CONTAIN_CHANNEL_MODE, CONTAIN_CLASS_MODE,
   REPORT_SELECT, REPORT_MODE, REPORT_SUPPRESSED, SDC_FULL_CHECKING, SDC_GAPS, CANARY_ENABLE,
   CANARY_PERIOD, CANARY_STEPS, CANARY_FAILS, CANARY_LAST_FAIL, RESET_CAUSE, RESET_RECORD,
   CONTAIN_RESETS]
/-- The objects 0xFxxx in index order. -/
def pageF : List Obj :=
  [TOBS_SELECT, TRACE_ENABLE, TRACE_FILTER, TRACE_STATUS, DIAG_ADDR, DIAG_DATA,
   DIAG_REFUSED]
/-- Every object, in the order NEXT walks them (R490). -/
def all : List Obj := page1 ++ page2 ++ page3 ++ page4 ++ page5 ++ page6 ++ page7 ++ page8 ++ page9 ++ pageA ++ pageF

end Obj

end Sys2Proof
end

