-- ==== Sys2Proof/Machine/Tab.lean ====
section
/-! DEFINITION. Reading and writing tables (sorted lists of key and value) and byte memories, which are tables of bytes. -/

namespace Sys2Proof

/-- The value at key `k`; an unlisted key has the default `d`. -/
def tget {α : Type} (d : α) : Tab α → Nat → α
  | [], _ => d
  | (j, v) :: r, k => if j = k then v else if k < j then d else tget d r k

/-- The table with `v` at key `k`. The keys stay rising, and a value equal to the default is not listed. -/
def tput {α : Type} [DecidableEq α] (d : α) : Tab α → Nat → α → Tab α
  | [], k, v => if v = d then [] else [(k, v)]
  | (j, w) :: r, k, v =>
    if k < j then (if v = d then (j, w) :: r else (k, v) :: (j, w) :: r)
    else if j = k then (if v = d then r.dropWhile (fun p => decide (p.1 ≤ k)) else (k, v) :: r)
    else (j, w) :: tput d r k v

/-- The table with `f` applied to the value at key `k`. -/
def tmod {α : Type} [DecidableEq α] (d : α) (t : Tab α) (k : Nat) (f : α → α) : Tab α :=
  tput d t k (f (tget d t k))

/-- Keys strictly rising and no value equal to the default. -/
def tabWf {α : Type} [DecidableEq α] (d : α) : Tab α → Bool
  | [] => true
  | [(_, v)] => decide (v ≠ d)
  | (j, v) :: (k, w) :: r => decide (v ≠ d) && decide (j < k) && tabWf d ((k, w) :: r)

/-- The entries from key `lo` on whose keys satisfy `p`; an entry that no read reaches, its key not above every earlier one, is not kept. -/
def tkeepFrom {α : Type} (p : Nat → Bool) : Nat → Tab α → Tab α
  | _, [] => []
  | lo, (j, v) :: r =>
    if j < lo then tkeepFrom p lo r else if p j then (j, v) :: tkeepFrom p (j + 1) r else tkeepFrom p (j + 1) r

/-- The entries whose keys satisfy `p`. -/
def tkeep {α : Type} (p : Nat → Bool) (t : Tab α) : Tab α := tkeepFrom p 0 t

/-- The entries whose keys lie in `[base, base + n)`. -/
def trange {α : Type} (t : Tab α) (base n : Nat) : Tab α :=
  tkeep (fun k => decide (base ≤ k) && decide (k < base + n)) t

/-- The table with no entry in `[base, base + n)`. -/
def tclear {α : Type} (t : Tab α) (base n : Nat) : Tab α :=
  tkeep (fun k => !(decide (base ≤ k) && decide (k < base + n))) t

/-- The table with the entries of `[base, base + n)` replaced by those that `src` has there. -/
def tcopy {α : Type} (dst src : Tab α) (base n : Nat) : Tab α :=
  tkeep (fun k => decide (k < base)) dst ++ trange src base n ++ tkeep (fun k => decide (base + n ≤ k)) dst

/-- The entries of `[base, base + n)` moved to start at `to`. -/
def tshift {α : Type} (t : Tab α) (base n dest : Nat) : Tab α :=
  (trange t base n).map (fun p => (p.1 - base + dest, p.2))

/-- `n` bytes of memory from address `a`, in ascending order. A byte nothing has written reads 0. -/
def loadBytes (m : Tab Byte) (a : Nat) : Nat → List Byte
  | 0 => []
  | n + 1 => tget 0 m a :: loadBytes m (a + 1) n

/-- Memory with the bytes `bs` stored from address `a` upwards. -/
def storeBytes (m : Tab Byte) (a : Nat) : List Byte → Tab Byte
  | [] => m
  | b :: bs => storeBytes (tput 0 m a b) (a + 1) bs

/-- Memory with the bytes of `bs` whose mask bit is set stored from address `a` upwards. -/
def storeMasked (m : Tab Byte) (a : Nat) : List Byte → List Bool → Tab Byte
  | b :: bs, k :: ks => storeMasked (if k then tput 0 m a b else m) (a + 1) bs ks
  | _, _ => m

/-- The keys of a table. -/
def tkeys {α : Type} (t : Tab α) : List Nat := t.map (·.1)

/-- Replace the first element of a list that satisfies `p` by `f` of it. -/
def modFirst {α : Type} (p : α → Bool) (f : α → α) : List α → List α
  | [] => []
  | x :: r => if p x then f x :: r else x :: modFirst p f r

/-- The list without its first element that satisfies `p`. -/
def dropFirst {α : Type} (p : α → Bool) : List α → List α
  | [] => []
  | x :: r => if p x then r else x :: dropFirst p r

/-- The lowest number below `n` that satisfies `p`. -/
def lowest (n : Nat) (p : Nat → Bool) : Option Nat := (List.range n).find? p

end Sys2Proof
end

