-- ==== Sys2Proof/Machine/State.lean ====
section
/-! DEFINITION. Everything the device holds, as plain data: one structure for each chapter's part, the queue of waiting
commands, and the state after reset. A table lists only the entries that differ from its default. -/

namespace Sys2Proof.Machine

/-- No command of this device stops the machine with a fault: every error is the effect of a command on the state
(Table 17.5). The constructor is the one stop a state could need, an access to a pool offset outside the address space by a
device-side unit; no command raises it (safe). -/
inductive Fault where
  /-- Raised by no command; kept so that the type has a name for an access that the spec says cannot exist. Safe. -/
  | noSuchAddress (address : Nat)
  deriving DecidableEq, Repr

/-- Why a command is turned away. -/
inductive Refusal where
  /-- Raised only by the dispatch, for a command whose meaning is not written. Safe: no claim can rest on it. -/
  | notModelled (mnemonic : String)
  deriving DecidableEq, Repr

/-! ## Chapter 1: regions, logical devices, decoders -/

/-- A region record (R13, R14, Table 01.5). `st` is REGION_STATE: 0 unused, 1 CREATING, 2 LIVE, 3 RETIRING. -/
structure Region where
  st : Nat := 0
  base : Nat := 0
  size : Nat := 0
  cls : Nat := 0
  owner : Nat := 0
  world : Bool := false
  share : Bool := false
  privLd : Nat := 0
  /-- In-service channels when the region was created (Table 05.1), and the places R269 changed since. -/
  chans : List Nat := []
  /-- Steps 2 and 3 of Table 18.5 that have not ended yet: extents and recall. -/
  removeExtents : Bool := false
  removeRecall : Bool := false
  /-- Step 1 of Table 18.5 has taken every right on it away. -/
  noRights : Bool := false
  /-- Where its reserved frames start in each channel that holds them, counted down from the last frame. -/
  rsvBase : Nat := 0
  /-- Tiles of a reserving region that R269 displaced. -/
  displaced : List Nat := []
  /-- Its tag entries were written by a cold start: ZB set and no VALID bit (R519). -/
  fresh : Bool := false
  /-- Key slot and generation of the tiles that no tag entry lists: the active ones when the tag entries were written (R436). -/
  kslot : Nat := 0
  kgen : Nat := 0
  deriving DecidableEq, Repr

/-- One HDM decoder (R25, R313). -/
structure Decoder where
  hpa : Nat := 0
  size : Nat := 0
  dpa : Nat := 0
  committed : Bool := false
  error : Bool := false
  /-- Commit was cleared and the recall of R313 still runs. -/
  clearing : Bool := false
  deriving DecidableEq, Repr

/-- A logical device (R21 to R29, R302 to R317). Agent and berth read 0xFF when it is not enabled or not bound.
`coh` is LD_COHERENCE without enablement: 0 none, 1 HDM-H, 2 HDM-DB. -/
structure Ld where
  enabled : Bool := false
  agent : Nat := 0xFF
  berth : Nat := 0xFF
  coh : Nat := 0
  /-- Regions offered and not yet answered, accepted, being released, and not to be offered again (R24, R311). -/
  offered : List Nat := []
  accepted : List Nat := []
  releasing : List Nat := []
  refused : List Nat := []
  /-- Regions whose release the device has asked for and still waits for (R312). -/
  asked : List Nat := []
  decoders : Tab Decoder := []
  /-- TIME48 of the last class 6 record of SOURCE 0xB3 and 0xB4 (R23, R26). -/
  lastB3 : Option Nat := none
  lastB4 : Option Nat := none
  /-- Disabled while its agent still holds lines: the agent number is not free yet (R21). -/
  leaving : Bool := false
  deriving DecidableEq, Repr

/-- An error record (Table 17.6). Region 0x1FFF is none. -/
structure ErrRec where
  source : Nat
  inst : Nat
  cls : Nat
  region : Nat
  berth : Nat
  secure : Bool
  linev : Bool
  time : Nat
  line : Nat
  detail : Nat
  deriving DecidableEq, Repr

/-- What the mailbox of a logical device holds (R310, R403): the event queue (handle, whether it is a Memory Module record,
and the record) and its overflow
indication, interrupt policy and timestamp offset. -/
structure Mbox where
  events : List (Nat × Bool × ErrRec) := []
  overflow : Bool := false
  nextHandle : Nat := 1
  intPolicy : Nat := 0
  stampOffset : Int := 0
  /-- The parts of a firmware transfer under way, none when there is none (R310). -/
  fwParts : Option (Tab (List Byte)) := none
  deriving DecidableEq, Repr

/-! ## Chapter 2: pace and clocks -/

/-- Pace, island locks and the TSX timebase (R31 to R46). Paces default to 1,000, the nominal corner. -/
structure Clock where
  tsx : Nat := 0
  tsxHeld : Bool := false
  /-- Published pace of blocks 0 grid, 1 weave, 2 manifest A, 3 manifest B, 4 slices, 5 ferry, 6 FFU. -/
  pace : Tab Nat := []
  /-- Last good reading of each loop. -/
  loopPace : Tab Nat := []
  /-- Consecutive faulty windows of each of the 148 loops; 0 while it is not faulty. -/
  loopBad : Tab Nat := []
  stamp : Nat := 0
  /-- Windows that must still end before measured values are published again after a VCORE step, and whether the published
  paces are a projection (R34). -/
  projWindows : Nat := 0
  projecting : Bool := false
  belowAlert : Bool := false
  /-- Islands whose PLL is out of lock, as a bit map; for HPX and SLX the port bits are kept beside it. -/
  unlocked : Nat := 0
  hpxUnlocked : Nat := 0
  slxUnlocked : Nat := 0
  backupOsc : Bool := false
  nixSilent : Bool := false
  deriving DecidableEq, Repr

/-! ## Chapter 3: the manifest -/

/-- Line states (Table 03.2). -/
inductive LineState where
  | free | s | o | rs | ro
  deriving DecidableEq, Repr

/-- A manifest entry (Table 03.1). LINE is its key; CHK is a function of the rest (`MfEntry.chk`). `way` is its place in
the set. -/
structure MfEntry where
  st : LineState := .free
  owner : Nat := 0
  atomic : Nat := 0
  ref : Bool := false
  sharers : BitVec 64 := 0
  way : Nat := 0
  deriving DecidableEq, Repr

/-- A record of the atomic history table (R82, R83): the count C, LAST, whether a window request came since the last decay
marker, and its way. -/
structure AhtRec where
  used : Bool := false
  c : Nat := 0
  last : Option Nat := none
  touched : Bool := false
  way : Nat := 0
  deriving DecidableEq, Repr

/-- One manifest plane's tables. -/
structure Plane where
  entries : Tab MfEntry := []
  aht : Tab AhtRec := []
  deriving DecidableEq, Repr

/-- Back-invalidation kinds (R60). -/
inductive Snp where
  | cur | data | inv
  deriving DecidableEq, Repr

/-- Who asked for an access to a line: a host transaction, a home execution for a window slot, a pool transfer of a core, a
core's atomic, or a line of a tile descriptor. -/
inductive Src where
  | host (ld tag : Nat)
  | atw (ld slot : Nat)
  | core (core xfer : Nat)
  | amo (core : Nat)
  | dev (unit : Nat)
  deriving DecidableEq, Repr

/-- What an access does to its line (Tables 03.3 and 03.4). -/
inductive ReqKind where
  | memRd (m : MetaVal)
  | memRdData
  | memInv (m : MetaVal)
  | memWr (m : MetaVal) (data : List Byte) (poison : Bool)
  | memWrPtl (m : MetaVal) (data : List Byte) (mask : List Bool) (poison : Bool)
  | clnEvct
  | devRead
  | devWrite (data : List Byte) (mask : List Bool) (poison : Bool)
  | window (op type addr op1 op2 colour : Nat)
  deriving DecidableEq, Repr

/-- Completions of a CXL.mem request (Table 03.3). -/
inductive Cmp where
  | cmp | cmpS | cmpE
  deriving DecidableEq, Repr

/-- An access on its way. `agent` is the tracked host agent (none for an HDM-H logical device or a device unit);
`berth` and `epoch` are the stamp of R421; `revoked` is the mark of R419; `seq` the tag of R305; `t` the acceptance time. -/
structure Req where
  src : Src
  agent : Option Nat
  line : Nat
  kind : ReqKind
  berth : Nat
  epoch : Nat
  revoked : Bool
  link : Nat
  seq : Nat
  t : Nat
  /-- The completion the manifest gave it, once it has. -/
  cmp : Cmp := .cmp
  deriving DecidableEq, Repr

/-- Why a request waits at its home slice: behind its line (R54), for a recall-table entry (R55), for the victim it chose
(R59), or for any way of its set. -/
inductive WaitWhy where
  | line
  | table
  | victim (line : Nat)
  | anyWay
  deriving DecidableEq, Repr

/-- A waiting request. -/
structure Waiter where
  req : Req
  why : WaitWhy
  deriving DecidableEq, Repr

/-- Why a line is being recalled: for a request, to free a victim's way (R59), for a tile or range recall (R70, R311), to
take ownership away after HOST_W is lost (R422), or to resolve a divergence (R348): its kind, the planes charged and whether one was
retired, tag, step, and the write-backs kept so far. -/
inductive RecallWhy where
  | request (r : Req)
  | victim
  | sweep
  | resolve (kind charged retired tag step : Nat) (wbs : List (List Byte))
  deriving DecidableEq, Repr

/-- A recall in progress, keyed by its line (R55). -/
structure Recall where
  kind : Snp
  why : RecallWhy
  issued : Nat
  /-- An owner died under this recall and its line was written as poison (R66). -/
  poisoned : Bool
  /-- Data a holder wrote back is discarded (step 3 of Table 18.5). -/
  discard : Bool
  /-- Sharers that a recall filtered to one agent leaves alone (R311). -/
  keep : BitVec 64
  deriving DecidableEq, Repr

/-- A host agent (Table 03.8). `st`: 0 free, 1 live, 2 reclaiming, 3 dead-fenced. -/
structure Agent where
  st : Nat := 0
  cause : Nat := 0
  time : Nat := 0
  poisoned : Nat := 0
  /-- A training or re-enabling that came before step 4 and waits for it (R69, R315). -/
  reviveDue : Bool := false
  deriving DecidableEq, Repr

/-- A record of the dead-agent poison log (Table 03.7). -/
structure DeadRec where
  line : Nat
  agent : Nat
  berth : Nat
  time : Nat
  region : Nat
  deriving DecidableEq, Repr

/-- A range recall (R70, R311, R422): its GiB range, the one agent it is filtered to, whether it only takes ownership away,
and what its end completes. -/
inductive RangeWhy where
  | removal (region : Nat)
  | release (ld region : Nat)
  | decoder (ld n : Nat)
  | cleanup
  deriving DecidableEq, Repr

structure RangeRecall where
  id : Nat
  base : Nat
  size : Nat
  agent : Option Nat
  kind : Snp
  why : RangeWhy
  deriving DecidableEq, Repr

/-- An access the home slice has performed for a device unit and whose data or acceptance is still on its way. -/
structure Served where
  src : Src
  line : Nat
  data : List Byte
  poison : Bool
  deriving DecidableEq, Repr

/-- The manifest and the home slices' queues (chapter 3). -/
structure Manifest where
  planeA : Plane := {}
  planeB : Plane := {}
  waits : List Waiter := []
  recalls : Tab (Option Recall) := []
  tileRecalls : List Nat := []
  ranges : List RangeRecall := []
  nextRange : Nat := 0
  agents : Tab Agent := []
  deadLog : List DeadRec := []
  served : List Served := []
  /-- Home executions whose recalls are answered and that a fixed-function unit has still to carry out (R88). -/
  ready : List Req := []
  /-- BIConflict answers held back until the completion of the host's own request has left (R58): agent and line. -/
  conflicts : List (Nat × Nat) := []
  /-- Sets of the old count that a re-map marker has passed (R52), and the old and new counts' factor k. -/
  remapDone : List Nat := []
  setK : Nat := 4
  newK : Nat := 4
  deriving DecidableEq, Repr

/-! ## Chapter 4: the atomic window -/

/-- A window slot (Table 04.1). `busy` while its operation has not ended; `txn` is the SEQ its transaction was stamped with. -/
structure AtwSlot where
  reqWord : Nat := 0
  op1 : Nat := 0
  op2 : Nat := 0
  status : Nat := 0
  flags : Nat := 0
  pred : Nat := 0
  colour : Nat := 0
  seq : Nat := 0
  result : Nat := 0
  busy : Bool := false
  txn : Nat := 0
  epoch : Nat := 0
  deriving DecidableEq, Repr

/-- A status read held at its landing (R76). -/
structure HeldRead where
  ld : Nat
  slot : Nat
  tag : Nat
  deriving DecidableEq, Repr

/-- Slots, held reads, and the lines that each fixed-function unit group used most recently, newest first (R88). -/
structure Atw where
  slots : Tab AtwSlot := []
  reads : List HeldRead := []
  ffu : Tab (List Nat) := []
  deriving DecidableEq, Repr

/-! ## Chapters 5 and 6: tiles, headers and the ferry -/

/-- A tile header (Table 06.1). TILE is the tile it belongs to; HCRC is a function of the rest (`TileHdr.hcrc`). -/
structure TileHdr where
  hver : Nat := 1
  fmt : Nat := 0
  typed : Bool := false
  bs : Bool := false
  sealed : Bool := false
  kslot : Nat := 0
  layout : Nat := 0
  rows : Nat := 0
  cols : Nat := 0
  kgen : Nat := 0
  tcrc : Nat := 0
  srcfmt : Nat := 0
  rmode : Nat := 0
  user : Nat := 0
  deriving DecidableEq, Repr

/-- A tag entry (Table 05.2) with the tile's near header. `st` is the tile state code of Table 05.3; an absent entry is a
tile in ZERO or FAR. `left` is the state RECALLING was entered from; `accessed` marks an access during the running age tick
(R121); `noDemote` holds a tile back from demotion while a checksum failure is handled (R132) or the far poison list is full
(R395). CHK is a function of the rest. -/
structure Tag where
  st : Nat := 0
  pin : Bool := false
  stage : Bool := false
  ref : Bool := false
  held : Bool := false
  zb : Bool := false
  kslot : Nat := 0
  rsv : Bool := false
  abandon : Bool := false
  age : Nat := 0
  home : Nat := 0
  frame : Nat := 0
  overflow : Bool := false
  valid : BitVec 1024 := 0
  dirty : BitVec 1024 := 0
  hdr : TileHdr := {}
  left : Nat := 0
  accessed : Bool := false
  noDemote : Bool := false
  /-- When a STAGE hold ends (R125). -/
  expiry : Nat := 0
  /-- A checksum failure of the tile is being handled, and the lines written since then (R397). -/
  checking : Bool := false
  kept : BitVec 1024 := 0
  deriving DecidableEq, Repr

/-- The far-shore record of a tile (R101, R277, R283): kind 0 ZERO or 1 FAR, where its compressed copy lies, its write
sequence, header and compressed length. -/
structure Far where
  kind : Nat := 0
  chan : Nat := 0
  slot : Nat := 0
  wseq : Nat := 0
  hdr : TileHdr := {}
  len : Nat := 0
  /-- The copy, or the ZERO mark, is an entry of the log map (R281); otherwise the block map gives it. -/
  inLog : Bool := false
  /-- A read of the copy failed and was rebuilt; its write-back has not committed (R288). -/
  stale : Bool := false
  deriving DecidableEq, Repr

/-- Kinds of crossing (Table 05.6). -/
inductive CrossKind where
  | promote | evict | clean
  deriving DecidableEq, Repr

/-- A crossing on the slipway (R104 to R110). `held` counts the endpoints booked so far; `placed` is the map of chunks in
place; `next` the chunk that moves next; `snap` and `snapPoison` hold what a demotion read. -/
structure Crossing where
  tile : Nat
  kind : CrossKind
  cls : Nat
  flash : Nat
  dram : Nat
  held : Nat
  aged : Bool
  lane : Nat
  placed : Nat
  next : Nat
  start : Nat
  snap : Tab Byte
  snapPoison : Tab Bool
  snapHdr : TileHdr
  /-- DIRTY bits as the snapshot found them, put back if the cleaning does not commit. -/
  snapDirty : BitVec 1024
  written : Bool
  /-- The slot held at the DRAM or flash endpoint is a demand-only one. -/
  dDemand : Bool
  fDemand : Bool
  /-- It waits at its next endpoint, since when. -/
  waiting : Bool
  waitSince : Nat
  /-- A chunk whose read failed and whose rebuild runs (R288). -/
  rebuilding : Option Nat
  deriving DecidableEq, Repr

/-- A hint slot (Tables 05.11 to 05.14): `left` are the tiles still to reach their target. -/
structure HintSlot where
  word : Nat := 0
  hold : Nat := 0
  status : Nat := 0
  colour : Nat := 0
  seq : Nat := 0
  done : Nat := 0
  skipped : Nat := 0
  busy : Bool := false
  kind : Nat := 0
  left : List Nat := []
  deriving DecidableEq, Repr

/-- The ferry (chapter 5). -/
structure Ferry where
  tags : Tab Tag := []
  far : Tab Far := []
  /-- CHMAP entries that differ from their reset value (R96). -/
  chmap : Tab Nat := []
  /-- In-service channels when CHMAP was filled. -/
  chmapBase : List Nat := List.range 24
  crossings : List Crossing := []
  /-- Requests that wait for a tile, a chunk or a frame, in arrival order. -/
  misses : List Req := []
  hints : Tab HintSlot := []
  /-- Frame where each channel's eviction sweep stopped (R119). -/
  sweepAt : Tab Nat := []
  /-- Lane groups taken out of use (R389). -/
  lanesOut : List Nat := []
  deriving DecidableEq, Repr

/-- The bytes the device stores: the near copies and far copies of pool bytes by pool offset, the local stores by
core × 131,072 + address, and what is poison among near lines, far lines and local store blocks (core × 2,048 + block). -/
structure Mem where
  near : List Host.Cell := []
  far : List Host.Cell := []
  ls : List Host.Cell := []
  nearPoison : Tab Bool := []
  farPoison : Tab Bool := []
  lsPoison : Tab Bool := []
  deriving DecidableEq, Repr

/-! ## Chapters 7 and 8: cores and panels -/

/-- A message in a queue (R187). -/
structure Msg where
  src : Nat
  dst : Nat
  tag : Nat
  words : List Nat
  deriving DecidableEq, Repr

/-- A pool transfer a core has issued (Table 08.4): its FN, first line, first local store block, GX for an
HWR, and how many of its lines the home slices still owe. -/
structure Xfer where
  id : Nat
  fn : Nat
  line : Nat
  block : Nat
  gx : Nat
  owed : Nat
  epoch : Nat
  /-- The bytes an HWR carries. -/
  bytes : List Byte
  deriving DecidableEq, Repr

/-- A cause record (Table 08.7). -/
structure Cause where
  cause : Nat
  code : Nat
  pc : Nat
  detail : Nat
  dpaHi : Nat
  deriving DecidableEq, Repr

/-- One core (Table 07.1). `task`: 0 none, 1 running, 2 ended, 3 stopped by an exception. A pattern slot that was never
loaded is absent. Block states (R181): 0 free, 1 filling, 2 draining. `atBar` is the barrier the core waits at. -/
structure Core where
  g : Tab Word := []
  pc : Nat := 0
  flags : Nat := 0
  time : Nat := 0
  v : Tab Word := []
  acc : Tab (BitVec 64) := []
  ps : Tab (Option Nat) := []
  blk : Tab Nat := []
  queues : Tab (List Msg) := []
  task : Nat := 0
  cause : Option Cause := none
  xfers : List Xfer := []
  nextXfer : Nat := 0
  atBar : Option Nat := none
  /-- The registers RD and GS of an AMO whose result the core waits for. -/
  amoWait : Option (Nat × Nat) := none
  /-- Scoreboard states 2 to 5 of R209, 0 when the core does not wait. -/
  wait : Nat := 0
  deriving DecidableEq, Repr

/-- A watch of a panel on a tile (R182). -/
structure Watch where
  tile : Nat
  intact : Bool
  deriving DecidableEq, Repr

/-- A barrier of a panel (R189). -/
structure Barrier where
  mask : Nat := 0
  arrived : Nat := 0
  deriving DecidableEq, Repr

/-- A panel (Table 07.8, R150). `st`: 0 idle, 1 running, 2 saving, 3 self-test, 4 retired. `job` is a JOBREF plus 1, 0 none. -/
structure Panel where
  st : Nat := 0
  berth : Nat := 0xFF
  world : Bool := false
  lent : Bool := false
  job : Nat := 0
  watches : List Watch := []
  bars : Tab Barrier := []
  /-- Message cells in the outbound queue, oldest first (R188). -/
  outbound : List Msg := []
  /-- Not zeroed since its last owner (R217). -/
  stale : Bool := false
  /-- Leaves service when its save ends (R166), and the SOURCE of its retirement. -/
  retireDue : Bool := false
  retireSrc : Nat := 0
  /-- It is being withdrawn from its berth (R415), and the path whose PANEL_ASSIGN waits for that. -/
  leaving : Bool := false
  leavePath : Option Nat := none
  deriving DecidableEq, Repr

/-- Cores and panels. -/
structure Grid where
  cores : Tab Core := []
  panels : Tab Panel := []
  deriving DecidableEq, Repr

/-! ## Chapter 13: host links -/

/-- A host link (Table 13.7). `st` is a code of Table 13.2; `upState` the UP state that RECOVERY left. -/
structure Link where
  st : Nat := 0
  upState : Nat := 0
  rate : Nat := 0
  width : Nat := 0
  flit : Nat := 0
  badLanes : List Nat := []
  /-- The next Recovery takes a rate step (Table 17.2), and PERST_N is low (R528). -/
  rateDue : Bool := false
  perst : Bool := false
  deriving DecidableEq, Repr

/-- Host ports: links, the bifurcation and clocking in force, and the next SEQ of each port (R305). -/
structure Hosts where
  links : Tab Link := []
  split : Nat := 0
  clocking : Nat := 0
  seq : Tab Nat := []
  mboxes : Tab Mbox := []
  /-- The alert configuration of the mailboxes, one for the device (Table 13.6). -/
  alert : Nat := 0
  /-- Links whose landing is open, and the requests held until theirs opens, oldest first (R514, R515). -/
  opened : List Nat := []
  early : List Instr := []
  deriving DecidableEq, Repr

/-! ## Chapter 16: meters -/

/-- A shaper record (Table 16.2). -/
structure Shaper where
  mode : Bool := false
  reset : Bool := false
  cir : Nat := 0
  pir : Nat := 0
  cbs : Nat := 0
  pbs : Nat := 0
  deriving DecidableEq, Repr

/-- A meter instance at a landing (R375, R378): its shares, its tokens with 16 fractional bits, the time of its last
refill, and the Tp tokens it took in the running interval. -/
structure Inst where
  cir : Nat := 0
  pir : Nat := 0
  cbs : Nat := 0
  pbs : Nat := 0
  tc : Nat := 0
  tp : Nat := 0
  last : Nat := 0
  took : Nat := 0
  deriving DecidableEq, Repr

/-- What a held request does when it is let through. -/
inductive HeldWhat where
  | mem (r : Req)
  | atw (ld slot : Nat)
  | hint (ld slot : Nat)
  | job (ld slot : Nat)
  deriving DecidableEq, Repr

/-- A request held by the meters (R379, R380): its link, colour (1 yellow, 2 red), acceptance time, cost, the meters it
passes and those that coloured it yellow and red. -/
structure Held where
  what : HeldWhat
  kind : Nat
  link : Nat
  colour : Nat
  t : Nat
  cost : Nat
  meters : List Nat
  yellowOn : List Nat
  redOn : List Nat
  deriving DecidableEq, Repr

/-- The meters. A berth meter is numbered berth × 4 + kind, a port meter 256 + port; an instance adds port × 512. -/
structure Meters where
  shapers : Tab Shaper := []
  insts : Tab Inst := []
  held : List Held := []
  deriving DecidableEq, Repr

/-! ## Chapter 17: errors -/

/-- A leaky bucket (R387): its level, the TIME48 at which the leak clock next ticks, and the hold after a trip (R389). -/
structure Bucket where
  level : Nat := 0
  clock : Option Nat := none
  held : Bool := false
  deriving DecidableEq, Repr

/-- Logs, buckets and containment (chapter 17). -/
structure Errors where
  buckets : Tab Bucket := []
  log : List ErrRec := []
  /-- TIME48 of the pushed events of the last second (R401), newest first. -/
  pushed : List Nat := []
  resetRecord : Option ErrRec := none
  canaryLast : Option ErrRec := none
  canary : Nat := 0
  canaryDram : Nat := 0
  canaryFlash : Nat := 0
  canaryLane : Nat := 0
  canaryPanel : Nat := 0
  /-- The flash channel that last wrote each canary's far copy. -/
  canaryWrote : Tab Nat := []
  deriving DecidableEq, Repr

/-! ## Chapter 18: berths, worlds, permissions -/

/-- A berth (R412). `st`: 0 UNDEFINED, 1 ACTIVE, 2 DELETING. -/
structure Berth where
  st : Nat := 0
  conf : Bool := false
  epoch : Nat := 0
  drained : Nat := 0
  created : Nat := 0
  deriving DecidableEq, Repr

/-- A permission change (R420). -/
inductive Change where
  | grant (path region grantee rights : Nat)
  | remove (region : Nat)
  | unbind (berth : Nat)
  deriving DecidableEq, Repr

/-- A change between its flip and its completion: its number, the flipped berths, when it flipped, and what was lost: berth,
region, whether HOST_R went, whether HOST_W went. -/
structure Running where
  id : Nat
  change : Change
  flipped : List Nat
  t : Nat
  lost : List (Nat × Nat × Bool × Bool)
  deriving DecidableEq, Repr

/-- A berth leaf that was issued (R428): its serial number, when, and the values of its extensions. -/
structure Leaf where
  serial : Nat
  issued : Nat
  content : List Nat
  deriving DecidableEq, Repr

/-- Berths, worlds, grants and permission changes. Grants are keyed region × 64 + grantee; the four rights are bits 0 HOST_R,
1 HOST_W, 2 DEV_R, 3 DEV_W. -/
structure Berths where
  berths : Tab Berth := []
  landingWorld : Nat := 0
  grants : Tab Nat := []
  queue : List (Nat × Change) := []
  nextChange : Nat := 0
  running : Option Running := none
  confDevice : Bool := false
  /-- Leaves issued by the device so far, and the last one of each berth (R428). -/
  leafSerial : Nat := 0
  leafOf : Tab (Option Leaf) := []
  deriving DecidableEq, Repr

/-! ## Chapter 9: jobs -/

/-- A saved panel (Tables 09.8 and 09.9): watches, barriers, outbound cells, the twenty cores with their queues, and the
local store bytes and poison bits by core × 131,072 + address and core × 2,048 + block. -/
structure SavedPanel where
  panel : Nat
  watches : List Watch
  bars : Tab Barrier
  outbound : List Msg
  cores : Tab Core
  ls : List Host.Cell
  lsPoison : Tab Bool
  time : Nat
  deriving DecidableEq, Repr

/-- A job (R195 to R221). `code` is its status code (Table 09.5). `step`: 0 nothing under way, 1 image loading, 2 saving,
3 restoring. `bound` are the panels it is bound to, `origin` its top-left panel; `order` its place in arrival order;
`ran` the TSX ticks it has spent RUNNING before its last start. -/
structure Job where
  kind : Nat
  prio : Nat
  restart : Bool
  world : Bool
  panels : Nat
  tlimit : Nat
  image : Nat
  arg : Nat
  result : Nat
  user : Nat
  ld : Nat
  slot : Nat
  slotSeq : Nat
  colour : Nat
  berth : Nat
  code : Nat
  reason : Nat
  step : Nat
  pw : Nat
  ph : Nat
  bound : List Nat
  order : Nat
  tSubmit : Nat
  tStart : Nat
  /-- When it was last queued, started or saved. -/
  tLast : Nat
  ran : Nat
  preempts : Nat
  descDone : List Nat
  descNotOk : Nat
  cause : Option Cause
  causeCore : Nat
  saved : List SavedPanel
  /-- The save under way ends in a discard and this reason instead of PREEMPTED (R219, R220). -/
  lost : Option Nat := none
  /-- Its cores have been stopped for good and it ends with this code and reason once its transfers have ended (R209); code 0xFF
  returns it to the head of its queue instead (R208). -/
  ending : Option (Nat × Nat) := none
  /-- Above 0 for a job returned to the head of its queue: the later the higher (R219). -/
  head : Nat := 0
  /-- Bytes of its image, and whether it has started once. -/
  size : Nat := 0
  started : Bool := false
  deriving DecidableEq, Repr

/-- A job slot (R201, R202). -/
structure JobSlot where
  addr : Nat := 0
  code : Nat := 0
  colour : Nat := 0
  seq : Nat := 0
  ref : Nat := 0
  reason : Nat := 0
  busy : Bool := false
  deriving DecidableEq, Repr

/-- A tile descriptor under way (R144 to R147). `writing`: its destination writes are out. `src` and `dst` are the tiles it reads and
writes, each with whether another writer has reached it since; `hdr` is the header it reads from a tile source, or the one
it will write; `sealed` whether the source header had SEALED; the rest are the fields of its result record. -/
structure ConvRun where
  writing : Bool := false
  src : Option Nat := none
  srcIntact : Bool := true
  dst : Option Nat := none
  dstIntact : Bool := true
  owed : Nat := 0
  hdr : TileHdr := {}
  code : Nat := 0
  flags : Nat := 0
  tcrc : Nat := 0
  sat : Nat := 0
  nan : Nat := 0
  residue : Bool := false
  deriving DecidableEq, Repr

/-- Jobs, their slots, and the next JOBREF and arrival number. -/
structure Jobs where
  /-- Descriptors under way, keyed JOBREF × 131,072 + index. -/
  convs : Tab (Option ConvRun) := []
  jobs : Tab (Option Job) := []
  slots : Tab JobSlot := []
  nextRef : Nat := 0
  nextOrder : Nat := 0
  nextHead : Nat := 1
  /-- Paths whose GRID_SAVE_ALL waits for the saves it started. -/
  saveAll : List Nat := []
  deriving DecidableEq, Repr

/-! ## Chapter 10: the weave -/

/-- The weave (R222 to R242). `epoch` is the route epoch in force; `st` WEAVE_ROUTE_STATE; `bank` and `other` the endpoints that the
active and the inactive bank route as dead or absent; `due` says that a change must be made for its own sake (CHMAP,
R267); `flipped` is when the running change flipped. `longs` are unacknowledged long packets: source endpoint, TAG and
attempts. `snpUsed` counts the BISnp credits of a landing in use, `snpWait` the recalls that wait for one: agent, line,
kind. `timers` holds when a request's reply timer was armed last (R398), by source endpoint × 2²⁴ + reference, plus one. -/
structure Weave where
  epoch : Bool := false
  st : Nat := 0
  bank : List Nat := []
  other : List Nat := []
  due : Bool := false
  flipped : Nat := 0
  longs : List (Nat × Nat × Nat) := []
  snpUsed : Tab Nat := []
  snpWait : List (Nat × Nat × Snp) := []
  timers : Tab Nat := []
  deriving DecidableEq, Repr

/-- A record of the DRAM log (Table 11.6). -/
structure DramRec where
  chan : Nat
  subch : Nat
  rank : Nat
  bg : Nat
  ba : Nat
  row : Nat
  column : Nat
  nibble : Nat
  kind : Nat
  region : Nat
  time : Nat
  count : Nat
  line : Nat
  berth : Nat
  deriving DecidableEq, Repr

/-- A record of the divergence log (Table 15.3). -/
structure DivRec where
  kind : Nat
  charged : Nat
  action : Nat
  tag : Nat
  step : Nat
  line : Nat
  region : Nat
  time : Nat
  deriving DecidableEq, Repr

/-! ## Chapter 11: DRAM channels -/

/-- A DRAM channel (Table 11.10). `st` is DRAM_CHAN_STATE; `cap` its capacity in GiB; `org` DRAM_ORG; `grade` the highest speed grade
of its DIMM (DRAM_SPEED codes); `temp` its sensor in °C; `fast` tREFI 1,950 ns; `margin` DRAM_TRAIN_MARGIN; `rows` the open row
of each bank, by rank × 64 + subchannel × 32 + bank group × 4 + bank, plus one; `hot` above DRAM_TEMP_LIMIT. -/
structure DramChan where
  st : Nat := 1
  cap : Nat := 128
  org : Nat := 10
  grade : Nat := 2
  temp : Int := 25
  fast : Bool := false
  margin : Nat := 0
  rows : Tab Nat := []
  hot : Bool := false
  deriving DecidableEq, Repr

/-- DRAM channels. -/
structure Dram where
  /-- Channels waiting for graceful retirement, in order, each with the SOURCE that asked (R266). -/
  queue : List (Nat × Nat) := []
  /-- The channel whose graceful retirement runs, and its SOURCE. -/
  retiring : Option (Nat × Nat) := none
  /-- Channel records that differ from a fully populated channel in service. -/
  chans : Tab DramChan := []
  /-- Step of Table 11.8 under way, and the count of route changes that it waits for. -/
  step : Nat := 0
  waitRoute : Nat := 0
  /-- DRAM_MIRROR_DEGRADED, the DRAM log, and the speed grade in force. -/
  degraded : Nat := 0
  log : List DramRec := []
  speed : Nat := 2
  deriving DecidableEq, Repr

/-! ## Chapter 12: flash channels -/

/-- A flash channel (Table 12.6). `st` is FLASH_CHAN_STATE; `targets` the targets in service and `found` those the start found;
`targetGib` the raw capacity of each. -/
structure FlashChan where
  st : Nat := 1
  targets : Nat := 0xFF
  found : Nat := 0xFF
  targetGib : Nat := 2048
  deriving DecidableEq, Repr

/-- A band (R279). `use`: 0 erased, 1 log, 2 data, 3 metadata. Slots are named row × 16 + member: those programmed, and those
left erased when their row's parity was programmed; `parity` lists the parity slots programmed; `rowStart` is when
the open row's first program came. -/
structure Band where
  use : Nat := 0
  erases : Nat := 0
  row : Nat := 0
  prog : List Nat := []
  leftErased : List Nat := []
  parity : List Nat := []
  rowStart : Option Nat := none
  deriving DecidableEq, Repr

/-- A merge of a logical block under way (R284): the block and the data block set it writes. -/
structure Merge where
  block : Nat
  bs : Nat
  deriving DecidableEq, Repr

/-- Flash channels and the far-shore translation (R274 to R296). Bands are keyed group × 262,144 + chip enable × 32,768 +
LUN × 16,384 + block index. -/
structure Flash where
  /-- Channels waiting for graceful retirement, in order, each with the SOURCE that asked (R293). -/
  queue : List (Nat × Nat) := []
  /-- The channel whose graceful retirement runs, and its SOURCE. -/
  retiring : Option (Nat × Nat) := none
  chans : Tab FlashChan := []
  /-- Exposed capacity in GiB, fixed at the last format (R276); the targets of each channel that the format record names; and whether
  there is a valid format record. -/
  exposed : Nat := 393216
  named : Tab Nat := []
  formatted : Bool := true
  /-- Block map: the data block set of each mapped logical block (R280). -/
  blockMap : Tab (Option Nat) := []
  bands : Tab Band := []
  /-- The open log band of each group. -/
  openLog : Tab (Option Nat) := []
  /-- WSEQ of the last slot written, and the slots written since the last checkpoint (R286). -/
  wseq : Nat := 0
  sinceCkpt : Nat := 0
  /-- Retired and excluded block sets (R290). -/
  badSets : List Nat := []
  /-- The merge that runs in each group (R284), and the band being reclaimed (R285). -/
  merging : Tab (Option Merge) := []
  reclaiming : Tab (Option Nat) := []
  /-- Channels lost through a loss of the FLX PLL that may still come back (R294). -/
  flxLost : List Nat := []
  /-- Slots programmed and tiles demoted of the running write-amplification window. -/
  ampProg : Nat := 0
  ampDem : Nat := 0
  /-- Uncompressed and compressed bytes of the demotions of the running ratio window, and their number. -/
  ratioIn : Nat := 0
  ratioOut : Nat := 0
  ratioN : Nat := 0
  /-- The far-shore event of R295 has been raised for the present shortage. -/
  belowFloor : Bool := false
  deriving DecidableEq, Repr

/-! ## Chapter 14: the Seam link -/

/-- A Seam message (Table 14.8): its VC and TAG; LINE, number of lines and CLAIM of a long message; payload bytes. -/
structure SeamMsg where
  mtype : Nat
  vc : Nat
  tag : Nat
  line : Nat
  n : Nat
  claim : Nat
  bytes : List Byte
  deriving DecidableEq, Repr

/-- A sequenced frame as a transmitter holds it (Table 14.3): KIND 1 CELL or 2 DATA. -/
structure SeamFrame where
  kind : Nat
  vc : Nat
  fseq : Nat
  sop : Bool
  eop : Bool
  ncell : Nat
  used : Nat
  payload : List Byte
  deriving DecidableEq, Repr

/-- A spare replacement at its receiver (Table 14.6): logical lane, spare, SSEQ, and whether the partner's CONF has come. -/
structure SpareSwap where
  lane : Nat
  spare : Nat
  sseq : Nat
  confirmed : Bool
  deriving DecidableEq, Repr

/-- A Seam port (R319 to R338). Lane maps give the physical lane of each logical lane, and at 16 and 17 of the two spares. -/
structure SeamPort where
  st : Nat := 0
  width : Nat := 0
  cause : Nat := 0
  partner : Nat := 0
  flight : Nat := 0
  rxMap : List Nat := List.range 18
  txMap : List Nat := List.range 18
  /-- Physical lanes not to be used until the port next trains from DOWN. -/
  rxBad : List Nat := []
  txBad : List Nat := []
  /-- Transmitter: next FSEQ, the replay buffer with how often each frame was replayed, frames that wait for credit or room,
  and per VC the frames sent and the partner's cumulative count of frames freed. -/
  fseq : Nat := 0
  replay : List (SeamFrame × Nat) := []
  txq : List SeamFrame := []
  sent : List Nat := [0, 0, 0, 0]
  freedByPartner : List Nat := [0, 0, 0, 0]
  /-- Receiver: next FSEQ, sequenced frames since the last acknowledgement, whether a NAK is out, frames of unfinished long
  messages per VC, cumulative frames freed per VC and how many of them a CTRL frame has not yet returned. -/
  rxNext : Nat := 0
  unacked : Nat := 0
  nakOut : Bool := false
  part : Tab (List Byte) := []
  freed : List Nat := [0, 0, 0, 0]
  toReturn : List Nat := [0, 0, 0, 0]
  /-- The frame discarded last for FCRC, which the replayed copy is compared with (R332). -/
  spoiled : Option (Nat × List Byte) := none
  /-- Replacement under way in the receive direction, and the SSEQ last used and last answered. -/
  swap : Option SpareSwap := none
  sseq : Nat := 0
  /-- Replacement in the transmit direction: logical lane, spare and SSEQ, from the copying until DONE. -/
  copy : Option (Nat × Nat × Nat) := none
  /-- Messages sent whose reply has not come, oldest first, those that wait for room among 2,048, and the next TAG. -/
  unanswered : List SeamMsg := []
  outbox : List SeamMsg := []
  nextTag : Nat := 0
  /-- Messages received and not yet taken, oldest first, each with the frames it frees. -/
  inbox : List (SeamMsg × Nat) := []
  hseq : Nat := 0
  /-- The loopback pattern sent and not yet echoed. -/
  loop : Option (List Byte) := none
  prbs : Nat := 0
  deriving DecidableEq, Repr

/-- A claim on tiles of tandem regions (R339): own TAG, first tile and count. `st`: 0 waits to be sent, 1 outstanding,
2 granted and its transfer running, 3 outstanding and beaten, awaiting FOLDED. -/
structure Claim where
  tag : Nat
  first : Nat
  count : Nat
  st : Nat
  deriving DecidableEq, Repr

/-- Why lines are fetched from the partner: to repair a line (R258 source 3), to resolve a lost channel's tile (Table 11.9), or for a
tile checksum failure (R397). -/
inductive FetchWhy where
  | repair
  | lost
  | seal
  deriving DecidableEq, Repr

/-- A FETCH to the partner: its port and TAG, first line and number of lines, the lines of them that are wanted, and the data of a
checksum fetch that has come (none: not yet; empty: refused). -/
structure Fetch where
  port : Nat
  tag : Nat
  line : Nat
  n : Nat
  want : List Nat
  why : FetchWhy
  got : Option (List Byte) := none
  deriving DecidableEq, Repr

/-- Seam ports. -/
structure Seam where
  fetches : List Fetch := []
  /-- Lanes whose replacement is due: port × 36 + direction × 18 + lane (R334). -/
  spareDue : List Nat := []
  ports : Tab SeamPort := []
  claims : List Claim := []
  /-- Claims of the partner already answered: TAG, UNIT and the answer sent (a duplicate gets it again). -/
  answered : List (Nat × Nat × List Byte) := []
  /-- Claims of the partner that wait for the end of an own transfer: port, TAG, UNIT, claim, first tile, count. -/
  claimWaits : List (Nat × Nat × Nat × Nat × Nat × Nat) := []
  /-- Writes of the partner being applied: port, TAG and lines not yet written; their MACKs leave in order (R336). -/
  applying : List (Nat × Nat × Nat) := []
  deriving DecidableEq, Repr

/-! ## Chapter 15: planes and pairs -/

/-- A merge entry of a landing (R346): the transaction, its line, the answer passed on and the plane that gave it. -/
structure MergeEntry where
  link : Nat
  seq : Nat
  line : Nat
  cmp : Cmp
  deriving DecidableEq, Repr

/-- A plane command at an output stage (R345): its stage, CID (tag and step), line and content. -/
structure PlaneCmd where
  stage : Nat
  tag : Nat
  step : Nat
  line : Nat
  what : Nat
  deriving DecidableEq, Repr

/-- The manifest planes (R342 to R354). -/
structure Redund where
  /-- Plane roles, Table 15.1 codes. -/
  stA : Nat := 0
  stB : Nat := 1
  /-- Sets already copied to a plane that is REJOINING (R354). -/
  copied : List Nat := []
  /-- Claims of the planes, the takeover claim that the follower holds, and Thimble's two counters (R342). -/
  claimA : Nat := 0
  claimB : Nat := 0
  claimHeld : Nat := 0
  planeCtr : Nat := 0
  unitCtr : Nat := 0
  /-- The highest claim announced to the output stages, and the claim before it while the dual-issue window is open (R352). -/
  claimNow : Nat := 0
  claimOld : Option Nat := none
  merges : List MergeEntry := []
  held : List PlaneCmd := []
  done : List PlaneCmd := []
  /-- Lines to resolve, each with kind, charged planes, tag and step (R348). -/
  resolving : List (Nat × Nat × Nat × Nat × Nat) := []
  divLog : List DivRec := []
  /-- Paths from plane A and B found silent: bit 0 weave of A, 1 sideband of A, 2 and 3 of B. -/
  silent : Nat := 0
  deriving DecidableEq, Repr

/-- The continuous self-test and the health report (R355 to R358). -/
structure Health where
  /-- Scrub: sets passed in this pass, and the health report's fields (Table 15.5). -/
  scrubbed : Nat := 0
  scrubEnd : Nat := 0
  scrubPasses : Nat := 0
  scrubMisses : Nat := 0
  panelTests : Nat := 0
  panelFails : Nat := 0
  echoes : Nat := 0
  echoFails : Nat := 0
  verifies : Nat := 0
  divLast : Nat := 0
  health : List Byte := List.replicate 64 0
  stickyHealth : Nat := 0
  testWindow : Tab Nat := []
  deriving DecidableEq, Repr

/-- The crossing pair (R359 to R370). -/
structure Pair where
  /-- The pair (R359 to R370): role, mirroring state, unit claim, the partner's last known claim, role, firmware set and state. -/
  role : Nat := 0
  mirror : Nat := 3
  claim : Nat := 0
  partnerClaim : Nat := 0
  partnerRole : Nat := 0
  partnerSet : Nat := 0
  partnerSeen : Bool := false
  /-- HEALTH of its last heartbeat, the last HSEQ sent on the management path, and whether it has been found silent (R363). -/
  partnerHealth : Nat := 0
  hbSeq : Nat := 0
  partnerSilent : Bool := false
  /-- When the partner was last heard on the management path and on the Seam, as time plus one (0 never). -/
  heardMgmt : Nat := 0
  heardSeam : Nat := 0
  /-- Lease: it runs while TSX is below this; and when this unit last echoed a lease. -/
  leaseEnd : Nat := 0
  lastEcho : Nat := 0
  /-- TAKING began then; the overlap window is open until then. -/
  takeStart : Nat := 0
  overlapUntil : Nat := 0
  /-- Resync map: spans of 64 MiB (R367), and spans a STEPDOWN listed. -/
  resync : List Nat := []
  /-- Tandem requests that wait at a landing for the lease or a role (R364). -/
  waiting : List (Nat × Req) := []
  /-- Host writes whose local part is done and that wait for a MACK: port, TAG and the request (R361). -/
  unmacked : List (Nat × Nat × Option Req) := []
  /-- Tiles written since their last verification request, the next tile to verify, and the request under way: tile and CRC. -/
  verifyNext : Nat := 0
  verify : Option (Nat × Nat) := none
  /-- HALT holds tandem requests while the partner is silent (R366). -/
  halted : Bool := false
  /-- A handover waits for its last MACK (1), or for the partner's answer (2) (R366). -/
  handover : Nat := 0
  deriving DecidableEq, Repr

/-! ## What the device sends -/

/-- What a CTRL frame carries (Table 14.5): credits; spare message (lane, spare, OP, SSEQ); heartbeat (HSEQ, CLAIM, UNIT, TIME48,
HEALTH); loopback code and pattern. -/
structure CtrlBody where
  credit : Option (List Nat) := none
  spare : Option (Nat × Nat × Nat × Nat) := none
  heartbeat : Option (Nat × Nat × Nat × Nat × Nat) := none
  loopback : Option (Nat × List Byte) := none
  deriving DecidableEq, Repr

/-- What an event tells (Table 21.5): a record of one of the four logs, a bucket trip with its level, a retirement or service
event with its code, a pace event, a role change, or the health report. -/
inductive EvBody where
  | err (r : ErrRec)
  | dram (r : DramRec)
  | dead (r : DeadRec)
  | div (r : DivRec)
  | trip (source inst level : Nat)
  | unit (source inst code : Nat)
  | pace (min below : Nat)
  | roles (mode role claim : Nat)
  | health (report : List Byte)
  deriving DecidableEq, Repr

/-- A message the device sends, in the order of the chapters that describe them. -/
inductive Out where
  /-- The answer to a CXL.mem request: its completion, data for a read, poison, and DevLoad (R308, R309). -/
  | memRsp (ld tag : Nat) (c : Cmp) (data : Option (List Byte)) (poison : Bool) (devLoad : Nat)
  /-- A back-invalidation (R60). -/
  | bisnp (agent line : Nat) (kind : Snp)
  /-- BIConflictAck (R58). -/
  | conflictAck (agent line : Nat)
  /-- The answer to a read of a window slot: its STATUS word and RESULT (R76). -/
  | atwRead (ld slot tag : Nat) (word result : Nat)
  /-- An event cell to the Pilot: TYPE of Table 17.7 and its body (R402). -/
  | cell (type : Nat) (body : EvBody)
  /-- A Tack event to one destination on both management ports: EVSEQ, ETYPE, time and body (R477, R478). -/
  | tackEvent (dest seq type time : Nat) (body : EvBody)
  /-- A Dynamic Capacity event to a logical device: add (0), release (1) or forced release (2), and the region (R22, R312). -/
  | dcEvent (ld kind region : Nat)
  /-- A mailbox response: return code (0 success) and the payload's fields in order, a list by its length and its entries. -/
  | mbox (ld code : Nat) (payload : List Nat)
  /-- The status of a Pattern Book request on a path (Table 21.2). -/
  | book (path status : Nat)
  /-- A wait notice for a request (R398): the source endpoint and the reference. -/
  | waitNotice (src ref : Nat)
  /-- A frame on a Seam port: a CELL or DATA frame, with ACKSEQ and NAK in its header. -/
  | seamFrame (port : Nat) (f : SeamFrame) (ackseq : Nat) (ackv nak : Bool)
  /-- A CTRL frame on a Seam port. -/
  | seamCtrl (port : Nat) (b : CtrlBody) (ackseq : Nat) (ackv nak : Bool)
  /-- A pair message on the management path (R480): the 40-byte payload of Table 15.10. -/
  | pairMgmt (payload : List Byte)
  /-- The answer to a pair request on the management path. -/
  | pairMgmtRsp (payload : List Byte)
  /-- A pair heartbeat on the management path: HSEQ, CLAIM, UNIT, TIME48 and HEALTH (R363). -/
  | pairHb (hseq claim unit time health : Nat)
  /-- A Tack message to a carrier's source (Table 21.3). -/
  | tack (carrier dst : Nat) (bytes : List Byte)
  /-- An SPDM response (R427, R428): to a mailbox (`mbox`) or an MCTP endpoint, the response and its fields. -/
  | spdm (mbox : Bool) (dst : Nat) (name : String) (fields : List Nat)
  /-- An MCTP control response (R481): command code, completion code and data. -/
  | mctp (dst command code : Nat) (data : List Nat)
  /-- An answer of a management port: 0 ARP, 1 IPv6 neighbour discovery, 2 ICMP echo, to an address (R483). -/
  | netAnswer (port kind dst : Nat) (data : List Byte)
  /-- A VCORE setting sent over AVSBus, in mV (R498). -/
  | avs (mv : Nat)
  /-- What the TAP shows after an instruction: the register in its path and its value, none where it is outside the model (R534). -/
  | jtag (register : String) (value : Option Nat)
  deriving DecidableEq, Repr

/-! ## The configuration record -/

/-- The configuration record (R517), as it was last programmed. `binds` and `enabled` are the bindings of logical devices and
those enabled. -/
structure CfgRec where
  regs : Tab Nat := []
  berths : Tab Berth := []
  grants : Tab Nat := []
  landingWorld : Nat := 0
  confDevice : Bool := false
  regions : Tab Region := []
  binds : Tab Nat := []
  enabled : List Nat := []
  panels : Tab (Nat × Bool) := []
  shapers : Tab Shaper := []
  chmap : Tab Nat := []
  chmapBase : List Nat := List.range 24
  role : Nat := 0
  deriving DecidableEq, Repr

/-- A status that waits for the configuration record, or for a permission change's drain as well (R517): what a read of the
command then returns, or the answer to a SET. `change` is the number of its permission change, if it has one. -/
structure Post where
  key : Nat
  bytes : List Byte
  reply : Option Out
  change : Option Nat
  written : Bool
  drained : Bool
  deriving DecidableEq, Repr

/-- The configuration record and the statuses that wait for it. -/
structure Cfg where
  saved : CfgRec := {}
  posts : List Post := []
  deriving DecidableEq, Repr

/-! ## Chapter 24: start-up -/

/-- Resets and the boot. `held`: 0 not held, 1 in reset until PORST_N falls and rises, 2 PORST_N is low. `recorded` is the cause in
Thimble NVM; `cold` the kind of the last start; `unprepared` until step 6 of a cold start ends; `marker` the loss bitmap of the
checkpoint marker, if one follows the latest checkpoint (R519); `flush` the argument of a RESTART whose cleaning runs (R513);
`formatDue` the mark that entry to RETURNED leaves (R522). -/
structure Boot where
  held : Nat := 0
  recorded : Option Nat := none
  cold : Bool := true
  unprepared : Bool := false
  marker : Option (List Nat) := none
  flush : Option Nat := none
  formatDue : Bool := false
  /-- DRAM channels whose contents the running start found unretained (R512, R516). -/
  unretained : List Nat := []
  deriving DecidableEq, Repr

/-! ## Chapter 19: keys and life-cycle -/

/-- A berth's key record (Table 19.3). `st`: 0 NONE, 1 STEADY, 2 PREPARED, 3 ROTATING. `cursor` is CURSOR and `pos` the place that
the running sweep has reached, both as region × 2³⁴ + tile; `passed` counts the tiles visited since CURSOR was written. -/
structure KeyRec where
  st : Nat := 0
  active : Nat := 0
  genA : Nat := 0
  genB : Nat := 0
  cursor : Nat := 0
  pos : Nat := 0
  passed : Nat := 0
  /-- The path whose KEY_ROTATE started the rotation and waits for its end (0 none), and when it started. -/
  path : Nat := 0
  start : Nat := 0
  deriving DecidableEq, Repr

/-- Key records, the next generation (R435), and whether the UDS is fused. -/
structure Keys where
  recs : Tab KeyRec := []
  nextGen : Nat := 1
  udsFused : Bool := false
  deriving DecidableEq, Repr

/-! ## Chapter 20: firmware -/

/-- An image file in a bank of the boot flash (Table 20.2): the header fields that later rules read, whether its format, digest and
signature hold (R452), and for PFW the rows of its matrix. -/
structure FwBank where
  sound : Bool := false
  ifv : Nat := 0
  build : Nat := 0
  svn : Nat := 0
  bromMin : Nat := 0
  rows : List (List Nat) := []
  deriving DecidableEq, Repr

/-- The banks of images 2 to 5, keyed image × 2 + bank, and the firmware record (R453): active and pending banks, floors, the trial
and FORCE flags. `tried` are the images the running trial switched, each with its bank before the trial. -/
structure Firmware where
  banks : Tab FwBank := [(4, ⟨true, 0x02030001, 0, 0, 0x01020000, []⟩),
    (6, ⟨true, 0x04010000, 0, 0, 0x01020000, [[0x020201, 0x030202, 0x010004, 0x000003, 0x020005]]⟩),
    (8, ⟨true, 0x03000002, 0, 0, 0x01020000, []⟩), (10, ⟨true, 0x05020000, 0, 0, 0x01020000, []⟩)]
  active : Tab Nat := []
  pending : Tab (Option Nat) := []
  floors : Tab Nat := []
  trial : Bool := false
  force : Bool := false
  tried : List (Nat × Nat) := []
  deriving DecidableEq, Repr

/-! ## Chapter 21: sessions -/

/-- A segmented transfer (R476): TID, object, TOTAL, SEGSIZE and the segments held, by offset. -/
structure Seg where
  tid : Nat
  index : Nat
  sub : Nat
  total : Nat
  size : Nat
  parts : Tab (List Byte)
  deriving DecidableEq, Repr

/-- A Tack session (R471 to R474). `carrier`: 0 management Ethernet, 1 MCTP, 2 a mailbox; `src` is the source address, endpoint ID or
logical device. `live` once AUTH has passed, or at once under the bootstrap, whose sessions carry no tag. `h` is the
highest SEQ accepted; `cache` the answered SEQs of the last 16 responses; `waits` the SEQs whose response is not ready. -/
structure Session where
  carrier : Nat := 0
  src : Nat := 0
  role : Nat := 0
  /-- WORLD as HELLO asked for it; `secure` is what the session gets. -/
  world : Nat := 0
  secure : Bool := false
  live : Bool := false
  tagged : Bool := true
  cnonce : List Byte := []
  dnonce : List Byte := []
  skey : List Byte := []
  h : Nat := 0
  cache : List (Nat × List Byte) := []
  waits : List Nat := []
  seg : Option Seg := none
  deriving DecidableEq, Repr

/-- Sessions by number, sources whose HELLO goes unanswered since when (R471), the next TID, BOOT (Table 21.5), the last BOOT and SEQ
accepted from the partner (R480), and the MCTP endpoint ID (R481). -/
structure Tack where
  sessions : Tab (Option Session) := []
  barred : List (Nat × Nat × Nat) := []
  nextTid : Nat := 1
  boot : Nat := 0
  partnerBoot : Nat := 0
  partnerSeq : Nat := 0
  eid : Nat := 0
  deriving DecidableEq, Repr

/-! ## Chapter 23: power and heat -/

/-- The throttle ladder (R496 to R505): cap and thermal positions, periods since each last changed, the powers of the last ten
periods in tenths of a watt, newest first, the VCORE commanded and confirmed, whether the regulator is given up (R532), the
retries of the command under way, and the sensors. `hotTwice` counts consecutive samples at the trip point. -/
structure Power where
  pc : Nat := 0
  pt : Nat := 0
  sincePc : Nat := 0
  coolPt : Nat := 0
  recent : List Nat := []
  vcore : Nat := 750
  asked : Option Nat := none
  fixed : Bool := false
  retries : Nat := 0
  temps : Tab Int := []
  hotTwice : Nat := 0
  /-- THERMTRIP_N is driven low. -/
  tripped : Bool := false
  deriving DecidableEq, Repr

/-! ## Chapter 25: test access -/

/-- The JTAG instruction in force (R534), 0 IDCODE. -/
structure Test where
  jtag : Nat := 0
  deriving DecidableEq, Repr

/-! ## The whole state -/

/-- The state of the device and the queue of waiting commands. `out` lists what the device has sent, newest first;
`freeCtr` is the model's own counter for values the spec leaves open. -/
structure State where
  /-- Values of the Pattern Book objects that are registers, keyed by object and instance (`Obj.key`). -/
  regs : Tab Nat := []
  /-- Result of the last command object per path, keyed path × 2²⁴ + object (R489). -/
  cmdRes : Tab (Option (List Byte)) := []
  regions : Tab Region := []
  lds : Tab Ld := []
  clk : Clock := {}
  mf : Manifest := {}
  atw : Atw := {}
  ferry : Ferry := {}
  mem : Mem := {}
  grid : Grid := {}
  hosts : Hosts := {}
  meters : Meters := {}
  errs : Errors := {}
  berths : Berths := {}
  dram : Dram := {}
  flash : Flash := {}
  seam : Seam := {}
  red : Redund := {}
  hlt : Health := {}
  pair : Pair := {}
  jobs : Jobs := {}
  weave : Weave := {}
  cfg : Cfg := {}
  boot : Boot := {}
  keys : Keys := {}
  fw : Firmware := {}
  tack : Tack := {}
  power : Power := {}
  test : Test := {}
  out : List Out := []
  freeCtr : Nat := 0
  pending : List Instr := []
  deriving DecidableEq, Repr

/-- The state after reset: every object at its default and nothing listed. -/
def State.reset : State := {}

end Sys2Proof.Machine
end

