-- ==== Sys2Proof/Machine/Ops.lean ====
section
/-! DEFINITION. The named operations over the state that every meaning is written with: registers of the Pattern Book, tables,
time, outgoing messages, free values, and where a region, a logical device or a line belongs. -/

namespace Sys2Proof.Machine

/-- The answer of a command that acts and goes on. -/
abbrev Answer := Host.Outcome State Fault Refusal

/-- Bits of an object's value (R469). -/
def objWidth : ObjTy → Nat
  | .u8 | .enum8 => 8
  | .u16 => 16
  | .u32 | .i32 | .bits32 => 32
  | .u64 => 64
  | .time48 => 48
  | .bool => 1
  | .oct n => 8 * n
  | .str | .cmd => 0

/-- Where an object's value for one instance (a select value, a path, or 0) stands in the register file. -/
def objKey (o : Obj) (inst : Nat) : Nat := (o.index * 256 + o.sub) * 65536 + inst

/-- The value of an object's register for one instance; the object's default until something wrote it (R489). -/
def rget (o : Obj) (inst : Nat) (s : State) : Nat := tget o.dflt s.regs (objKey o inst)

/-- Set an object's register for one instance. -/
def rset (o : Obj) (inst v : Nat) (s : State) : State := { s with regs := tput o.dflt s.regs (objKey o inst) v }

/-- Add to a counter, which wraps at its type's width. -/
def radd (o : Obj) (inst n : Nat) (s : State) : State := rset o inst ((rget o inst s + n) % 2 ^ objWidth o.ty) s

/-- Count one event. -/
def rinc (o : Obj) (inst : Nat) (s : State) : State := radd o inst 1 s

/-- Keep the larger of a register and `v`. -/
def rmax (o : Obj) (inst v : Nat) (s : State) : State := if rget o inst s < v then rset o inst v s else s

/-- Send a message. -/
def emit (m : Out) (s : State) : State := { s with out := m :: s.out }

/-- TIME48 now (R7). -/
def now (s : State) : Nat := s.clk.tsx

/-- A fresh free value: the one the counter stands for, and the state with the counter moved on. -/
def fresh (s : State) : Nat × State := (Config.freeNat s.freeCtr, { s with freeCtr := s.freeCtr + 1 })

/-! ## Events (R401, R402, R477, R478) -/

/-- A record as a destination whose secure bit is clear may see it: location fields of a secure one are zero (R478). -/
def maskBody (s : State) : EvBody → EvBody
  | .err r => if r.secure then .err { r with region := 0, berth := 0, linev := false, line := 0 } else .err r
  | .dram r => if (tget {} s.regions r.region).world then .dram { r with region := 0, line := 0, berth := 0 } else .dram r
  | .dead r => if (tget {} s.regions r.region).world then .dead { r with region := 0, line := 0, berth := 0 } else .dead r
  | .div r => if (tget {} s.regions r.region).world then .div { r with region := 0, line := 0 } else .div r
  | b => b

/-- Send an event to each enabled destination (EVENT_DEST bit 144 enable, bit 145 secure). Nothing leaves while NIX is held
idle (R40). -/
def sendEvent (type seq time : Nat) (b : EvBody) (s : State) : State :=
  if s.clk.nixSilent then s
  else [(0, rget Obj.EVENT_DEST_0 0 s), (1, rget Obj.EVENT_DEST_1 0 s)].foldl (fun s' p =>
    if bit p.2 144 then emit (.tackEvent p.1 seq type time (if bit p.2 145 then b else maskBody s b)) s' else s') s

/-- Make an event of a reporting unit: a cell to the Pilot and, in pushed mode, a Tack event, at most 1,000 in a trailing
second (R401). `always` marks the events that are always sent and do not count. EVSEQ counts suppressed ones too (R477). -/
def raiseEvent (unit : Nat) (always : Bool) (type : Nat) (b : EvBody) (s : State) : State :=
  let s1 := emit (.cell type b) s
  if always || rget Obj.REPORT_MODE unit s == 1 then
    let s2 := rinc Obj.EVENT_SEQ 0 s1
    let seq := rget Obj.EVENT_SEQ 0 s2
    if always then sendEvent type seq (now s) b s2
    else
      let recent := s.errs.pushed.filter (fun t => decide (now s < t + 25000000))
      if recent.length < 1000 then sendEvent type seq (now s) b { s2 with errs := { s2.errs with pushed := now s :: recent } }
      else rinc Obj.REPORT_SUPPRESSED 0 s2
  else s1

/-- The reporting unit of a source's events (R401): 0 to 23 DRAM channels, 32 to 63 flash channels, 64 to 71 host ports, 72 and
73 Seam ports, 80 the device. -/
def unitOf (source inst : Nat) : Nat :=
  if (1 ≤ source ∧ source ≤ 5) ∨ source = 0x90 ∨ source = 0xB0 then inst
  else if (0x10 ≤ source ∧ source ≤ 0x13) ∨ source = 0xB1 then 32 + inst
  else if source = 0x20 then 64 + inst / 8
  else if source = 0x30 then 72 + inst / 36
  else if source = 0xA8 ∧ 32 ≤ inst then inst - 32
  else 80

/-- TSX ticks of 40 ns in `n` µs. -/
def usTicks (n : Nat) : Nat := n * 25

/-! ## Tables of the state -/

/-- Region record `n`. -/
def regionOf (s : State) (n : Nat) : Region := tget {} s.regions n

/-- Change region record `n`. -/
def modRegion (n : Nat) (f : Region → Region) (s : State) : State := { s with regions := tmod {} s.regions n f }

/-- Logical device `n`. -/
def ldOf (s : State) (n : Nat) : Ld := tget {} s.lds n

/-- Change logical device `n`. -/
def modLd (n : Nat) (f : Ld → Ld) (s : State) : State := { s with lds := tmod {} s.lds n f }

/-- Host link `h`. -/
def linkOf (s : State) (h : Nat) : Link := tget {} s.hosts.links h

/-- Change host link `h`. -/
def modLink (h : Nat) (f : Link → Link) (s : State) : State :=
  { s with hosts := { s.hosts with links := tmod {} s.hosts.links h f } }

/-- Host agent `n`. -/
def agentOf (s : State) (n : Nat) : Agent := tget {} s.mf.agents n

/-- Change host agent `n`. -/
def modAgent (n : Nat) (f : Agent → Agent) (s : State) : State :=
  { s with mf := { s.mf with agents := tmod {} s.mf.agents n f } }

/-- Berth `n`. -/
def berthOf (s : State) (n : Nat) : Berth := tget {} s.berths.berths n

/-- Change berth `n`. -/
def modBerth (n : Nat) (f : Berth → Berth) (s : State) : State :=
  { s with berths := { s.berths with berths := tmod {} s.berths.berths n f } }

/-- Panel `p`. -/
def panelOf (s : State) (p : Nat) : Panel := tget {} s.grid.panels p

/-- Change panel `p`. -/
def modPanel (p : Nat) (f : Panel → Panel) (s : State) : State :=
  { s with grid := { s.grid with panels := tmod {} s.grid.panels p f } }

/-- Core `c`. -/
def coreOf (s : State) (c : Nat) : Core := tget {} s.grid.cores c

/-- Change core `c`. -/
def modCore (c : Nat) (f : Core → Core) (s : State) : State :=
  { s with grid := { s.grid with cores := tmod {} s.grid.cores c f } }

/-- Far-shore record of tile `t`. -/
def farOf (s : State) (t : Nat) : Far := tget {} s.ferry.far t

/-- Change the far-shore record of tile `t`. -/
def modFar (t : Nat) (f : Far → Far) (s : State) : State :=
  { s with ferry := { s.ferry with far := tmod {} s.ferry.far t f } }

/-! ## Where things belong -/

/-- Lines in a GiB, and tiles in a GiB. -/
def linesPerGib : Nat := 16777216
def tilesPerGib : Nat := 16384

/-- The tile of a line (T of R51). -/
def tileOfLine (line : Nat) : Nat := line / 1024

/-- The GiB of pool offset a line lies in. -/
def gibOfLine (line : Nat) : Nat := line / linesPerGib

/-- The region number whose record covers a GiB of pool offset (R13: at most one does). -/
def regionAtGib (s : State) (g : Nat) : Option Nat :=
  (s.regions.find? (fun p => decide (p.2.st ≠ 0) && decide (p.2.base ≤ g) && decide (g < p.2.base + p.2.size))).map (·.1)

/-- The region number of a line. -/
def regionAtLine (s : State) (line : Nat) : Option Nat := regionAtGib s (gibOfLine line)

/-- The region number of a tile. -/
def regionAtTile (s : State) (t : Nat) : Option Nat := regionAtGib s (t / tilesPerGib)

/-- A berth's key record. -/
def keyOf (s : State) (b : Nat) : KeyRec := tget {} s.keys.recs b

/-- Generation of a slot: 0 A, 1 B. -/
def slotGen (k : KeyRec) (slot : Nat) : Nat := if slot = 0 then k.genA else k.genB

/-- The active key slot of a berth and its generation (R436). -/
def activeKey (s : State) (berth : Nat) : Nat × Nat :=
  let k := keyOf s berth
  (k.active, slotGen k k.active)

/-- The key a new copy of a tile takes: its owner's active one (R436). -/
def keyFor (s : State) (t : Nat) : Nat × Nat :=
  match regionAtTile s t with
  | none => (0, 0)
  | some r => activeKey s (regionOf s r).owner

/-- A copy's slot is EMPTY or holds another generation (R434). Generation 0 names the canary key and a copy that no key covers. -/
def keyMismatch (s : State) (t slot gen : Nat) : Bool :=
  match regionAtTile s t with
  | none => false
  | some r =>
    let k := keyOf s (regionOf s r).owner
    k.st != 0 && (slotGen k slot == 0 || slotGen k slot != gen)

/-- A header under a key. -/
def keyHdr (k : Nat × Nat) (h : TileHdr) : TileHdr := { h with kslot := k.1, kgen := k.2 }

/-- A tag entry whose near copy is under a key. -/
def keyTag (k : Nat × Nat) (g : Tag) : Tag := { g with kslot := k.1, hdr := keyHdr k g.hdr }

/-- A region whose tiles are always resident (Table 01.1). -/
def reserving (g : Region) : Bool := g.cls == 1 || g.cls == 3

/-- The tag entry of a resident tile of a reserving region that nothing has written: clean, whole and RSV (R18, R101). -/
def rsvTag : Tag := { st := 3, rsv := true, valid := BitVec.allOnes 1024 }

/-- The tag entry a cold start writes for such a tile: ZB set and no VALID bit (R519). -/
def rsvFresh : Tag := { st := 3, rsv := true, zb := true }

/-- The tag entry a tile has while none is listed: RSV in a reserving region that is LIVE or RETIRING, else none (state 0). -/
def tagDflt (s : State) (t : Nat) : Tag :=
  match regionAtTile s t with
  | none => {}
  | some r =>
    let g := regionOf s r
    if reserving g && (g.st == 2 || g.st == 3) && !g.displaced.contains t then keyTag (g.kslot, g.kgen) (if g.fresh then rsvFresh else rsvTag) else {}

/-- Tag entry of tile `t`; state 0 when it has none. -/
def tagOf (s : State) (t : Nat) : Tag := tget (tagDflt s t) s.ferry.tags t

/-- Change the tag entry of tile `t`. -/
def modTag (t : Nat) (f : Tag → Tag) (s : State) : State :=
  { s with ferry := { s.ferry with tags := tmod (tagDflt s t) s.ferry.tags t f } }

/-- Replace the tag entry of tile `t`. -/
def setTag (t : Nat) (g : Tag) (s : State) : State :=
  { s with ferry := { s.ferry with tags := tput (tagDflt s t) s.ferry.tags t g } }

/-- The port of a logical device (R21). -/
def portOfLd (ld : Nat) : Nat := ld / 16

/-- The link a logical device belongs to (R298). -/
def linkOfLd (s : State) (ld : Nat) : Nat :=
  if bit s.hosts.split (portOfLd ld) && decide (8 ≤ ld % 16) then 2 * portOfLd ld + 1 else 2 * portOfLd ld

/-- A link that serves: UP_256, UP_68 or RECOVERY (Table 13.2). -/
def linkServes (s : State) (h : Nat) : Bool :=
  let st := (linkOf s h).st
  st == 2 || st == 3 || st == 4

/-- The logical device an agent number belongs to. -/
def ldOfAgent (s : State) (a : Nat) : Option Nat :=
  (s.lds.find? (fun p => (p.2.enabled || p.2.leaving) && p.2.agent == a)).map (·.1)

/-- The world of a logical device: its landing's (R410). -/
def ldWorld (s : State) (ld : Nat) : Bool := bit s.berths.landingWorld (portOfLd ld)

/-- The panel of a core and its index there (R149). -/
def panelOfCore (c : Nat) : Nat := (c / 40 / 5) * 10 + c % 40 / 4
def panelIndex (c : Nat) : Nat := (c / 40 % 5) * 4 + c % 40 % 4

/-- The core at an index of a panel. -/
def coreAt (p i : Nat) : Nat := (p / 10 * 5 + i / 4) * 40 + p % 10 * 4 + i % 4

/-- The cores of a panel. -/
def coresOfPanel (p : Nat) : List Nat := (List.range 20).map (coreAt p)

/-- UNIT_ID (R431): the unit identifier, or in BLANK the die identifier. -/
def unitId (s : State) : Nat := (if rget Obj.LC_STATE 0 s = 0 then Config.dieId else Config.unitId).toNat

/-- The bank that an image runs from (R453). -/
def runningBank (s : State) (image : Nat) : FwBank := tget {} s.fw.banks (image * 2 + tget 0 s.fw.active image)

/-- Interface triple of the running image; the BROM's is 1.2.0 in revision B1 (Table 20.1). -/
def fwIf (s : State) (image : Nat) : Nat := if image = 1 then 0x01020000 else (runningBank s image).ifv

/-- FW_SET_ID (R462): MAJOR × 256 + MINOR of TFW, PFW, FFW and GMC. -/
def fwSetId (s : State) : Nat :=
  fwIf s 2 / 65536 + fwIf s 3 / 65536 * 2 ^ 16 + fwIf s 4 / 65536 * 2 ^ 32 + fwIf s 5 / 65536 * 2 ^ 48

/-- The ladder's position (R497): the deeper of the cap and the thermal position. -/
def ladderPos (s : State) : Nat := max s.power.pc s.power.pt

/-- HMAC-SHA-384: 48 bytes. -/
def hmac (key msg : List Byte) : List Byte := (Config.hmac384 key msg ++ List.replicate 48 0).take 48

/-- Text as bytes. -/
def ascii (t : List Char) : List Byte := t.map (fun c => BitVec.ofNat 8 c.toNat)

/-- PAIR_SECRET as the 48 bytes it was written with. -/
def secretBytes (s : State) : List Byte := natLE 48 (rget Obj.PAIR_SECRET 0 s)

/-- A key of the pair: HMAC of the secret over a byte, a label, and both UNITs, the lower one first (R441, R480). -/
def pairKey (n : Nat) (label : List Char) (s : State) : List Byte :=
  let a := unitId s
  let b := rget Obj.PAIR_PARTNER_UNIT 0 s
  hmac (secretBytes s) (BitVec.ofNat 8 n :: ascii label ++ natLE 8 (min a b) ++ natLE 8 (max a b))

/-- PAIR_KEY_CHECK (R441): the first 8 bytes of a zero block encrypted under K1; 0 while no secret is set. -/
def pairKeyCheck (s : State) : Nat :=
  if rget Obj.PAIR_SECRET 0 s = 0 then 0
  else leNat ((Config.aes256 ((pairKey 1 ['S', 'E', 'A', 'M'] s).take 32) (List.replicate 16 0)).take 8)

/-- Run `f` over a list, left to right. -/
def each {α : Type} (l : List α) (f : α → State → State) (s : State) : State := l.foldl (fun s x => f x s) s

end Sys2Proof.Machine
end

