-- ==== Sys2Proof/Machine/Units.lean ====
section
/-! DEFINITION. Starting the permanent action of a bucket trip (Table 17.2): retiring a panel or a channel, stepping a link
down, replacing a Seam lane, and raising service events. The later steps of each are commands of their own. -/

namespace Sys2Proof.Machine

/-- Job `ref`. -/
def jobOf (s : State) (ref : Nat) : Option Job := tget none s.jobs.jobs ref

/-- Replace job `ref`. -/
def setJob (ref : Nat) (j : Option Job) (s : State) : State :=
  { s with jobs := { s.jobs with jobs := tput none s.jobs.jobs ref j } }

/-- Change job `ref` if it exists. -/
def modJob (ref : Nat) (f : Job → Job) (s : State) : State :=
  match jobOf s ref with
  | none => s
  | some j => setJob ref (some (f j)) s

/-- Stop a RUNNING job at instruction boundaries and start saving its panels together (R213). -/
def startSave (ref : Nat) (s : State) : State :=
  match jobOf s ref with
  | none => s
  | some j =>
    if j.code = 2 ∧ j.step = 0 then
      each j.bound (fun p s => modPanel p (fun q => { q with st := 2 }) s)
        (setJob ref (some { j with step := 2, ran := j.ran + (now s + 281474976710656 - j.tLast) % 281474976710656, tLast := now s }) s)
    else s

/-- A retirement event (R402): code 0 started, 1 ended. -/
def retireEvent (source inst code : Nat) (s : State) : State := raiseEvent (unitOf source inst) false 0x62 (.unit source inst code) s

/-- A panel leaves service whole (R166): at once when no job holds it, else when its job is saved. -/
def retirePanel (source p : Nat) (s : State) : State :=
  let q := panelOf s p
  if q.st = 4 ∨ q.retireDue = true then s
  else
    let s1 := retireEvent source p 0 s
    if q.job = 0 then retireEvent source p 1 (modPanel p (fun q => { q with st := 4 }) s1)
    else startSave (q.job - 1) (modPanel p (fun q => { q with retireDue := true, retireSrc := source }) s1)

/-- Raise a service event (R402) for the source and instance concerned. -/
def serviceEvent (source inst : Nat) (s : State) : State := 
  raiseEvent (unitOf source inst) false 0x62 (.unit source inst 2) s

/-- Queue a DRAM channel for graceful retirement (R266, R389). -/
def queueDramRetire (source ch : Nat) (s : State) : State :=
  if s.dram.queue.any (fun q => q.1 == ch) then s else { s with dram := { s.dram with queue := s.dram.queue ++ [(ch, source)] } }

/-- Queue a flash channel for graceful retirement (R293, R389). -/
def queueFlashRetire (source ch : Nat) (s : State) : State :=
  if s.flash.queue.any (fun q => q.1 == ch) then s else { s with flash := { s.flash with queue := s.flash.queue ++ [(ch, source)] } }

/-- A link enters Recovery for a width or rate step (R299, Table 13.3). -/
def linkToRecovery (h : Nat) (s : State) : State :=
  let l := linkOf s h
  if l.st = 2 ∨ l.st = 3 then modLink h (fun l => { l with st := 4, upState := l.st }) s else s

/-- Take a lane group out of use unless it is the last one, which raises a service event (R389). -/
def dropLaneGroup (g : Nat) (s : State) : State :=
  if s.ferry.lanesOut.contains g then s
  else if s.ferry.lanesOut.length < 7 then { s with ferry := { s.ferry with lanesOut := g :: s.ferry.lanesOut } }
  else serviceEvent 0x70 (128 + g) s

/-- The link that a lane instance of SOURCE 0x20, port × 8 + lane, belongs to (Table 17.2). -/
def linkOfLane (s : State) (inst : Nat) : Nat :=
  if bit s.hosts.split (inst / 8) && decide (4 ≤ inst % 8) then 2 * (inst / 8) + 1 else 2 * (inst / 8)

/-- Every 64 MiB span of the tandem regions is marked in the resync map (R367). -/
def markTandem (s : State) : State :=
  { s with pair := { s.pair with resync := s.regions.flatMap (fun p =>
      if p.2.st ≠ 0 ∧ p.2.cls = 2 then (List.range (p.2.size * 16)).map (· + p.2.base * 16) else []) } }

/-- The permanent action of a source's bucket (Table 17.2). -/
def startAction (source inst : Nat) (s : State) : State :=
  match source with
  | 0x01 | 0x02 | 0x03 | 0x04 | 0x05 | 0x90 => queueDramRetire source inst s
  | 0x10 | 0x11 | 0x12 | 0x13 => queueFlashRetire source inst s
  | 0x20 =>
    let h := linkOfLane s inst
    linkToRecovery h (modLink h (fun l => { l with badLanes := inst % 8 :: l.badLanes }) s)
  | 0x30 => { s with seam := { s.seam with spareDue := s.seam.spareDue ++ [inst] } }
  | 0x40 | 0x41 | 0x42 | 0x43 | 0x44 => retirePanel source inst s
  | 0x60 | 0x61 => serviceEvent source inst s
  | 0x70 =>
    if inst < 24 then queueDramRetire source inst s
    else if inst < 64 then queueFlashRetire source (inst - 32) s
    else if inst < 124 then retirePanel source (inst - 64) s
    else dropLaneGroup (inst - 128) s
  | 0x80 => markTandem s
  | _ => s

end Sys2Proof.Machine
end

