-- ==== Sys2Proof/Machine/Errors.lean ====
section
/-! DEFINITION. Error records, reporting, leaky buckets and poison (chapter 17): the operations that other meanings call. -/

namespace Sys2Proof.Machine

/-- The record of an error whose line is known, with the region, berth and world of that line (Table 17.6). -/
def mkRec (source inst cls : Nat) (line : Option Nat) (detail : Nat) (s : State) : ErrRec :=
  match line with
  | none => ⟨source, inst, cls, 0x1FFF, 0, false, false, now s, 0, detail⟩
  | some l =>
    match regionAtLine s l with
    | none => ⟨source, inst, cls, 0x1FFF, 0, false, true, now s, l, detail⟩
    | some r => ⟨source, inst, cls, r, (regionOf s r).owner, (regionOf s r).world, true, now s, l, detail⟩

/-- Queue an event record for one logical device, or set the overflow indication (R403). -/
def queueCxl (ld : Nat) (module : Bool) (r : ErrRec) (s : State) : State :=
  { s with hosts := { s.hosts with mboxes := tmod {} s.hosts.mboxes ld (fun m =>
      if m.events.length < 256 then { m with events := m.events ++ [(m.nextHandle, module, r)], nextHandle := m.nextHandle + 1 }
      else { m with overflow := true }) } }

/-- Queue a record of class 3 or 4 for every logical device whose accepted extents hold its line, and one whose INSTANCE names a lane of
a host link for the logical devices of that link (R403). -/
def queueForHosts (r : ErrRec) (s : State) : State :=
  if r.linev && (r.cls == 3 || r.cls == 4) then
    each s.lds (fun p s => if p.2.accepted.contains r.region then queueCxl p.1 false r s else s) s
  else if r.source == 0x20 then
    each s.lds (fun p s => if p.2.enabled && linkOfLd s p.1 == linkOfLane s r.inst then queueCxl p.1 true r s else s) s
  else s

/-- Write a record of a reporting unit: into the device error log while it has room, else counted as lost; pushed; and queued for hosts
(R400, R401, R403). -/
def logRecAt (unit : Nat) (always : Bool) (type : Nat) (r : ErrRec) (s : State) : State :=
  let s1 := if s.errs.log.length < 4096 then { s with errs := { s.errs with log := s.errs.log ++ [r] } }
            else rinc Obj.ERR_LOG_LOST 0 s
  queueForHosts r (raiseEvent unit always type (.err r) s1)

/-- Write a record whose source and INSTANCE name its reporting unit. -/
def logRec (always : Bool) (type : Nat) (r : ErrRec) (s : State) : State := logRecAt (unitOf r.source r.inst) always type r s

/-- Write a record of a source that has no bucket: its INSTANCE is 0 (Table 17.6), and its unit is the caller's. -/
def logErrorAt (unit source cls : Nat) (line : Option Nat) (detail : Nat) (s : State) : State :=
  logRecAt unit false 0x60 (mkRec source 0 cls line detail s) s

/-- Write an error record of a source and class (R386: class 0 is only counted). -/
def logError (source inst cls : Nat) (line : Option Nat) (detail : Nat) (s : State) : State :=
  if cls = 0 then s else logRec false 0x60 (mkRec source inst cls line detail s) s

/-- Window in seconds and threshold of a bucket (Table 17.2). -/
def bucketParams (source : Nat) : Option (Nat × Nat) :=
  match source with
  | 0x01 => some (3600, 16384)
  | 0x02 => some (86400, 16)
  | 0x03 => some (3600, 64)
  | 0x04 => some (3600, 256)
  | 0x05 => some (86400, 4)
  | 0x10 => some (86400, 512)
  | 0x11 => some (86400, 32)
  | 0x12 => some (86400, 32)
  | 0x13 => some (86400, 3)
  | 0x20 => some (60, 64)
  | 0x30 => some (1, 32)
  | 0x40 => some (3600, 64)
  | 0x41 => some (86400, 2)
  | 0x42 => some (3600, 256)
  | 0x43 => some (86400, 2)
  | 0x44 => some (86400, 1)
  | 0x50 => some (86400, 8)
  | 0x60 => some (3600, 1024)
  | 0x61 => some (86400, 8)
  | 0x70 => some (86400, 2)
  | 0x80 => some (86400, 16)
  | 0x90 => some (86400, 4)
  | _ => none

/-- How many instances a bucket's source has (Table 17.2). -/
def bucketHas (source inst : Nat) : Bool :=
  match source with
  | 0x01 | 0x02 | 0x03 | 0x04 | 0x05 | 0x90 => decide (inst < 24)
  | 0x10 | 0x11 | 0x12 | 0x13 => decide (inst < 32)
  | 0x20 => decide (inst < 64)
  | 0x30 => decide (inst < 72)
  | 0x40 | 0x41 | 0x42 | 0x43 | 0x44 => decide (inst < 60)
  | 0x50 => decide (inst < 2)
  | 0x60 | 0x61 => decide (inst < 144)
  | 0x70 => decide (inst < 24) || (decide (32 ≤ inst) && decide (inst < 124)) || (decide (128 ≤ inst) && decide (inst < 136))
  | 0x80 => decide (inst = 0)
  | _ => false

/-- Bucket key: SOURCE × 256 + INSTANCE (R388). -/
def bucketKey (source inst : Nat) : Nat := source * 256 + inst

def bucketOf (s : State) (source inst : Nat) : Bucket := tget {} s.errs.buckets (bucketKey source inst)

def setBucket (source inst : Nat) (b : Bucket) (s : State) : State :=
  { s with errs := { s.errs with buckets := tput {} s.errs.buckets (bucketKey source inst) b } }

/-- TSX ticks of a bucket's leak interval W / N (R387). -/
def leakTicks (w n : Nat) : Nat := w * 25000000 / n

/-- Sources whose level returns to 0 after a trip instead of holding at N (R389). -/
def resetsAfterTrip (source : Nat) : Bool := source == 0x60 || source == 0x61 || source == 0x80

/-- An event of a source and instance (R387): its level rises; the event that brings it to N writes a class 2 record in
place of its own, sends a bucket-trip event and starts the permanent action. `cls` is the class below the threshold. -/
def bucketEvent (source inst cls : Nat) (line : Option Nat) (detail : Nat) (s : State) : State :=
  match bucketParams source with
  | none => logError source inst cls line detail s
  | some (w, n) =>
    let b := bucketOf s source inst
    let s1 := rinc Obj.BUCKET_EVENTS (bucketKey source inst) s
    if b.held then logError source inst cls line detail s1
    else if b.level + 1 < n then
      logError source inst cls line detail
        (setBucket source inst ⟨b.level + 1, if b.level = 0 then some (now s + leakTicks w n) else b.clock, false⟩ s1)
    else
      let b' : Bucket := if resetsAfterTrip source then {} else ⟨n, none, true⟩
      startAction source inst
        (raiseEvent (unitOf source inst) false 0x61 (.trip source inst n)
          (rinc Obj.BUCKET_TRIPS (bucketKey source inst)
            (logError source inst 2 line detail (setBucket source inst b' s1))))

/-- The leak clock's end (R387): the level falls by one; the clock stops at 0. -/
def execBucketLeak (source inst : Nat) (s : State) : Answer :=
  match bucketParams source with
  | none => .next s
  | some (w, n) =>
    let b := bucketOf s source inst
    if b.held || b.level == 0 then .next s
    else .next (setBucket source inst
      ⟨b.level - 1, if b.level = 1 then none else some ((b.clock.getD (now s)) + leakTicks w n), false⟩ s)

/-! ## Poison (R394 to R396) -/

/-- A near line reads as poison. -/
def nearPoisoned (s : State) (line : Nat) : Bool := tget false s.mem.nearPoison line

/-- Mark or clear poison on a near line. -/
def setNearPoison (line : Nat) (p : Bool) (s : State) : State :=
  { s with mem := { s.mem with nearPoison := tput false s.mem.nearPoison line p } }

/-- Reset containment applies to a line: its home channel's mode or its region class's mode (R390). -/
def containsByReset (s : State) (home : Nat) (line : Nat) : Bool :=
  rget Obj.CONTAIN_CHANNEL_MODE home s == 1 ||
    (match regionAtLine s line with
     | none => false
     | some r => bit (rget Obj.CONTAIN_CLASS_MODE 0 s) (regionOf s r).cls)

end Sys2Proof.Machine
end

