-- ==== Sys2Proof/Machine/Meter.lean ====
section
/-! DEFINITION. Meters: tokens, colouring, shares and DevLoad (R375 to R383), as operations that the host requests call. -/

namespace Sys2Proof.Machine

/-- Meter numbers: berth × 4 + kind (0 MEM, 1 ATW, 2 HINT, 3 JOB), and 256 + port. -/
def berthMeter (berth kind : Nat) : Nat := berth * 4 + kind
def portMeter (port : Nat) : Nat := 256 + port

/-- Key of a meter's instance at a port's landing. -/
def instKey (m port : Nat) : Nat := m + port * 512

def shaperOf (s : State) (m : Nat) : Shaper := tget {} s.meters.shapers m
def instOf (s : State) (m port : Nat) : Inst := tget {} s.meters.insts (instKey m port)

def setInst (m port : Nat) (i : Inst) (s : State) : State :=
  { s with meters := { s.meters with insts := tput {} s.meters.insts (instKey m port) i } }

/-- Refill an instance to now: Tc at CIR up to CBS and Tp at PIR up to PBS, with 16 fractional bits (R375). -/
def refilled (i : Inst) (t : Nat) : Inst :=
  let ticks := (t + 2 ^ 48 - i.last) % 2 ^ 48
  { i with
    last := t
    tc := min (i.cbs * 65536) (i.tc + i.cir * ticks * 65536 / 25000000)
    tp := min (i.pbs * 65536) (i.tp + i.pir * ticks * 65536 / 25000000) }

/-- Some held request of the link is coloured `colour` by meter `m` ("held on m", R375). For a request that is metered again only
those before it in its link's order count: it and those behind it do not (R380, DEDUCED from the worked case of R384). -/
def heldOn (s : State) (m link colour : Nat) (self : Option Held) : Bool :=
  let others := match self with
    | none => s.meters.held
    | some h => s.meters.held.takeWhile (fun k => k != h)
  others.any (fun h => h.link == link && (if colour = 2 then h.redOn.contains m else h.yellowOn.contains m))

/-- One meter's colour of a request of cost `c`: 0 green, 1 yellow, 2 red (R375). -/
def meterColour (s : State) (m link c : Nat) (self : Option Held) : Nat :=
  let i := instOf s m (link / 2)
  if !(shaperOf s m).mode then 0
  else if i.tp < c * 65536 || heldOn s m link 2 self then 2
  else if i.tc < c * 65536 || heldOn s m link 1 self then 1
  else 0

/-- What colouring a request gives: its colour, the meters that coloured it yellow and red, and the state with its tokens
taken. -/
structure Coloured where
  colour : Nat
  yellowOn : List Nat
  redOn : List Nat
  st : State

/-- Take tokens by the final colour from every metered instance (R375). -/
def takeTokens (ms : List Nat) (link c colour : Nat) (s : State) : State :=
  each ms (fun m s =>
    if !(shaperOf s m).mode then s
    else
      let i := instOf s m (link / 2)
      if colour = 0 then setInst m (link / 2) { i with tc := i.tc - c * 65536, tp := i.tp - c * 65536, took := i.took + c } s
      else if colour = 1 then setInst m (link / 2) { i with tp := i.tp - c * 65536, took := i.took + c } s
      else s) s

/-- Colour a request over every meter it passes (R375). -/
def colourReq (ms : List Nat) (link c : Nat) (self : Option Held) (s : State) : Coloured :=
  let s1 := each ms (fun m s => setInst m (link / 2) (refilled (instOf s m (link / 2)) (now s)) s) s
  let cols := ms.map (fun m => (m, meterColour s1 m link c self))
  let colour := cols.foldl (fun a p => max a p.2) 0
  ⟨colour, (cols.filter (fun p => p.2 == 1)).map (·.1), (cols.filter (fun p => p.2 == 2)).map (·.1),
    takeTokens ms link c colour s1⟩

/-- Count a colour at first metering (R384). -/
def countColour (ms : List Nat) (colour : Nat) (s : State) : State :=
  each ms (fun m s =>
    if m < 256 then
      rinc (if colour = 0 then Obj.BMETER_GREEN else if colour = 1 then Obj.BMETER_YELLOW else Obj.BMETER_RED) m s
    else
      rinc (if colour = 0 then Obj.PMETER_GREEN else if colour = 1 then Obj.PMETER_YELLOW else Obj.PMETER_RED) (m - 256) s) s

/-- Ports on which a berth has enabled logical devices: k of R378 is their number. -/
def berthPorts (s : State) (b : Nat) : List Nat :=
  (List.range 8).filter (fun p => s.lds.any (fun e => e.2.enabled && e.2.berth == b && portOfLd e.1 == p))

/-- The ports at which a meter has instances. -/
def meterPorts (s : State) (m : Nat) : List Nat := if m < 256 then berthPorts s (m / 4) else [m - 256]

/-- Equal shares of a whole: the i-th of k, the shares summing to the whole. -/
def equalShare (whole k i : Nat) : Nat := whole / k + (if i < whole % k then 1 else 0)

/-- Give a meter's instances equal shares (R378). `tokens`: none keeps each instance's tokens, clamped, and starts a new
instance at zero; some true fills the buckets; some false empties them. -/
def shareOut (m : Nat) (tokens : Option Bool) (s : State) : State :=
  let ports := meterPorts s m
  let sh := shaperOf s m
  let k := ports.length
  let s1 := each ((List.range 8).filter (fun p => !ports.contains p)) (fun p s => setInst m p {} s) s
  each ports.zipIdx (fun pi s =>
    let i := refilled (instOf s m pi.1) (now s)
    let cbs := equalShare sh.cbs k pi.2
    let pbs := equalShare sh.pbs k pi.2
    let (tc, tp) := match tokens with
      | none => (min i.tc (cbs * 65536), min i.tp (pbs * 65536))
      | some true => (cbs * 65536, pbs * 65536)
      | some false => (0, 0)
    setInst m pi.1 ⟨equalShare sh.cir k pi.2, equalShare sh.pir k pi.2, cbs, pbs, tc, tp, now s, i.took⟩ s) s1

/-- The number of ports of a berth changed: shares become 1/k each at once (R378). -/
def reshareBerth (b : Nat) (s : State) : State :=
  each [0, 1, 2, 3] (fun k s => if (shaperOf s (berthMeter b k)).mode then shareOut (berthMeter b k) none s else s) s

/-- A MEM or port meter's DevLoad term (Table 16.4). -/
def meterLoad (s : State) (m link : Nat) : Nat :=
  let i := refilled (instOf s m (link / 2)) (now s)
  let heldY := s.meters.held.any (fun h => h.link == link && h.yellowOn.contains m)
  let heldR := s.meters.held.any (fun h => h.link == link && h.redOn.contains m)
  if !(shaperOf s m).mode then 0
  else if i.tp < 64 * 65536 || heldR then 3
  else if i.tc < 64 * 65536 || heldY then 2
  else if i.cbs * 65536 ≤ 2 * i.tc then 0
  else 1

/-- Requests open on a link (R304): those that wait at a home slice, under a recall, for a tile, or in a hold, and window
operations that have not ended. -/
def openOn (s : State) (h : Nat) : Nat :=
  let mem (r : Req) : Bool := match r.src with
    | .host _ _ => r.link == h
    | .atw _ _ => r.link == h
    | _ => false
  (s.mf.waits.filter (fun w => mem w.req)).length
  + (s.mf.recalls.filter (fun p => match p.2 with
      | some ⟨_, .request r, _, _, _, _⟩ => mem r
      | _ => false)).length
  + (s.ferry.misses.filter mem).length
  + (s.mf.ready.filter mem).length
  + (s.meters.held.filter (fun x => x.link == h)).length
  + (s.red.merges.filter (fun m => m.link == h)).length
  + (s.pair.waiting.filter (fun w => mem w.2)).length
  + (s.pair.unmacked.filter (fun u => match u.2.2 with
      | some r => mem r
      | none => false)).length

/-- A link's limit of open transactions (R306). -/
def openLimit (s : State) (h : Nat) : Nat := if (linkOf s h).width = 8 then 2048 else 1024

/-- A link's occupancy term (Table 16.4). -/
def occupancyLoad (s : State) (h : Nat) : Nat :=
  let o := openOn s h
  let l := openLimit s h
  if 2 * o < l then 0 else if 4 * o < 3 * l then 1 else if o < l then 2 else 3

/-- DevLoad of a response of a logical device, at the moment it leaves (R383). -/
def devLoad (s : State) (ld : Nat) : Nat :=
  let h := linkOfLd s ld
  max (meterLoad s (berthMeter (ldOf s ld).berth 0) h) (max (meterLoad s (portMeter (h / 2)) h) (occupancyLoad s h))

end Sys2Proof.Machine
end

