-- ==== Sys2Proof/Machine/Perm.lean ====
section
/-! DEFINITION. Rights (R416 to R419): which berth may do what to a region, and the extents a logical device holds. -/

namespace Sys2Proof.Machine

/-- Right bits: 0 HOST_R, 1 HOST_W, 2 DEV_R, 3 DEV_W (R416). -/
def rHostR : Nat := 0
def rHostW : Nat := 1
def rDevR : Nat := 2
def rDevW : Nat := 3

/-- The rights a berth holds on a region under the current rules: all four for the owner of a region that is not being
removed, a grant's for another berth (R416). -/
def rightsOf (s : State) (berth region : Nat) : Nat :=
  let r := regionOf s region
  if r.noRights || r.st == 0 then 0
  else if r.owner = berth then 15
  else tget 0 s.berths.grants (region * 64 + berth)

/-- A world reaches a region: secure reaches both, non-secure only non-secure (R410). -/
def worldReaches (s : State) (world : Bool) (region : Nat) : Bool := world || !(regionOf s region).world

/-- A berth's right on a region. -/
def hasRight (s : State) (berth region right : Nat) : Bool := bit (rightsOf s berth region) right

/-- A logical device's host right on a region: its berth's right, its landing's world, and PRIV_LD of a private region
(R410, R416). -/
def hostRight (s : State) (ld region right : Nat) : Bool :=
  hasRight s (ldOf s ld).berth region right && worldReaches s (ldWorld s ld) region &&
    ((regionOf s region).share || (regionOf s region).privLd == ld)

/-- The region of a line that lies in an accepted extent of a logical device (R24). -/
def acceptedRegion (s : State) (ld line : Nat) : Option Nat :=
  match regionAtLine s line with
  | none => none
  | some r => if (ldOf s ld).accepted.contains r then some r else none

/-- A device-side unit of a berth and world may read (`w` false) or write (`w` true) the region of a line (Table 18.3). -/
def devMay (s : State) (berth : Nat) (world : Bool) (line : Nat) (w : Bool) : Bool :=
  match regionAtLine s line with
  | none => false
  | some r => worldReaches s world r && hasRight s berth r rDevR && (!w || hasRight s berth r rDevW)

/-- An access was refused for a berth (R418). -/
def permRefused (berth : Nat) (s : State) : State := rinc Obj.PERM_REFUSED berth s

/-- The permission epoch current for a berth. -/
def epochOf (s : State) (berth : Nat) : Nat := (berthOf s berth).epoch

/-- Accesses still open under an old epoch of the flipped berths (R421). -/
def oldInflight (s : State) (flipped : List Nat) : Nat :=
  let old (r : Req) : Bool := flipped.contains r.berth && r.epoch != epochOf s r.berth
  (s.mf.waits.filter (fun w => old w.req)).length
  + (s.mf.recalls.filter (fun p => match p.2 with
      | some ⟨_, .request r, _, _, _, _⟩ => old r
      | _ => false)).length
  + (s.ferry.misses.filter old).length
  + (s.mf.ready.filter old).length
  + (s.meters.held.filter (fun h => match h.what with
      | .mem r => old r
      | .atw ld slot => flipped.contains (ldOf s ld).berth && (tget {} s.atw.slots (ld * 512 + slot)).epoch != epochOf s (ldOf s ld).berth
      | _ => false)).length
  + (s.pair.waiting.filter (fun w => old w.2)).length
  + (s.pair.unmacked.filter (fun u => match u.2.2 with
      | some r => old r
      | none => false)).length
  + (s.grid.cores.map (fun c => (c.2.xfers.filter (fun x =>
      let b := (panelOf s (panelOfCore c.1)).berth
      flipped.contains b && x.epoch != epochOf s b)).length)).sum

/-! ## Changes and what they alter (R420) -/

/-- Key of a grant. -/
def grantKey (region berth : Nat) : Nat := region * 64 + berth

/-- The grants after a change. -/
def grantsAfter (g : Tab Nat) : Change → Tab Nat
  | .grant _ region grantee rights => tput 0 g (grantKey region grantee) rights
  | .remove region => tclear g (region * 64) 64
  | .unbind berth => g.filter (fun p => p.1 % 64 != berth)

/-- The grants once every change that is queued has run. -/
def grantsQueued (s : State) : Tab Nat := s.berths.queue.foldl (fun g c => grantsAfter g c.2) s.berths.grants

/-- The berths whose rights a change alters (R420): a removal flips the owner and every grantee. -/
def flips (s : State) : Change → List Nat
  | .grant _ _ grantee _ => [grantee]
  | .remove region => (regionOf s region).owner :: ((trange s.berths.grants (region * 64) 64).map (fun p => p.1 % 64))
  | .unbind berth => [berth]

end Sys2Proof.Machine
end

