-- ==== Sys2Proof/Machine/Book.lean ====
section
/-! DEFINITION. Access to the Pattern Book (R465, R466, R486 to R489): which requests the device carries out, and what a command
object does besides its own effect. -/

namespace Sys2Proof.Machine

/-- Life-cycle states that serve reads of an object: LCR of Table 22.2 (R488). -/
def lcr (o : Obj) : Nat :=
  let base := if o.kind = 2 then 0 else if o.marks.contains .l1 then 0x0E else if o.marks.contains .v then 0x0B else 0x0F
  if o.marks.contains .noSess then base + 16 else base

/-- Life-cycle states that serve writes and commands of an object: LCW of Table 22.2 (R488). -/
def lcw (o : Obj) : Nat :=
  if o.kind = 0 then 0
  else if o.marks.contains .l1 then 0x0E
  else if o.marks.contains .l2 then 0x0A
  else if o.marks.contains .v then 0x0B
  else 0x0F

/-- The object's KIND allows a read (`write` false) or a write or command. -/
def kindAllows (o : Obj) (write : Bool) : Bool := if write then o.kind != 0 else o.kind != 2

/-- Only the objects of marker r are served: in RECOVERY (R460), and while no plane runs (R343). -/
def recoveryOnly (s : State) : Bool := rget Obj.FW_STATE 0 s == 3 || (s.red.stA == 2 && s.red.stB == 2)

/-- Check a request by Table 21.2 from AUTH to ACCESS, in its order: status 0 lets it go on. A RANGE or BUSY failure and what an
owning chapter refuses come after. -/
def accessStatus (o : Obj) (w : Who) (write : Bool) (s : State) : Nat :=
  let lc := rget Obj.LC_STATE 0 s
  if w.role = 0 ∧ (write || !o.marks.contains .noSess) then 0x09
  else if recoveryOnly s && !o.marks.contains .recov then 0x0B
  else if kindAllows o write && !bit (if write then lcw o else lcr o) lc then 0x05
  else if w.role ≠ 0 ∧ w.role < (if write then o.wrole else o.rrole) then 0x03
  else if write && o.marks.contains .secure && !w.secure then 0x04
  else if !kindAllows o write then 0x02
  else 0

/-- Key of a command's result on a path (R489). -/
def cmdKey (o : Obj) (path : Nat) : Nat := path * 16777216 + o.index * 256 + o.sub

/-- The result that a read of a command object on a path returns from now on (R467). -/
def setResult (o : Obj) (path : Nat) (bytes : List Byte) (s : State) : State :=
  { s with cmdRes := tput none s.cmdRes (cmdKey o path) (some bytes) }

/-- An 8-byte result. -/
def setWord (o : Obj) (path v : Nat) (s : State) : State := setResult o path (natLE 8 v) s

/-- A command that changed the configuration record posts its result once the record holds the change (R517), and `change`, if
given, once that permission change is complete (R421). -/
def postResult (o : Obj) (path v : Nat) (change : Option Nat) (s : State) : State :=
  { s with cfg := { s.cfg with posts := s.cfg.posts ++ [⟨cmdKey o path, natLE 8 v, none, change, false, change.isNone⟩] } }

/-- A command on the path has not ended yet: a read of it sets PENDING (R475). -/
def cmdPending (o : Obj) (path : Nat) (s : State) : Bool := s.cfg.posts.any (fun p => p.key == cmdKey o path && p.reply.isNone)

/-- SESSION and SEQ in the header of a Tack message (Table 21.3). -/
def tackSession (bytes : List Byte) : Nat := beNat ((bytes.drop 4).take 4)
def tackSeq (bytes : List Byte) : Nat := beNat ((bytes.drop 8).take 4)

/-- A response leaves on the carrier of its request: a datagram or MCTP message to its source, or the output of the mailbox command
(R473, R481, R482). -/
def sendTack (carrier dst : Nat) (bytes : List Byte) (s : State) : State :=
  if carrier = 2 then emit (.mbox dst 0 (bytes.map (·.toNat))) s else emit (.tack carrier dst bytes) s

/-- A session keeps a response, the last 16 of them; its SEQ no longer waits (R472). -/
def cacheTack (bytes : List Byte) (s : State) : State :=
  match tget none s.tack.sessions (tackSession bytes) with
  | none => s
  | some x =>
    let q := tackSeq bytes
    let y := { x with cache := ((q, bytes) :: x.cache).take 16, waits := x.waits.filter (· != q) }
    { s with tack := { s.tack with sessions := tput none s.tack.sessions (tackSession bytes) (some y) } }

/-- A waiting response belongs to a session. -/
def replyOf (n : Nat) (p : Post) : Bool :=
  match p.reply with
  | some (.tack _ _ b) => tackSession b == n
  | _ => false

/-- A session ends (R473): its copies of the per-path objects, its command results, what it waits for and its open transfer are gone
(R467, R476). -/
def closePath (n : Nat) (s : State) : State :=
  let mine (k : Nat) : Bool := k % 65536 == n &&
    Obj.all.any (fun o => o.marks.contains .path && o.index * 256 + o.sub == k / 65536)
  { s with
    regs := tkeep (fun k => !mine k) s.regs
    cmdRes := tkeep (fun k => k / 16777216 != n) s.cmdRes
    cfg := { s.cfg with posts := s.cfg.posts.filter (fun p => !(p.reply.isNone && p.key / 16777216 == n) && !replyOf n p) }
    jobs := { s.jobs with saveAll := s.jobs.saveAll.filter (· != n) }
    grid := { s.grid with panels := s.grid.panels.map (fun p => (p.1, if p.2.leavePath = some n then { p.2 with leavePath := none } else p.2)) }
    keys := { s.keys with recs := s.keys.recs.map (fun p => (p.1, if p.2.path = n then { p.2 with path := 0 } else p.2)) }
    tack := { s.tack with sessions := tput none s.tack.sessions n none } }

/-- The sessions on the mailbox of a logical device close (R482). -/
def closeMailbox (ld : Nat) (s : State) : State :=
  each s.tack.sessions (fun p s => match p.2 with
    | some x => if x.carrier = 2 ∧ x.src = ld then closePath p.1 s else s
    | none => s) s

/-- Deliver the statuses that wait for nothing more. -/
def deliverPosts (s : State) : State :=
  each s.cfg.posts (fun p s =>
    if p.written && p.drained then
      match p.reply with
      | some (.tack c d b) => sendTack c d b (cacheTack b s)
      | some m => emit m s
      | none => { s with cmdRes := tput none s.cmdRes p.key (some p.bytes) }
    else s) { s with cfg := { s.cfg with posts := s.cfg.posts.filter (fun p => !(p.written && p.drained)) } }

/-- A result whose value the spec does not state. -/
def setUnstated (o : Obj) (path : Nat) (s : State) : State :=
  let (v, s1) := fresh s
  setResult o path (natLE 8 v) s1

/-- The Pattern Book is served: not in reset, and from the end of boot step 3 on (Table 24.3). -/
def bookServed (s : State) : Bool := s.boot.held == 0 && (rget Obj.BOOT_STEP 0 s == 0 || decide (4 ≤ rget Obj.BOOT_STEP 0 s))

/-- A command object is written: refused with the first status of Table 21.2 that applies, with no effect, or run at once in
the Pilot's order (R468, R475). -/
def command (o : Obj) (w : Who) (run : State → State) (s : State) : Answer :=
  let st := accessStatus o w true s
  if !bookServed s then .next s
  else if st = 0 then .next (run (emit (.book w.path 0) s)) else .next (emit (.book w.path st) s)

/-- A command whose argument must lie in a range: another one answers RANGE and has no effect (Table 21.2). -/
def commandIf (ok : Bool) (o : Obj) (w : Who) (run : State → State) (s : State) : Answer :=
  if bookServed s && accessStatus o w true s == 0 && !ok then .next (emit (.book w.path 0x07) s) else command o w run s

/-! ## Objects of the configuration record (R517) -/

/-- Objects the record holds: every RW object that is neither held per path nor in the 0xF000 range (R517). -/
def configObj (o : Obj) : Bool := o.kind == 1 && !o.marks.contains .path && decide (o.index < 0xF000)

/-- Their identities, index × 256 + subindex. -/
def configIds : List Nat := (Obj.all.filter configObj).map (fun o => o.index * 256 + o.sub)

/-- An object's value in the record. -/
def savedReg (o : Obj) (inst : Nat) (s : State) : Nat := tget o.dflt s.cfg.saved.regs (objKey o inst)

/-- The record is in force: from the end of boot step 5 on, and not in RECOVERY, where that step does not run (R514, R517). -/
def recordLive (s : State) : Bool :=
  s.boot.held == 0 && rget Obj.FW_STATE 0 s != 3 && (rget Obj.BOOT_STEP 0 s == 0 || decide (6 ≤ rget Obj.BOOT_STEP 0 s))

/-- The record's objects after a SET that came before the record was in force: those that the SET changed (DESIGN CHOICE). -/
def overlaySaved (before after saved : Tab Nat) : Tab Nat :=
  let at_ (t : Tab Nat) (k : Nat) : Option Nat := (t.find? (fun p => p.1 == k)).map (·.2)
  (((tkeys before ++ tkeys after).filter (fun k => configIds.contains (k / 65536) && at_ before k != at_ after k))).foldl (fun t k =>
    match at_ after k with
    | some v => tput (v + 1) t k v
    | none => tkeep (· != k) t) saved

/-- An object that the configuration record holds is set: the answer waits until the record holds the new value (R517). A value out of
range answers RANGE and changes nothing (Table 21.2). Before the record is in force, it takes the value at once. -/
def setStored (o : Obj) (w : Who) (ok : Bool) (run : State → State) (s : State) : Answer :=
  let st := accessStatus o w true s
  if !bookServed s then .next s
  else if st ≠ 0 then .next (emit (.book w.path st) s)
  else if !ok then .next (emit (.book w.path 0x07) s)
  else
    let s1 := run s
    .next { s1 with cfg := { s1.cfg with
      saved := if recordLive s then s1.cfg.saved else { s1.cfg.saved with regs := overlaySaved s.regs s1.regs s1.cfg.saved.regs }
      posts := s1.cfg.posts ++ [⟨cmdKey o w.path, [], some (.book w.path 0), none, false, true⟩] } }

end Sys2Proof.Machine
end

