-- ==== Sys2Proof/Machine/Clocks.lean ====
section
/-! DEFINITION. Pace, its windows and alerts, and the timebase (R31 to R40). -/

namespace Sys2Proof.Machine

/-- With no command waiting the timebase counts on, unless TSX is out of lock (R41, R46). -/
def idleTick (s : State) : State :=
  if s.clk.tsxHeld then s else { s with clk := { s.clk with tsx := (s.clk.tsx + 1) % 281474976710656 } }

/-- First loop and number of loops of block 0 grid, 1 weave, 2 plane A, 3 plane B, 4 slices, 5 ferry, 6 fixed-function units
(Table 02.1 and the text under Table 02.2). -/
def blockLoops : Nat → Nat × Nat
  | 0 => (0, 60)
  | 1 => (60, 24)
  | 2 => (84, 4)
  | 3 => (88, 4)
  | 4 => (92, 24)
  | 5 => (116, 8)
  | _ => (124, 24)

/-- The published pace of a block. -/
def paceOf (s : State) (block : Nat) : Nat := tget 1000 s.clk.pace block

/-- PACE_MIN: the lowest published pace of the seven blocks. -/
def paceMin (s : State) : Nat := (List.range 7).foldl (fun m b => min m (paceOf s b)) (paceOf s 0)

/-- Loop `n` is faulty. -/
def loopFaulty (s : State) (n : Nat) : Bool := tget 0 s.clk.loopBad n != 0

/-- What a block publishes from its loops (R31, R35). -/
def blockPace (s : State) (block : Nat) : Nat :=
  let (first, n) := blockLoops block
  let good := ((List.range n).map (· + first)).filter (fun k => !loopFaulty s k)
  let slow := good.foldl (fun m k => min m (tget 1000 s.clk.loopPace k)) 65535
  if good.length = n then slow else if good.isEmpty then 600 else min 600 slow

/-- Set the published pace of a block. -/
def setPace (block p : Nat) (s : State) : State :=
  { s with clk := { s.clk with pace := tput 1000 s.clk.pace block p } }

/-- Keep PACE_LOW_WATER at the lowest PACE_MIN. -/
def lowWater (s : State) : State :=
  if paceMin s < rget Obj.PACE_LOW_WATER 0 s then rset Obj.PACE_LOW_WATER 0 (paceMin s) s else s

/-- A loop's reading at the end of a window (R35). The sixteenth faulty window in a row writes a class 2 record and retires a
grid loop's panel or raises a service event. -/
def readLoop (n : Nat) (r : LoopReading) (s : State) : State :=
  let good : Option Nat := match r with
    | .pace p => if p = 0 then none else some p
    | .bad => none
  match good with
  | some p => { s with clk := { s.clk with
      loopBad := tput 0 s.clk.loopBad n 0, loopPace := tput 1000 s.clk.loopPace n p } }
  | none =>
    let k := tget 0 s.clk.loopBad n + 1
    let s1 := { s with clk := { s.clk with loopBad := tput 0 s.clk.loopBad n k } }
    if k = 1 then logError 0xA4 n 1 none 0 s1
    else if k = 16 then
      let s2 := logError 0xA4 n 2 none 0 s1
      if n < 60 then retirePanel 0xA4 n s2 else serviceEvent 0xA4 n s2
    else s1

/-- Compare PACE_MIN with its alert threshold (R37). -/
def paceAlert (s : State) : State :=
  let below := decide (paceMin s < rget Obj.PACE_ALERT_BELOW 0 s)
  let s1 := { s with clk := { s.clk with belowAlert := below } }
  if below && !s.clk.belowAlert then raiseEvent 80 false 0x63 (.pace (paceMin s) (rget Obj.PACE_ALERT_BELOW 0 s)) s1 else s1

/-- A pace window ends (R31): loops are read; measured paces are published unless a VCORE step still holds them back (R34); the
lowest pace is compared with its threshold (R37). -/
def execPaceWindowEnd (readings : List LoopReading) (s : State) : Answer :=
  let s1 := each (List.range 148) (fun n s => readLoop n (readings.getD n .bad) s) s
  let s2 :=
    if 1 < s1.clk.projWindows then { s1 with clk := { s1.clk with projWindows := s1.clk.projWindows - 1 } }
    else each (List.range 7) (fun b s => setPace b (blockPace s b) s)
      { s1 with clk := { s1.clk with projWindows := 0, projecting := false, stamp := now s1 } }
  .next (paceAlert (lowWater s2))

/-- PACE_LOW_WATER takes the current PACE_MIN (Table 02.2). -/
def execPaceLowWaterClear (w : Who) (s : State) : Answer :=
  command Obj.PACE_LOW_WATER_CLEAR w (fun s => setUnstated Obj.PACE_LOW_WATER_CLEAR w.path (rset Obj.PACE_LOW_WATER 0 (paceMin s) s)) s

/-- SYSCLK25 has stopped (R40): FLX, MGX, NIX, SBX and TSX run from the backup oscillator, NIX falls silent and both management
ports go idle. The record's class 1 is DESIGN CHOICE: the spec names its SOURCE and no class. -/
def execSysclk25Loss (s : State) : Answer :=
  if s.clk.backupOsc then .next s
  else .next (logError 0xA5 0 1 none 0 (rset Obj.CLOCK_SOURCE 0 1
    { s with clk := { s.clk with backupOsc := true, nixSilent := true } }))

end Sys2Proof.Machine
end

