-- ==== Sys2Proof/Machine/Flags.lean ====
section
/-! DEFINITION. The twelve element formats (Table 06.2), exact values, rounding, and the four arithmetic flags (R138 to R141,
R155): every computation that can raise invalid, overflow, underflow or inexact. -/

namespace Sys2Proof.Machine

/-- The four flags, in the order of FLAGS[3:0] (Table 07.1), and whether the value was clamped or saturated (R141). -/
structure Fl where
  invalid : Bool := false
  overflow : Bool := false
  underflow : Bool := false
  inexact : Bool := false
  sat : Bool := false
  deriving DecidableEq, Repr

/-- Flags accumulate. -/
def Fl.or (a b : Fl) : Fl :=
  ⟨a.invalid || b.invalid, a.overflow || b.overflow, a.underflow || b.underflow, a.inexact || b.inexact, a.sat || b.sat⟩

/-- FLAGS[3:0]: bit 0 invalid, 1 overflow, 2 underflow, 3 inexact. -/
def Fl.word (f : Fl) : Nat := b2n f.invalid + 2 * b2n f.overflow + 4 * b2n f.underflow + 8 * b2n f.inexact

/-- Rounding modes (R138): 0 RNE, 1 RTZ, 2 RNA. -/
inductive RMode where
  | rne | rtz | rna
  deriving DecidableEq, Repr

def modeOf : Nat → RMode
  | 0 => .rne
  | 1 => .rtz
  | _ => .rna

/-- A value of a format: NaN (signalling or quiet), an infinity, or sign × man × 2^exp exactly. -/
inductive Val where
  | nan (signalling : Bool)
  | inf (neg : Bool)
  | fin (neg : Bool) (man : Nat) (exp : Int)
  deriving DecidableEq, Repr

/-- Element width in bits of a format code (Table 06.2); 64-bit integers have code 0xD and U64 0xC (Table 04.5). -/
def fmtBits : Nat → Nat
  | 0x0 => 64
  | 0x1 => 32
  | 0x2 => 16
  | 0x3 => 16
  | 0x4 => 8
  | 0x5 => 8
  | 0x6 => 6
  | 0x7 => 4
  | 0x8 => 32
  | 0x9 => 16
  | 0xA => 8
  | 0xB => 4
  | _ => 64

/-- A floating format. -/
def isFloat (f : Nat) : Bool := decide (f ≤ 7)

/-- Exponent width, significand width and bias of a floating format (Table 06.2). -/
def fmtShape : Nat → Nat × Nat × Nat
  | 0x0 => (11, 52, 1023)
  | 0x1 => (8, 23, 127)
  | 0x2 => (5, 10, 15)
  | 0x3 => (8, 7, 127)
  | 0x4 => (5, 2, 15)
  | 0x5 => (4, 3, 7)
  | 0x6 => (3, 2, 3)
  | _ => (2, 1, 1)

/-- The format has infinities and IEEE NaNs: codes 0 to 4. -/
def isIeee (f : Nat) : Bool := decide (f ≤ 4)

/-- emax of Table 06.2. -/
def fmtEmax : Nat → Int
  | 0x0 => 1023
  | 0x1 => 127
  | 0x2 => 15
  | 0x3 => 127
  | 0x4 => 15
  | 0x5 => 8
  | 0x6 => 4
  | 0x7 => 2
  | 0x8 => 30
  | 0x9 => 14
  | 0xA => 6
  | _ => 2

/-- Largest finite code of a floating format, without the sign. -/
def maxCode (f : Nat) : Nat :=
  let (e, m, _) := fmtShape f
  if isIeee f then (2 ^ e - 1) * 2 ^ m - 1 else if f = 5 then 0x7E else 2 ^ (e + m) - 1

/-- Canonical NaN of Table 06.2; +0 where the format has none (Table 06.5). -/
def canonNaN : Nat → Nat
  | 0x0 => 0x7FF8000000000000
  | 0x1 => 0x7FC00000
  | 0x2 => 0x7E00
  | 0x3 => 0x7FC0
  | 0x4 => 0x7E
  | 0x5 => 0x7F
  | _ => 0

/-- Two's complement value of an integer code of `w` bits. -/
def signedOf (w c : Nat) : Int := if c % 2 ^ w < 2 ^ (w - 1) then Int.ofNat (c % 2 ^ w) else Int.ofNat (c % 2 ^ w) - 2 ^ w

/-- Two's complement code of an integer in `w` bits. -/
def codeOf (w : Nat) (v : Int) : Nat := (v % (2 ^ w : Int)).toNat

/-- An integer as an exact value. -/
def valOfInt (v : Int) : Val := .fin (decide (v < 0)) v.natAbs 0

/-- The value of a code (R133). -/
def decodeVal (f c : Nat) : Val :=
  if isFloat f then
    let (e, m, bias) := fmtShape f
    let neg := bit c (e + m)
    let ex := bits c m e
    let fr := bits c 0 m
    if isIeee f ∧ ex = 2 ^ e - 1 then
      if fr = 0 then .inf neg else .nan (!bit fr (m - 1))
    else if f = 5 ∧ bits c 0 7 = 0x7F then .nan false
    else if ex = 0 then .fin neg fr (1 - (bias : Int) - m)
    else .fin neg (2 ^ m + fr) ((ex : Int) - bias - m)
  else if f = 0xC then .fin false (c % 2 ^ 64) 0
  else valOfInt (signedOf (fmtBits f) c)

/-- `man` divided by 2^k, rounded to an integer in a mode; and whether bits were lost. -/
def roundShift (mode : RMode) (man k : Nat) : Nat × Bool :=
  let q := man / 2 ^ k
  let r := man % 2 ^ k
  let up : Bool := match mode with
    | .rtz => false
    | .rna => decide (2 ^ k ≤ 2 * r)
    | .rne => decide (2 ^ k < 2 * r) || (decide (2 * r = 2 ^ k) && q % 2 == 1)
  (if k ≠ 0 ∧ up then q + 1 else q, decide (r ≠ 0))

/-- `man` × 2^(exp − q) as an integer, rounded when exp is below q. -/
def quantise (mode : RMode) (man : Nat) (exp q : Int) : Nat × Bool :=
  if q ≤ exp then (man * 2 ^ (exp - q).toNat, false) else roundShift mode man (q - exp).toNat

/-- The sign bit of a floating code. -/
def signBit (f : Nat) (neg : Bool) : Nat := if neg then 2 ^ (fmtBits f - 1) else 0

/-- What a finite overflow gives (Table 06.5). -/
def overflowCode (f : Nat) (mode : RMode) (sat neg : Bool) : Nat :=
  if isIeee f then
    if sat || mode == .rtz then signBit f neg + maxCode f
    else let (e, m, _) := fmtShape f; signBit f neg + (2 ^ e - 1) * 2 ^ m
  else if f = 5 then (if sat || mode == .rtz then signBit f neg + maxCode f else canonNaN f)
  else signBit f neg + maxCode f

/-- Round an exact finite value into a floating format (R138, Table 06.5). `clamp` is R140's clamp to the largest finite. -/
def roundFloat (f : Nat) (mode : RMode) (sat clamp neg : Bool) (man : Nat) (exp : Int) : Nat × Fl :=
  if man = 0 then (signBit f neg, {}) else
  let (_, m, bias) := fmtShape f
  let emin : Int := 1 - (bias : Int)
  let e : Int := exp + (Nat.log2 man : Int)
  let q : Int := if e - (m : Int) < emin - (m : Int) then emin - (m : Int) else e - (m : Int)
  let (n, lost) := quantise mode man exp q
  let (n2, q2) := if n = 2 ^ (m + 1) then (2 ^ m, q + 1) else (n, q)
  let code := if n2 < 2 ^ m then n2 else ((q2 + m + bias).toNat) * 2 ^ m + (n2 - 2 ^ m)
  if maxCode f < code then
    if clamp then (signBit f neg + maxCode f, { inexact := true, sat := true })
    else (overflowCode f mode sat neg,
      { overflow := true, inexact := true, sat := f == 6 || f == 7 || sat || mode == .rtz })
  else (signBit f neg + code, { underflow := lost && decide (e < emin), inexact := lost })

/-- Least and most positive value of an integer format. -/
def intMin (f : Nat) : Int := if f = 0xC then 0 else -(2 ^ (fmtBits f - 1) : Int)
def intMax (f : Nat) : Int := if f = 0xC then 2 ^ 64 - 1 else 2 ^ (fmtBits f - 1) - 1

/-- Round an exact finite value into an integer format, saturating (R138, Table 06.5). -/
def roundInt (f : Nat) (mode : RMode) (clamp neg : Bool) (man : Nat) (exp : Int) : Nat × Fl :=
  let (n, lost) := quantise mode man exp 0
  let v : Int := if neg then -(n : Int) else n
  if intMax f < v then
    (codeOf (fmtBits f) (intMax f), { invalid := !clamp, inexact := clamp, sat := true })
  else if v < intMin f then
    (codeOf (fmtBits f) (intMin f), { invalid := !clamp, inexact := clamp, sat := true })
  else (codeOf (fmtBits f) v, { inexact := lost })

/-- Encode a value into a destination without block scaling (Table 06.5). -/
def encodeVal (f : Nat) (mode : RMode) (sat : Bool) (v : Val) : Nat × Fl :=
  match v with
  | .nan sig =>
    if isFloat f then (canonNaN f, { invalid := sig || f == 6 || f == 7 })
    else (0, { invalid := true })
  | .inf neg =>
    if isIeee f then
      let (e, m, _) := fmtShape f
      (signBit f neg + (2 ^ e - 1) * 2 ^ m, {})
    else if f = 5 then (if sat then signBit f neg + maxCode f else canonNaN f, { overflow := true, sat := sat })
    else if isFloat f then (signBit f neg + maxCode f, { overflow := true, sat := true })
    else (codeOf (fmtBits f) (if neg then intMin f else intMax f), { invalid := true, sat := true })
  | .fin neg man exp => if isFloat f then roundFloat f mode sat false neg man exp else roundInt f mode false neg man exp

/-! ## Exact arithmetic on values -/

/-- A value times 2^k. -/
def scaleVal (k : Int) : Val → Val
  | .fin n m e => .fin n m (e + k)
  | v => v

/-- A value negated. -/
def negVal : Val → Val
  | .fin n m e => .fin (!n) m e
  | .inf n => .inf (!n)
  | v => v

/-- Magnitude. -/
def absVal : Val → Val
  | .fin _ m e => .fin false m e
  | .inf _ => .inf false
  | v => v

/-- The finite value sign × man × 2^exp as an integer multiple of 2^q, for q ≤ exp. -/
def atExp (neg : Bool) (man : Nat) (exp q : Int) : Int :=
  let n : Int := (man * 2 ^ (exp - q).toNat : Nat)
  if neg then -n else n

/-- Exact sum; NaN results and the invalid flag as IEEE 754-2019. An exact zero sum of unlike signs is +0. -/
def addVal (a b : Val) : Val × Fl :=
  match a, b with
  | .nan x, .nan y => (.nan false, { invalid := x || y })
  | .nan x, _ => (.nan false, { invalid := x })
  | _, .nan y => (.nan false, { invalid := y })
  | .inf x, .inf y => if x = y then (.inf x, {}) else (.nan false, { invalid := true })
  | .inf x, _ => (.inf x, {})
  | _, .inf y => (.inf y, {})
  | .fin n1 m1 e1, .fin n2 m2 e2 =>
    if m1 = 0 ∧ m2 = 0 then (.fin (n1 && n2) 0 0, {})
    else
      let q := if e1 < e2 then e1 else e2
      let v := atExp n1 m1 e1 q + atExp n2 m2 e2 q
      (.fin (decide (v < 0)) v.natAbs q, {})

/-- Exact product. -/
def mulVal (a b : Val) : Val × Fl :=
  match a, b with
  | .nan x, .nan y => (.nan false, { invalid := x || y })
  | .nan x, _ => (.nan false, { invalid := x })
  | _, .nan y => (.nan false, { invalid := y })
  | .inf x, .inf y => (.inf (x != y), {})
  | .inf x, .fin n m _ => if m = 0 then (.nan false, { invalid := true }) else (.inf (x != n), {})
  | .fin n m _, .inf y => if m = 0 then (.nan false, { invalid := true }) else (.inf (y != n), {})
  | .fin n1 m1 e1, .fin n2 m2 e2 => (.fin (n1 != n2) (m1 * m2) (e1 + e2), {})

/-- Is `a` below `b`? False when either is NaN. -/
def ltVal (a b : Val) : Bool :=
  match a, b with
  | .nan _, _ => false
  | _, .nan _ => false
  | .inf x, .inf y => x && !y
  | .inf x, _ => x
  | _, .inf y => !y
  | .fin n1 m1 e1, .fin n2 m2 e2 =>
    let q := if e1 < e2 then e1 else e2
    decide (atExp n1 m1 e1 q < atExp n2 m2 e2 q)

/-- Equal as numbers (zeros of both signs are equal). False when either is NaN. -/
def eqVal (a b : Val) : Bool :=
  match a, b with
  | .nan _, _ => false
  | _, .nan _ => false
  | .inf x, .inf y => x == y
  | .inf _, _ => false
  | _, .inf _ => false
  | .fin n1 m1 e1, .fin n2 m2 e2 =>
    let q := if e1 < e2 then e1 else e2
    decide (atExp n1 m1 e1 q = atExp n2 m2 e2 q)

/-- A NaN. -/
def isNan : Val → Bool
  | .nan _ => true
  | _ => false

/-- A signalling NaN. -/
def isSnan : Val → Bool
  | .nan s => s
  | _ => false

/-- The lesser of two numbers, with −0 below +0; a number rather than a NaN (minimumNumber of IEEE 754-2019). -/
def minNumber (a b : Val) : Val × Fl :=
  let fl : Fl := { invalid := isSnan a || isSnan b }
  match a, b with
  | .nan _, .nan _ => (.nan false, fl)
  | .nan _, y => (y, fl)
  | x, .nan _ => (x, fl)
  | x, y =>
    if ltVal x y then (x, fl) else if ltVal y x then (y, fl)
    else match x with
      | .fin true _ _ => (x, fl)
      | _ => (y, fl)

/-- The greater of two numbers (maximumNumber of IEEE 754-2019). -/
def maxNumber (a b : Val) : Val × Fl :=
  let fl : Fl := { invalid := isSnan a || isSnan b }
  match a, b with
  | .nan _, .nan _ => (.nan false, fl)
  | .nan _, y => (y, fl)
  | x, .nan _ => (x, fl)
  | x, y =>
    if ltVal x y then (y, fl) else if ltVal y x then (x, fl)
    else match x with
      | .fin false _ _ => (x, fl)
      | _ => (y, fl)

/-- Round a value that an operation computed exactly, joining the operation's flags with the rounding's. -/
def finish (f : Nat) (mode : RMode) (sat : Bool) (r : Val × Fl) : Nat × Fl :=
  let (c, fl) := encodeVal f mode sat r.1
  (c, r.2.or fl)

/-! ## Integer operations of the atomic window (R79) -/

/-- Integer ADD of width `w`: the wrapped sum, and overflow on a signed overflow or on a carry out of U64. -/
def intAdd (f a b : Nat) : Nat × Fl :=
  let w := fmtBits f
  let sum : Int := if f = 0xC then (a % 2 ^ w : Nat) + (b % 2 ^ w : Nat) else signedOf w a + signedOf w b
  (codeOf w sum, { overflow := decide (intMax f < sum) || decide (sum < intMin f) })

/-- The numeric value of an integer code: unsigned for U64, signed otherwise. -/
def intVal (f c : Nat) : Int := if f = 0xC then (c % 2 ^ 64 : Nat) else signedOf (fmtBits f) c

/-! ## Block scaling (R137, R140) -/

/-- floor(log2) of a positive finite value. -/
def floorLog2 (man : Nat) (exp : Int) : Int := exp + (Nat.log2 man : Int)

/-- The largest magnitude among finite values. -/
def amaxOf (vs : List Val) : Val :=
  vs.foldl (fun m v => match v with
    | .fin _ man exp => if ltVal m (.fin false man exp) then .fin false man exp else m
    | _ => m) (.fin false 0 0)

/-- The scale byte that a block of values chooses (R140), and whether it was clamped at 254. -/
def blockScale (dfmt : Nat) (vs : List Val) : Nat × Bool :=
  if vs.any isNan then (0xFF, false)
  else match amaxOf vs with
    | .fin _ man exp =>
      if man = 0 then (127, false)
      else
        let s := floorLog2 man exp - fmtEmax dfmt + 127
        if s < 0 then (0, false) else if 254 < s then (254, true) else (s.toNat, false)
    | _ => (127, false)

/-- One element of a block-scaled destination (R140): the value over the block's scale, clamped to the largest finite. -/
def encodeScaled (dfmt : Nat) (mode : RMode) (s : Nat) (clamped : Bool) (v : Val) : Nat × Fl :=
  if s = 0xFF then (0, {})
  else match v with
  | .nan _ => (0, {})
  | .inf neg =>
    if isFloat dfmt ∧ isIeee dfmt then encodeVal dfmt mode true (.inf neg)
    else if isFloat dfmt then (signBit dfmt neg + maxCode dfmt, { overflow := true, inexact := true, sat := true })
    else (codeOf (fmtBits dfmt) (if neg then intMin dfmt else intMax dfmt), { overflow := true, inexact := true, sat := true })
  | .fin neg man exp =>
    let e' := exp - ((s : Int) - 127)
    let (c, fl) := if isFloat dfmt then roundFloat dfmt mode true true neg man e' else roundInt dfmt mode true neg man e'
    (c, { fl with overflow := fl.sat && clamped })

/-- A block of values with its scale byte, encoded (R140). -/
def encodeBlock (dfmt : Nat) (mode : RMode) (vs : List Val) : Nat × List Nat × Fl :=
  let (s, clamped) := blockScale dfmt vs
  let es := vs.map (encodeScaled dfmt mode s clamped)
  (s, es.map (·.1), es.foldl (fun a e => a.or e.2) { invalid := vs.any isSnan, overflow := clamped })

/-- The value of an element of a scaled block: NaN for scale byte 0xFF (R137). -/
def scaledVal (f s c : Nat) : Val := if s = 0xFF then .nan false else scaleVal ((s : Int) - 127) (decodeVal f c)

end Sys2Proof.Machine
end

