-- ==== Sys2Proof/Machine/Compress.lean ====
section
/-! DEFINITION. The compressed length of a chunk and of a tile on the far shore (R111 to R115). -/

namespace Sys2Proof.Machine

/-- Bytes of the RLE stream of R113 over an input; `lit` literal bytes wait to be closed. -/
def rleLen : Nat → List Byte → Nat → Nat
  | _, [], lit => if lit = 0 then 0 else lit + 1
  | 0, _, lit => lit
  | fuel + 1, b :: bs, lit =>
    let run := 1 + ((bs.take 129).takeWhile (· == b)).length
    if 3 ≤ run then (if lit = 0 then 0 else lit + 1) + 2 + rleLen fuel ((b :: bs).drop run) 0
    else if lit = 127 then 129 + rleLen fuel bs 0
    else rleLen fuel bs (lit + 1)

/-- Plane `j` of width `w`: bytes j, j + w, j + 2w … (R112). -/
def chunkPlane (w j : Nat) (bs : List Byte) : List Byte := (bs.zipIdx.filter (fun p => p.2 % w == j)).map (·.1)

/-- Planes 0 to `w` − 1 laid end to end. -/
def planesEndToEnd (w : Nat) (bs : List Byte) : List Byte := (List.range w).flatMap (fun j => chunkPlane w j bs)

/-- Bytes of the dictionary coding of a plane (R114): 15 dictionary bytes and the nibble stream. -/
def dictLen (bs : List Byte) : Nat :=
  let counts := ((List.range 256).map (fun v => (bs.filter (fun b => b.toNat == v)).length)).mergeSort (fun a b => decide (b ≤ a))
  let hits := (counts.take 15).sum
  15 + (hits + 3 * (bs.length - hits) + 1) / 2

/-- LENGTH of each METHOD of Table 05.8 for a chunk, from method 0 upwards. -/
def methodLens (bs : List Byte) : List (Nat × Nat) :=
  [(0, 4096)] ++ (if bs.all (· == 0) then [(1, 0)] else []) ++
  [(2, rleLen 4096 bs 0), (3, rleLen 4096 (planesEndToEnd 2 bs) 0), (4, rleLen 4096 (planesEndToEnd 4 bs) 0),
   (5, 2048 + dictLen (chunkPlane 2 1 bs)), (6, 3072 + dictLen (chunkPlane 4 3 bs))]

/-- METHOD and LENGTH of a chunk (R112): the smallest length, the lowest code on ties; only STORED and ZERO with
FERRY_COMPRESS at 0. -/
def chunkCode (allMethods : Bool) (bs : List Byte) : Nat × Nat :=
  if allMethods then (methodLens bs).foldl (fun a p => if p.2 < a.2 then p else a) (0, 4096)
  else if bs.all (· == 0) then (1, 0) else (0, 4096)

/-- LEN of a compressed tile (Table 12.3): its directory and payloads, from the near bytes of the tile at `base`. A chunk
with no byte listed is zero. -/
def tileLen (allMethods : Bool) (near : Tab Byte) (base : Nat) : Nat :=
  64 + ((List.range 16).map (fun k =>
    if (trange near (base + k * 4096) 4096).isEmpty then 0
    else (chunkCode allMethods (loadBytes near (base + k * 4096) 4096)).2)).sum

end Sys2Proof.Machine
end

