-- ==== Sys2Proof/Machine/Shores.lean ====
section
/-! DEFINITION. The two shores: channels, home channels and frames (R96, R97), the line maps of a tag entry (R100), the bytes
of a near line, and booking the slipway (R108 to R110). -/

namespace Sys2Proof.Machine

/-! ## Channels -/

/-- DRAM channel `c`. -/
def chanOf (s : State) (c : Nat) : DramChan := tget {} s.dram.chans c

/-- Change DRAM channel `c`. -/
def modChan (c : Nat) (f : DramChan → DramChan) (s : State) : State :=
  { s with dram := { s.dram with chans := tmod {} s.dram.chans c f } }

/-- Flash channel `c`. -/
def flashOf (s : State) (c : Nat) : FlashChan := tget {} s.flash.chans c

/-- Change flash channel `c`. -/
def modFlash (c : Nat) (f : FlashChan → FlashChan) (s : State) : State :=
  { s with flash := { s.flash with chans := tmod {} s.flash.chans c f } }

/-- DRAM channels in service, ascending (R264). -/
def inService (s : State) : List Nat := (List.range 24).filter (fun c => (chanOf s c).st == 3)

/-- A channel whose contents can be reached: in service or in graceful evacuation. -/
def chanWorks (s : State) (c : Nat) : Bool := (chanOf s c).st == 3 || (chanOf s c).st == 4

/-- Flash channels in service, ascending. -/
def flashInService (s : State) : List Nat := (List.range 32).filter (fun c => (flashOf s c).st == 3)

/-- Usable frames of a channel: its capacity less the 2 GiB device area (R15, R97). -/
def usableFrames (s : State) (c : Nat) : Nat := ((chanOf s c).cap - 2) * tilesPerGib

/-! ## Homes -/

/-- CHMAP entry `j`: what a route change wrote there, or the (j mod N)-th channel of the list CHMAP was filled from (R96). -/
def chmapDflt (s : State) (j : Nat) : Nat := s.ferry.chmapBase.getD (j % s.ferry.chmapBase.length) 0
def chmapAt (s : State) (j : Nat) : Nat := tget (chmapDflt s j) s.ferry.chmap j

/-- Index of a tile from its region's base. -/
def tileIndex (g : Region) (t : Nat) : Nat := t - g.base * tilesPerGib

/-- The home channel a tile's placement gives it (Table 05.1). A mirrored tile whose home does not work is served by the
partner alone (R270). -/
def placeOf (s : State) (t : Nat) : Nat :=
  let hashed := chmapAt s (Config.chmapHash t % 4096)
  match regionAtTile s t with
  | none => hashed
  | some r =>
    let g := regionOf s r
    if g.cls = 1 then
      let p := tileIndex g t % 12
      if chanWorks s p then p else p + 12
    else if g.cls = 3 then g.chans.getD (tileIndex g t % g.chans.length) 0
    else hashed

/-- The home channel of a tile now: its tag entry's for a cached tile, its placement otherwise. -/
def homeOf (s : State) (t : Nat) : Nat :=
  let g := tagOf s t
  if g.st ≠ 0 ∧ g.rsv = false then g.home else placeOf s t

/-- Members of a list of `n` consecutive tiles whose index is `k` modulo `m`. -/
def residueCount (n m k : Nat) : Nat := if k < n then (n - k + m - 1) / m else 0

/-- Reserved frames that a region holds in a channel (R16, R97, R269). -/
def regionFrames (g : Region) (c : Nat) : Nat :=
  let n := g.size * tilesPerGib
  if g.st = 0 then 0
  else if g.cls = 1 then residueCount n 12 (c % 12)
  else if g.cls = 3 then
    ((g.chans.zipIdx.filter (fun p => p.1 == c)).map (fun p => residueCount n g.chans.length p.2)).sum
      - (g.displaced.filter (fun t => g.chans.getD (tileIndex g t % g.chans.length) 0 == c)).length
  else 0

/-- Reserved frames of a channel. -/
def reservedFrames (s : State) (c : Nat) : Nat := (s.regions.map (fun p => regionFrames p.2 c)).sum

/-- Tiles cached in a channel's pool frames, by tile number. -/
def cachedIn (s : State) (c : Nat) : List (Nat × Tag) :=
  s.ferry.tags.filter (fun p => p.2.st != 0 && !p.2.rsv && p.2.home == c)

/-- Frames of a channel's cache pool, and those of them that are free. -/
def poolFrames (s : State) (c : Nat) : Nat := usableFrames s c - reservedFrames s c
def freeFrames (s : State) (c : Nat) : Nat := poolFrames s c - (cachedIn s c).length

/-- The reserved frame that a tile's index gives, counted down from the top of its home channel. -/
def reservedFrame (s : State) (t : Nat) : Nat :=
  match regionAtTile s t with
  | none => 0
  | some r =>
    let q := regionOf s r
    usableFrames s (homeOf s t) - 1 - (q.rsvBase + tileIndex q t / (if q.cls = 1 then 12 else q.chans.length))

/-- A reserved tile that a re-key or a return moved to another frame of its channel records the channel and the frame (R269, R438). -/
def movedFrame (c frame : Nat) : Nat := (c + 1) * 16777216 + frame

/-- Reserved tiles that stand in another frame of a channel than their own. -/
def movedIn (s : State) (c : Nat) : List (Nat × Nat) :=
  (s.ferry.tags.filter (fun p => p.2.rsv && p.2.frame / 16777216 == c + 1)).map (fun p => (p.1, p.2.frame % 16777216))

/-- The lowest frame number no cached tile of the channel uses. DESIGN CHOICE: the spec does not say which frame is taken. -/
def newFrame (s : State) (c : Nat) : Nat :=
  let moved := movedIn s c
  let used := (cachedIn s c).map (fun p => p.2.frame) ++ moved.map (·.2)
  let f := (lowest (used.length + 1) (fun f => !used.contains f)).getD 0
  if f < poolFrames s c then f else ((moved.map (fun m => reservedFrame s m.1)).find? (fun f => !used.contains f)).getD f

/-- Number of the frame that holds a tile: its tag's, or for a reserved tile the one its index gives. -/
def frameOf (s : State) (t : Nat) : Nat :=
  let g := tagOf s t
  if g.rsv then (if g.frame / 16777216 = homeOf s t + 1 then g.frame % 16777216 else reservedFrame s t) else g.frame

/-! ## Line maps and line bytes -/

/-- Number of a line within its tile. -/
def lineIdx (line : Nat) : Nat := line % 1024

/-- Bit `n` of a line map. -/
def mapBit (m : BitVec 1024) (n : Nat) : Bool := m.getLsbD n

/-- The line map with bit `n` set. -/
def mapSet (m : BitVec 1024) (n : Nat) : BitVec 1024 := m ||| (1#1024 <<< n)

/-- The bits of the 64 lines of chunk `k`. -/
def chunkMask (k : Nat) : BitVec 1024 := BitVec.ofNat 1024 ((2 ^ 64 - 1) <<< (64 * k))

/-- The number of set bits of a line map. -/
def mapCount (m : BitVec 1024) : Nat := ((List.range 1024).filter (mapBit m)).length

/-- A line of a resident tile is in place: VALID, or not yet written in a tile that entered from ZERO (R100). -/
def lineThere (g : Tag) (line : Nat) : Bool := mapBit g.valid (lineIdx line) || (g.zb && g.st != 2)

/-- The 64 bytes of a near line. -/
def nearLine (s : State) (line : Nat) : List Byte := loadBytes s.mem.near (line * 64) 64

/-- Byte mask of a whole line, and a mask that covers the whole line. -/
def fullMask : List Bool := List.replicate 64 true
def isFull (mask : List Bool) : Bool := mask.length == 64 && mask.all id

/-- The bytes of `mask`'s range of a near line take those of `data`, and its poison mark follows R396: a full-line write
sets it to `poison`; a partial write keeps a mark and may add one. -/
def putNear (line : Nat) (data : List Byte) (mask : List Bool) (poison : Bool) (s : State) : State :=
  let p := if isFull mask then poison else nearPoisoned s line || poison
  let near := if p then storeBytes s.mem.near (line * 64) (List.replicate 64 0)
              else storeMasked s.mem.near (line * 64) data mask
  setNearPoison line p { s with mem := { s.mem with near := near } }

/-! ## HDM-H regions and HELD -/

/-- A logical device in HDM-H mode holds the region (R28, R103). -/
def hdmhHolds (s : State) (region : Nat) : Bool :=
  s.lds.any (fun p => p.2.enabled && p.2.coh == 1 && p.2.accepted.contains region)

/-- HELD as the ferry's choices see it (R103). -/
def heldNow (s : State) (t : Nat) : Bool :=
  (tagOf s t).held && !(match regionAtTile s t with
    | none => false
    | some r => hdmhHolds s r)

/-! ## The slipway -/

/-- The crossing of a tile, if it has one. -/
def crossingOf (s : State) (t : Nat) : Option Crossing := s.ferry.crossings.find? (fun c => c.tile == t)

/-- Change the crossing of a tile. -/
def modCrossing (t : Nat) (f : Crossing → Crossing) (s : State) : State :=
  { s with ferry := { s.ferry with crossings := modFirst (fun c => c.tile == t) f s.ferry.crossings } }

/-- End the crossing of a tile; both slots are released (R109). -/
def dropCrossing (t : Nat) (s : State) : State :=
  { s with ferry := { s.ferry with crossings := dropFirst (fun c => c.tile == t) s.ferry.crossings } }

/-- Slots a crossing needs: one when its reads are rebuild reads or direct reads (R288). -/
def slotsNeeded (c : Crossing) : Nat := if c.flash = 255 then 1 else 2

/-- The endpoint a crossing books next: the DRAM endpoint first (R109). -/
def nextEndpoint (c : Crossing) : Nat := if c.held = 0 then c.dram else 32 + c.flash

/-- A crossing holds a slot at an endpoint; `d` asks for a demand-only one. -/
def holdsAt (c : Crossing) (e : Nat) (d : Bool) : Bool :=
  (decide (1 ≤ c.held) && c.dram == e && c.dDemand == d)
    || (decide (2 ≤ c.held) && 32 + c.flash == e && c.fDemand == d)

/-- Slots of an endpoint open to every class (Table 05.5). -/
def generalSlots (e : Nat) : Nat := if e < 32 then 22 else 10

/-- An endpoint takes new bookings: its channel is in service (R108, R267, R293). -/
def endpointOpen (s : State) (e : Nat) : Bool :=
  if e < 32 then (chanOf s e).st == 3 else (flashOf s (e - 32)).st == 3

/-- The slot an endpoint can give a crossing now: general, or demand-only for class 0 (R110). From ladder position 28 on none is given in
classes 2 and 3 (R500). -/
def slotFor (s : State) (c : Crossing) (e : Nat) : Option Bool :=
  if !endpointOpen s e || (decide (2 ≤ c.cls) && decide (28 ≤ ladderPos s)) then none
  else if (s.ferry.crossings.filter (fun k => holdsAt k e false)).length < generalSlots e then some false
  else if c.cls = 0 ∧ (s.ferry.crossings.filter (fun k => holdsAt k e true)).length < 2 then some true
  else none

/-- The class a crossing is served in at an endpoint: an aged one as class 0 (R110). -/
def servedClass (c : Crossing) : Nat := if c.aged then 0 else c.cls

/-- Another crossing waits at the endpoint and is served before `c`. -/
def behindOthers (s : State) (c : Crossing) (e : Nat) : Bool :=
  s.ferry.crossings.any (fun k => k.tile != c.tile && k.waiting && nextEndpoint k == e && decide (servedClass k ≤ servedClass c))

/-- The compression lane group with the fewest active crossings among those in use, the lowest on ties (R109). -/
def pickLane (s : State) : Nat :=
  let load (g : Nat) := (s.ferry.crossings.filter (fun c => c.held == slotsNeeded c && c.lane == g)).length
  ((List.range 8).filter (fun g => !s.ferry.lanesOut.contains g)).foldl
    (fun best g => if best = 8 ∨ load g < load best then g else best) 8

/-- A crossing has all its slots and starts: it gets a lane group, and a demotion reads its tile. A cleaning's snapshot
takes the DIRTY bits with it, so that a later write sets them again (R106). -/
def startCrossing (t : Nat) (s : State) : State :=
  match crossingOf s t with
  | none => s
  | some c =>
    let lane := pickLane s
    match c.kind with
    | .promote => modCrossing t (fun c => { c with lane := lane }) s
    | k =>
      let g := tagOf s t
      let s1 := modCrossing t (fun c => { c with
        lane := lane
        snap := trange s.mem.near (t * 65536) 65536
        snapPoison := trange s.mem.nearPoison (t * 1024) 1024
        snapHdr := g.hdr
        snapDirty := g.dirty }) s
      if k = .clean then modTag t (fun g => { g with dirty := 0 }) s1 else s1

/-- Give the crossing of a tile a slot at its next endpoint, or let it wait there (R109, R110). -/
def bookOne (t : Nat) (force : Bool) (s : State) : State :=
  match crossingOf s t with
  | none => s
  | some c =>
    if slotsNeeded c ≤ c.held then s
    else
      let e := nextEndpoint c
      match slotFor s c e with
      | some d =>
        if !force && behindOthers s c e then
          (if c.waiting then s
           else rinc Obj.SLIPWAY_WAITS 0 (modCrossing t (fun c => { c with waiting := true, waitSince := now s }) s))
        else
          let c' := { c with
            held := c.held + 1, aged := false, waiting := false
            dDemand := if c.held = 0 then d else c.dDemand
            fDemand := if c.held = 0 then c.fDemand else d }
          let s1 := { s with ferry := { s.ferry with
            crossings := dropFirst (fun k => k.tile == t) s.ferry.crossings ++ [c'] } }
          if c'.held = slotsNeeded c' then startCrossing t s1 else s1
      | none =>
        if c.waiting then s
        else rinc Obj.SLIPWAY_WAITS 0 (modCrossing t (fun c => { c with waiting := true, waitSince := now s }) s)

/-- Book both endpoints of a tile's crossing as far as free slots allow. -/
def bookAll (t : Nat) (s : State) : State := bookOne t false (bookOne t false s)

/-- Add a crossing and book it. -/
def addCrossing (t : Nat) (kind : CrossKind) (cls flash dram next : Nat) (s : State) : State :=
  bookAll t { s with ferry := { s.ferry with crossings := s.ferry.crossings ++
    [⟨t, kind, cls, flash, dram, 0, false, 8, 0, next, now s, [], [], {}, 0, false, false, false, false, 0, none⟩] } }

/-! ## Promotions and drops -/

/-- The endpoint a promotion reads from: its flash channel while in service, else none (R288). -/
def sourceFlash (s : State) (t : Nat) : Nat :=
  let c := (farOf s t).chan
  if (flashOf s c).st = 3 then c else 255

/-- A clean unheld tile leaves its frame without a crossing: FAR, or ZERO when the far record says so (Table 05.4). -/
def dropTile (t : Nat) (s : State) : State :=
  rinc Obj.FERRY_DROPS 0 { s with
    ferry := { s.ferry with tags := tput (tagDflt s t) s.ferry.tags t {} }
    mem := { s.mem with near := tclear s.mem.near (t * 65536) 65536, nearPoison := tclear s.mem.nearPoison (t * 1024) 1024 } }

/-- Tiles the eviction sweep may choose: not RSV, PIN, STAGE or crossing, and not held back (R119, R397). -/
def mayEvict (s : State) (p : Nat × Tag) : Bool :=
  (p.2.st == 3 || p.2.st == 4) && !p.2.rsv && !p.2.pin && !p.2.stage && !p.2.noDemote
    && !s.mf.ready.any (fun r => tileOfLine r.line == p.1)

/-- Cached tiles of a channel in frame order from where its sweep stopped (R119). -/
def sweepOrder (s : State) (c : Nat) : List (Nat × Tag) :=
  let from_ := tget 0 s.ferry.sweepAt c
  let l := (cachedIn s c).mergeSort (fun a b => decide (a.2.frame ≤ b.2.frame))
  l.filter (fun p => decide (from_ ≤ p.2.frame)) ++ l.filter (fun p => decide (p.2.frame < from_))

/-- A frame in a channel for a demand access: a free one, or that of the first victim of preference 1 (R122). `none` when
there is neither. -/
def frameFor (c : Nat) (s : State) : Option State :=
  if !endpointOpen s c then none
  else if 0 < freeFrames s c then some s
  else match (sweepOrder s c).find? (fun p => mayEvict s p && p.2.st == 3 && !heldNow s p.1) with
    | none => none
    | some p => some (dropTile p.1 s)

/-- Tiles that the sweep of channel `c` still has to handle (DRAM_RETIRE_PROGRESS). -/
def retireLeft (s : State) (c : Nat) : Nat := (cachedIn s c).length

/-- Relocate a cached tile to its new home, near to near: state, tag bits and header stay (R267). It waits while no frame is free
there, or while its crossing goes on at the old channel. -/
def relocate (t : Nat) (s : State) : State :=
  if (crossingOf s t).isSome then s
  else
    let dest := placeOf s t
    match frameFor dest s with
    | none => s
    | some s1 =>
      let frame := newFrame s1 dest
      modTag t (fun g => { g with home := dest, frame := frame }) s1

/-- A cached tile still stands in the retiring channel after the route change that moved its home (R268). Crossings booked before complete
there. -/
def leaving (s : State) (t : Nat) : Bool :=
  match s.dram.retiring with
  | none => false
  | some (c, _) =>
    let g := tagOf s t
    s.dram.step == 4 && g.st != 0 && !g.rsv && g.home == c && placeOf s t != c && (crossingOf s t).isNone

/-- A request for such a tile relocates it at once (R268). -/
def relocateNow (t : Nat) (s : State) : State :=
  if leaving s t then
    let s1 := relocate t s
    rset Obj.DRAM_RETIRE_PROGRESS 0 (retireLeft s1 ((s.dram.retiring.map (·.1)).getD 0)) s1
  else s

/-- Start promoting a FAR tile in class `cls`, its chunk `next` first (R104). `none` when no frame is free. -/
def startPromotion (t cls next : Nat) (s : State) : Option State :=
  let h := placeOf s t
  match frameFor h s with
  | none => none
  | some s1 =>
    let f := farOf s1 t
    let frame := newFrame s1 h
    let s2 := modTag t (fun g => keyTag (keyFor s t) { g with st := 2, home := h, frame := frame, hdr := f.hdr }) s1
    let s3 := addCrossing t .promote cls (sourceFlash s2 t) h next s2
    some (if cls = 0 then rinc Obj.FERRY_DEMAND_MISSES 0 s3 else s3)

/-- A demand meets a promotion: its chunk moves next, and the crossing becomes class 0 (R104, Table 05.6). -/
def demandPromotion (t chunk : Nat) (s : State) : State :=
  match crossingOf s t with
  | none => s
  | some c =>
    let s1 := modCrossing t (fun c => { c with next := if bit c.placed chunk then c.next else chunk, cls := 0 }) s
    if c.cls = 0 then s1 else rinc Obj.FERRY_DEMAND_MISSES 0 s1

/-- An evicting demotion is aborted (R106): the tile returns to NEAR_DIRTY and the far record stays. -/
def abortEvict (t : Nat) (s : State) : State :=
  rinc Obj.FERRY_ABORTS 0 (modTag t (fun g => { g with st := 4 }) (dropCrossing t s))

/-- A cleaning demotion ends without a commit: the lines of its snapshot are dirty again. -/
def abortClean (t : Nat) (s : State) : State :=
  match crossingOf s t with
  | none => s
  | some c => modTag t (fun g => { g with st := 4, dirty := g.dirty ||| c.snapDirty }) (dropCrossing t s)

/-- A tile in ZERO takes a frame for its first write: NEAR_DIRTY with ZB and HELD (Table 05.4). -/
def zeroToNear (t : Nat) (s : State) : Option State :=
  let h := placeOf s t
  match frameFor h s with
  | none => none
  | some s1 =>
    let frame := newFrame s1 h
    some (modTag t (fun g => keyTag (keyFor s t) { g with st := 4, home := h, frame := frame, zb := true, held := true }) s1)

end Sys2Proof.Machine
end

