-- ==== Sys2Proof/Machine/Mirror.lean ====
section
/-! DEFINITION. Sending on the Seam link (R326 to R330, R336 to R338), and mirroring a write of a tandem line (R361, R367). -/

namespace Sys2Proof.Machine

/-- Seam port `p`. -/
def seamOf (s : State) (p : Nat) : SeamPort := tget {} s.seam.ports p

/-- Change Seam port `p`. -/
def modSeam (p : Nat) (f : SeamPort → SeamPort) (s : State) : State :=
  { s with seam := { s.seam with ports := tmod {} s.seam.ports p f } }

/-- A pair is configured (R359). -/
def pairConfigured (s : State) : Bool := rget Obj.PAIR_PARTNER_UNIT 0 s != 0

/-- A port that carries frames (Table 14.2). -/
def portUp (s : State) (p : Nat) : Bool := (seamOf s p).st == 3 || (seamOf s p).st == 4

/-- Lines a message that waits for its reply names: a write, or a FETCH. -/
def msgLines (m : SeamMsg) : List Nat :=
  if m.mtype = 1 ∨ m.mtype = 2 ∨ m.mtype = 4 then (List.range m.n).map (· + m.line) else []

/-- A message of a port without a reply, sent or waiting, names the tile. -/
def owesTile (s : State) (p t : Nat) : Bool :=
  ((seamOf s p).unanswered ++ (seamOf s p).outbox).any (fun m =>
    (m.mtype == 1 || m.mtype == 2 || m.mtype == 4) && tileOfLine m.line == t)

/-- The port a tile's messages go on (R337): SL(T mod 2) while both are up, else the one that is up. After a port came up, the other
goes on carrying the tile's messages until every earlier one has its reply (R338). -/
def portOfTile (s : State) (t : Nat) : Option Nat :=
  if portUp s 0 && portUp s 1 then some (if owesTile s (1 - t % 2) t then 1 - t % 2 else t % 2)
  else if portUp s 0 then some 0
  else if portUp s 1 then some 1
  else none

/-- The lower-numbered port that is up, for claims and pair messages (R337). -/
def lowPort (s : State) : Option Nat := if portUp s 0 then some 0 else if portUp s 1 then some 1 else none

/-! ## Frames -/

/-- Element `k` of a list of four counts, and the list with it changed. -/
def at4 (l : List Nat) (k : Nat) : Nat := l.getD k 0
def put4 (l : List Nat) (k v : Nat) : List Nat := l.set k v

/-- The transmitter holds a credit for a VC (R327): fewer than 384 frames are in the partner's buffer. -/
def hasCredit (q : SeamPort) (vc : Nat) : Bool := decide ((at4 q.sent vc + 4096 - at4 q.freedByPartner vc) % 4096 < 384)

/-- ACKSEQ of a port: the last sequenced frame received in order. -/
def ackSeq (q : SeamPort) : Nat := (q.rxNext + 4095) % 4096

/-- Send one sequenced frame for the first time: it takes the next FSEQ and a credit and joins the replay buffer (R327, R329). -/
def sendFrame (p : Nat) (f : SeamFrame) (s : State) : State :=
  let q := seamOf s p
  let f' := { f with fseq := q.fseq }
  rinc Obj.SEAM_FRAMES_TX p (emit (.seamFrame p f' (ackSeq q) false false) (modSeam p (fun q => { q with
    fseq := (q.fseq + 1) % 4096
    replay := q.replay ++ [(f', 0)]
    sent := put4 q.sent f.vc ((at4 q.sent f.vc + 1) % 4096) }) s))

/-- Send the waiting frames of a list that may go, keeping the order within each VC; `kept` are those that stay, newest first. -/
def pumpGo (p : Nat) : List SeamFrame → List SeamFrame → State → State
  | [], kept, s => modSeam p (fun q => { q with txq := kept.reverse }) s
  | f :: r, kept, s =>
    let q := seamOf s p
    if q.replay.length < 512 ∧ hasCredit q f.vc ∧ !kept.any (fun k => k.vc == f.vc) then pumpGo p r kept (sendFrame p f s)
    else pumpGo p r (f :: kept) s

/-- Send what a port's waiting frames may send. -/
def pump (p : Nat) (s : State) : State := if portUp s p then pumpGo p (seamOf s p).txq [] s else s

/-- Queue frames and send what may go; a wait for credit or for room in the replay buffer is counted once for each frame that
waits (R327, R329). -/
def queueFrames (p : Nat) (fs : List SeamFrame) (s : State) : State :=
  let s1 := pump p (modSeam p (fun q => { q with txq := q.txq ++ fs }) s)
  let q := seamOf s1 p
  if q.txq.isEmpty then s1
  else if 512 ≤ q.replay.length then radd Obj.SEAM_REPLAY_FULL_WAITS p (min fs.length q.txq.length) s1
  else radd Obj.SEAM_CREDIT_WAITS p (min fs.length q.txq.length) s1

/-- Pieces of at most 240 bytes. -/
def pieces : Nat → List Byte → List (List Byte)
  | 0, _ => []
  | n + 1, bs => if bs.isEmpty then [] else bs.take 240 :: pieces n (bs.drop 240)

/-- The 16-byte header of a long message (Table 14.7). -/
def longHeader (m : SeamMsg) : List Byte :=
  let lenm1 := if m.mtype = 2 then m.n - 1 else m.n * 64 - 1
  natLE 16 (m.mtype + m.tag * 2 ^ 5 + lenm1 * 2 ^ 21 + m.line * 2 ^ 48 + m.claim * 2 ^ 96)

/-- A Seam cell: its 8-byte header and 40-byte payload (R336). -/
def cellBytes (m : SeamMsg) : List Byte := natLE 8 (m.mtype + m.tag * 2 ^ 5) ++ (m.bytes ++ List.replicate 40 0).take 40

/-- The frames of a message (R326): one CELL frame, or the DATA frames of a long message. -/
def framesOf (m : SeamMsg) : List SeamFrame :=
  if m.vc = 0 ∨ m.vc = 1 then [⟨1, m.vc, 0, false, false, 1, 48, cellBytes m⟩]
  else
    let ps := pieces 64 (longHeader m ++ m.bytes)
    ps.zipIdx.map (fun p => ⟨2, m.vc, 0, p.2 == 0, p.2 + 1 == ps.length, 0, p.1.length, p.1⟩)

/-- A message whose reply the sender waits for (R338). -/
def wantsReply (m : SeamMsg) : Bool := m.vc == 0 || m.vc == 2

/-- Put a message with its TAG on a port, or let it wait while 2,048 are unanswered there (R337). -/
def putMsg (p : Nat) (m : SeamMsg) (s : State) : State :=
  if !wantsReply m then queueFrames p (framesOf m) s
  else if 2048 ≤ (seamOf s p).unanswered.length then modSeam p (fun q => { q with outbox := q.outbox ++ [m] }) s
  else queueFrames p (framesOf m) (modSeam p (fun q => { q with unanswered := q.unanswered ++ [m] }) s)

/-- The TAG the next request of a port takes. Port 0 takes even ones and port 1 odd ones, so that a message sent again on the other
port keeps a TAG that is unique there (R336, R338). -/
def tagOnPort (s : State) (p : Nat) : Nat := ((seamOf s p).nextTag * 2 + p) % 65536

/-- Send a new request or write on a port: it takes the port's next TAG. -/
def sendMsg (p : Nat) (m : SeamMsg) (s : State) : State :=
  putMsg p { m with tag := tagOnPort s p } (modSeam p (fun q => { q with nextTag := (q.nextTag + 1) % 32768 }) s)

/-- Take messages that waited for room among 2,048 while there is room. -/
def drainOutbox : Nat → Nat → State → State
  | 0, _, s => s
  | n + 1, p, s =>
    match (seamOf s p).outbox with
    | [] => s
    | m :: r =>
      if 2048 ≤ (seamOf s p).unanswered.length then s
      else drainOutbox n p (putMsg p m (modSeam p (fun q => { q with outbox := r }) s))

/-! ## Mirroring (R360, R361, R367) -/

/-- A line of a tandem region. -/
def tandemLine (s : State) (line : Nat) : Bool :=
  match regionAtLine s line with
  | none => false
  | some r => (regionOf s r).cls == 2

/-- A unit that serves tandem regions (Table 15.7). -/
def servesTandem (s : State) : Bool := s.pair.role == 1 || s.pair.role == 4

/-- The 64 MiB span of a line (R367). -/
def spanOf (line : Nat) : Nat := line / 1048576

/-- Mark a span in the resync map. -/
def markSpan (sp : Nat) (s : State) : State :=
  if s.pair.resync.contains sp then s else { s with pair := { s.pair with resync := s.pair.resync ++ [sp] } }

/-- The lines a write's home slice sends for a line as it now stands (R361): MWRITE, or MPOISON for a poison line. -/
def lineMsg (s : State) (line : Nat) : SeamMsg :=
  if nearPoisoned s line then ⟨2, 2, 0, line, 1, s.pair.claim, []⟩
  else ⟨1, 2, 0, line, 1, s.pair.claim, nearLine s line⟩

/-- Writes are mirrored: mirroring is active, or resynchronising (R361, R367). -/
def mirrors (s : State) (line : Nat) : Bool :=
  tandemLine s line && servesTandem s && (s.pair.mirror == 0 || s.pair.mirror == 2)

/-- A path from the partner has been silent for PAIR_HB_LOSS (R363). `heard` is the time it was last heard plus one, 0 for never. -/
def pathSilent (s : State) (heard : Nat) : Bool :=
  pairConfigured s && decide (heard + usTicks (rget Obj.PAIR_HB_LOSS 0 s) < now s + 1)

/-- A claim and UNIT beat another pair: the higher claim, and with equal claims the higher UNIT (R342). -/
def beats (claim unit claim2 unit2 : Nat) : Bool := decide (claim2 < claim) || (claim == claim2 && decide (unit2 < unit))

/-- This unit's UNIT, and the configured partner's. -/
def ownUnit (s : State) : Nat := unitId s
def partnerUnit (s : State) : Nat := rget Obj.PAIR_PARTNER_UNIT 0 s

/-- The management path shows a partner that is STANDBY or STALE with a lower claim (R367). -/
def mgmtShows (s : State) : Bool :=
  !pathSilent s s.pair.heardMgmt && (s.pair.partnerRole == 2 || s.pair.partnerRole == 3)
    && beats s.pair.claim (ownUnit s) s.pair.partnerClaim (partnerUnit s)

/-- A write to a tile under verification makes its result void (R369). -/
def dropVerify (t : Nat) (s : State) : State :=
  match s.pair.verify with
  | some v => if v.1 = t then { s with pair := { s.pair with verify := none } } else s
  | none => s

/-- Mirroring is suspended (R367): the unit runs as SOLO (Table 15.7). -/
def setSuspended (s : State) : State := { s with pair := { s.pair with mirror := 1, role := if s.pair.role = 1 then 4 else s.pair.role } }

/-- A write reached the write queue of a tandem line (R361): it is mirrored, or its span is marked while mirroring is not active
(R367). The answer is the port and TAG of the message whose MACK the write waits for. With no port up mirroring is suspended when
the management path still shows the partner; else the write waits for what the pair decides, with no port and no TAG. -/
def mirrorWrite (line : Nat) (s0 : State) : State × Option (Nat × Nat) :=
  let s := dropVerify (tileOfLine line) s0
  if !tandemLine s line then (s, none)
  else if mirrors s line then
    match portOfTile s (tileOfLine line) with
    | some p => (sendMsg p (lineMsg s line) s, some (p, tagOnPort s p))
    | none =>
      let s1 := markSpan (spanOf line) s
      if mgmtShows s then (setSuspended s1, none) else (s1, some (2, 65536))
  else if servesTandem s then (markSpan (spanOf line) s, none)
  else (s, none)

/-! ## Pair messages (R370) -/

/-- Payload of a pair message (Table 15.10). -/
def pairPayload (s : State) (op status time arg1 arg2 : Nat) : List Byte :=
  natLE 4 (op + s.pair.role * 256 + status * 65536) ++ natLE 4 s.pair.claim ++ natLE 8 (unitId s)
    ++ natLE 8 time ++ natLE 8 arg1 ++ natLE 8 arg2

/-- Firmware matches the partner's (R462): equal set identifiers, and both units FULL or FLAGGED. The partner's limp mode shows in
bit 10 of its HEALTH. -/
def fwMatches (s : State) : Bool :=
  s.pair.partnerSet == fwSetId s && decide (rget Obj.FW_STATE 0 s ≤ 1) && !bit s.pair.partnerHealth 10

/-- Keys and firmware match the partner's, so that mirroring may be active (R442, R462). -/
def pairMatched (s : State) : Bool := s.pair.partnerSeen && rget Obj.PAIR_KEY_MATCH 0 s == 1 && fwMatches s

/-- Frames may leave for the partner's management address. Nothing goes there without a pair secret (R480). -/
def mgmtOpen (s : State) : Bool := rget Obj.PAIR_SECRET 0 s != 0 && !s.clk.nixSilent

/-- Send a pair request on the Seam (R337), and on the management path when `mgmt`. -/
def pairReq (op time arg1 arg2 : Nat) (mgmt : Bool) (s : State) : State :=
  let bytes := pairPayload s op 0 time arg1 arg2
  let s1 := match lowPort s with
    | some p => sendMsg p ⟨9, 0, 0, 0, 0, 0, bytes⟩ s
    | none => s
  if mgmt && mgmtOpen s1 then emit (.pairMgmt bytes) s1 else s1

/-- A line as memory holds it now, and whether it is poison: the near copy where the line is in place, else the far copy, else zeros. -/
def lineNow (s : State) (line : Nat) : List Byte × Bool :=
  let t := tileOfLine line
  let g := tagOf s t
  if g.st ≠ 0 ∧ lineThere g line then (nearLine s line, nearPoisoned s line)
  else if (farOf s t).kind = 1 then (loadBytes s.mem.far (line * 64) 64, tget false s.mem.farPoison line)
  else (List.replicate 64 0, false)

/-- Bit 42 of a device unit marks the writes of the partner; below it stand the TAG and the port. -/
def seamBase : Nat := 2 ^ 42

/-- MACK (Table 14.8): a status and this unit's claim. -/
def sendMack (p tag status : Nat) (s : State) : State :=
  putMsg p ⟨3, 1, tag, 0, 0, 0, natLE 4 status ++ natLE 4 s.pair.claim⟩ s

/-- Send the MACKs of the writes at the head of those being applied that have no line left. -/
def flushMacks : List (Nat × Nat × Nat) → State → State
  | (p, tag, 0) :: r, s => flushMacks r (sendMack p tag 0 { s with seam := { s.seam with applying := r } })
  | _, s => s

/-- A line of a partner's write is in its home slice's write queue. -/
def seamApplied (u : Nat) (s : State) : State :=
  let p := u % 2
  let tag := (u - seamBase) / 2
  let l := modFirst (fun a => a.1 == p && a.2.1 == tag) (fun a => (a.1, a.2.1, a.2.2 - 1)) s.seam.applying
  flushMacks l { s with seam := { s.seam with applying := l } }

end Sys2Proof.Machine
end

