-- ==== Sys2Proof/Machine/Home.lean ====
section
/-! DEFINITION. The home slice and the manifest (chapters 3 and 4, R96 to R107): entries and predictor records in both planes,
recalls, the line order, and what an access finds when it reaches the near shore. -/

namespace Sys2Proof.Machine

/-! ## Sets and planes -/

/-- Number of the set of a line under a set count factor `k` (R51, R52; `k` is 4 for the full count). -/
def setAt (k line : Nat) : Nat := (Config.tileHash (tileOfLine line) % (32768 * k)) * 64 + line % 64

/-- The set of a line now: the old count until its re-map marker has passed (R52). -/
def setOf (s : State) (line : Nat) : Nat :=
  let old := setAt s.mf.setK line
  if s.mf.newK ≠ s.mf.setK ∧ s.mf.remapDone.contains old then setAt s.mf.newK line else old

/-- Two lines have one set. Lines of different [5:0] never have, and lines of one tile with equal [5:0] always have. -/
def sameSet (s : State) (a b : Nat) : Bool :=
  a % 64 == b % 64 && (tileOfLine a == tileOfLine b || setOf s a == setOf s b)

/-- A plane in this state applies a request to a line of set `set` (Table 15.1, R354). -/
def planeApplies (s : State) (st : Nat) (line : Nat) : Bool :=
  st == 0 || st == 1 || (st == 3 && s.red.copied.contains (setOf s line))

/-- Plane A leads, or carries on alone while its takeover has not been announced yet. -/
def leaderIsA (s : State) : Bool := s.red.stA == 0 || (s.red.stB != 0 && (s.red.stA == 1 || s.red.stB != 1))

/-- The plane whose commands the output stages accept (R345). -/
def leadPlane (s : State) : Plane := if leaderIsA s then s.mf.planeA else s.mf.planeB

/-- Apply a change to the tables of every plane that applies requests to the line. -/
def onPlanes (line : Nat) (f : Plane → Plane) (s : State) : State :=
  { s with mf := { s.mf with
    planeA := if planeApplies s s.red.stA line then f s.mf.planeA else s.mf.planeA
    planeB := if planeApplies s s.red.stB line then f s.mf.planeB else s.mf.planeB } }

/-- The entry of a line; FREE when it has none. -/
def entryOf (s : State) (line : Nat) : MfEntry := tget {} (leadPlane s).entries line

/-- The AHT record of a line. -/
def ahtOf (s : State) (line : Nat) : AhtRec := tget {} (leadPlane s).aht line

/-- Keep the record of the most entries in use (MF_TRACKED_HIGH). -/
def trackHigh (s : State) : State :=
  rmax Obj.MF_TRACKED_HIGH 0 (max s.mf.planeA.entries.length s.mf.planeB.entries.length) s

/-- Write the entry of a line; FREE removes it. -/
def setEntry (line : Nat) (e : MfEntry) (s : State) : State :=
  trackHigh (onPlanes line (fun p => { p with entries := tput {} p.entries line e }) s)

/-- Agents in a sharer set. -/
def agentsIn (m : BitVec 64) : List Nat := (List.range 64).filter (fun n => m.getLsbD n)

/-- A sharer set with or without one agent. -/
def withAgent (m : BitVec 64) (a : Nat) : BitVec 64 := m ||| (1#64 <<< a)
def withoutAgent (m : BitVec 64) (a : Nat) : BitVec 64 := m &&& ~~~(1#64 <<< a)

/-! ## The predictor (R82 to R84) -/

/-- C of a line (R82). -/
def predC (s : State) (line : Nat) : Nat :=
  if (entryOf s line).st = .free then (ahtOf s line).c else (entryOf s line).atomic

/-- LAST of a line (R82). -/
def predLast (s : State) (line : Nat) : Option Nat :=
  let e := entryOf s line
  match e.st with
  | .o | .ro => some e.owner
  | .s | .rs => none
  | .free => (ahtOf s line).last

/-- Lines of AHT records that share the set of a line (R83). -/
def ahtPeers (p : Plane) (line : Nat) : Tab AhtRec :=
  p.aht.filter (fun q => q.1 != line && Config.ahtHash q.1 % 4096 == Config.ahtHash line % 4096)

/-- The record a full set replaces: the lowest C, then the lowest way (R83). -/
def ahtVictim : Tab AhtRec → Option (Nat × AhtRec)
  | [] => none
  | q :: r => match ahtVictim r with
    | none => some q
    | some v => if v.2.c < q.2.c ∨ (v.2.c = q.2.c ∧ v.2.way < q.2.way) then some v else some q

/-- A plane with an AHT record for a line, replacing the lowest one of a full set. -/
def putAht (line c : Nat) (last : Option Nat) (touched : Bool) (p : Plane) : Plane :=
  if c = 0 ∧ last = none then { p with aht := tput {} p.aht line {} }
  else if p.aht.length < 16 ∨ (tget {} p.aht line).used ∨ (ahtPeers p line).length < 16 then
    let old := tget {} p.aht line
    let way := if old.used then old.way
      else if p.aht.isEmpty then 0
      else (lowest 16 (fun w => !(ahtPeers p line).any (fun q => q.2.way == w))).getD 0
    { p with aht := tput {} p.aht line ⟨true, c, last, touched, way⟩ }
  else match ahtVictim (ahtPeers p line) with
    | none => p
    | some v => { p with aht := tput {} (tput {} p.aht v.1 {}) line ⟨true, c, last, touched, v.2.way⟩ }

/-- Write a line's AHT record in both planes, counting a replacement. -/
def setAht (line c : Nat) (last : Option Nat) (touched : Bool) (s : State) : State :=
  let p := leadPlane s
  let full := !(decide (c = 0) && last.isNone) && decide (16 ≤ p.aht.length) && !(tget {} p.aht line).used
    && decide (16 ≤ (ahtPeers p line).length)
  let s1 := onPlanes line (putAht line c last touched) s
  if full then rinc Obj.AHT_EVICTIONS 0 s1 else s1

/-- Free the entry of a line and keep C and LAST in the AHT (R82). -/
def freeEntry (line : Nat) (last : Option Nat) (s : State) : State :=
  let e := entryOf s line
  if e.st = .free then s else setAht line e.atomic last false (setEntry line {} s)

/-- Set C of a line where it stands. -/
def setC (line c : Nat) (s : State) : State :=
  let e := entryOf s line
  if e.st = .free then s else setEntry line { e with atomic := c } s

/-! ## The line order -/

/-- A line is being recalled. -/
def recalling (s : State) (line : Nat) : Bool :=
  (entryOf s line).st == .rs || (entryOf s line).st == .ro

/-- The line is being fetched from the partner unit (R258, Table 11.9). -/
def fetching (s : State) (line : Nat) : Bool := s.seam.fetches.any (fun f => f.why != .seal && f.want.contains line)

/-- A request to the line must wait behind its recall, an earlier request or a home execution (R54, R57, R88). -/
def lineBusy (s : State) (line : Nat) : Bool :=
  recalling s line || s.mf.waits.any (fun w => w.req.line == line) || s.mf.ready.any (fun r => r.line == line) || fetching s line

/-- The recall of a line. -/
def recallOf (s : State) (line : Nat) : Option Recall := tget none s.mf.recalls line

def setRecall (line : Nat) (r : Option Recall) (s : State) : State :=
  { s with mf := { s.mf with recalls := tput none s.mf.recalls line r } }

/-- Put a request at the end, or (`front`) at the head, of the waiting requests. -/
def addWait (front : Bool) (r : Req) (why : WaitWhy) (s : State) : State :=
  { s with mf := { s.mf with waits := if front then ⟨r, why⟩ :: s.mf.waits else s.mf.waits ++ [⟨r, why⟩] } }

/-! ## Answers -/

/-- A response leaves for the host of a logical device, poisoned if its agent has died (R69), or is discarded because its
link is down (R317). -/
def toHost (ld tag : Nat) (c : Cmp) (data : Option (List Byte)) (poison : Bool) (s : State) : State :=
  let h := linkOfLd s ld
  let dead := (ldOf s ld).agent != 0xFF && ((agentOf s (ldOf s ld).agent).st == 2 || (agentOf s (ldOf s ld).agent).st == 3)
  if (ldOf s ld).enabled && linkServes s h then
    let load := devLoad s ld
    emit (.memRsp ld tag c data (poison || (dead && data.isSome)) load) (if load = 3 then rinc Obj.PMETER_DEVLOAD_SEVERE (h / 2) s else s)
  else rinc Obj.HL_RESP_DISCARDS h s

/-- Both planes run, one leading and one following (R344). -/
def tandemMode (s : State) : Bool := (s.red.stA == 0 && s.red.stB == 1) || (s.red.stA == 1 && s.red.stB == 0)

/-- The landing passes the first plane answer on and keeps a record of it until the second comes (R346). -/
def recordMerge (r : Req) (s : State) : State :=
  if tandemMode s then { s with red := { s.red with merges := s.red.merges ++ [⟨r.link, r.seq, r.line, r.cmp⟩] } } else s

/-- The answer to an access: a response for a host, or a served access that the device unit has still to take. -/
def answer (r : Req) (data : Option (List Byte)) (poison : Bool) (s : State) : State :=
  match r.src with
  | .host ld tag =>
    let s1 := recordMerge r (toHost ld tag r.cmp data poison s)
    let mine (c : Nat × Nat) : Bool := some c.1 == r.agent && c.2 == r.line
    if s1.mf.conflicts.any mine then
      each (s1.mf.conflicts.filter mine) (fun c s => emit (.conflictAck c.1 c.2) s)
        { s1 with mf := { s1.mf with conflicts := s1.mf.conflicts.filter (fun c => !mine c) } }
    else s1
  | .dev 0xFFFF | .dev 0xFFFE => s
  | .dev 0xFFFD => rinc Obj.WEAVE_LATE_REPLIES 0 s
  | .core _ _ | .dev _ =>
    if (match r.src with | .dev u => decide (seamBase ≤ u) | _ => false) then
      (match r.src with | .dev u => seamApplied u s | _ => s)
    else { s with mf := { s.mf with served := s.mf.served ++ [⟨r.src, r.line, data.getD [], poison⟩] } }
  | .atw _ _ | .amo _ => s

/-! ## Near-shore accesses -/

/-- Any access sets REF and the age mark (R100, R121). -/
def touchTag (t : Nat) (s : State) : State :=
  if (tagOf s t).st = 0 then s else modTag t (fun g => { g with ref := true, accessed := true }) s

/-- The watches of a list on a tile end. -/
def dropWatches (t : Nat) (ws : List Watch) : List Watch := ws.map (fun w => if w.tile = t then { w with intact := false } else w)

/-- Key of the descriptor that writes as unit `u` (its destination writes come from unit 2⁴¹ + its key). -/
def convBase : Nat := 2 ^ 41

/-- A write of another writer reaches a tile that a descriptor reads or writes (R144). -/
def touchConv (t : Nat) (writer : Option Nat) (key : Nat) (r : ConvRun) : ConvRun :=
  { r with
    srcIntact := r.srcIntact && !(r.src == some t && writer != some (convBase + key))
    dstIntact := r.dstIntact && !(r.dst == some t && writer != some (convBase + key)) }

/-- Other panels' watches on a tile end (R182), those of saved jobs among them (R215). `panel` is the writing panel, or a
descriptor's writing unit. -/
def endWatches (t : Nat) (panel : Option Nat) (s : State) : State :=
  { s with
    grid := { s.grid with panels := s.grid.panels.map (fun p =>
      if some p.1 = panel then p else (p.1, { p.2 with watches := dropWatches t p.2.watches })) }
    jobs := { s.jobs with
      jobs := s.jobs.jobs.map (fun q => (q.1, q.2.map (fun j =>
        { j with saved := j.saved.map (fun v => { v with watches := dropWatches t v.watches }) })))
      convs := s.jobs.convs.map (fun q => (q.1, q.2.map (touchConv t panel q.1))) } }

/-- A write to a line of a resident tile: bytes and poison (R396), VALID and DIRTY, SEALED cleared (R131), the tile
NEAR_DIRTY, an evicting demotion aborted (R106), other panels' watches ended (R182). -/
def writeLine (line : Nat) (data : List Byte) (mask : List Bool) (poison : Bool) (panel : Option Nat) (s : State) : State :=
  let t := tileOfLine line
  let s0 := match crossingOf s t with
    | some c => if c.kind = .evict then abortEvict t s else modCrossing t (fun c => { c with written := true }) s
    | none => s
  endWatches t panel (modTag t (fun g => { g with
      valid := mapSet g.valid (lineIdx line), dirty := mapSet g.dirty (lineIdx line)
      st := if g.st = 3 then 4 else g.st
      hdr := { g.hdr with sealed := false }
      ref := true, accessed := true
      kept := if g.checking then mapSet g.kept (lineIdx line) else g.kept })
    (putNear line data mask poison s0))

/-- The mask of a write, and whether it covers the whole line. -/
def writeMask : ReqKind → Option (List Bool)
  | .memWr _ _ _ => some fullMask
  | .memWrPtl _ _ mask _ => some mask
  | .devWrite _ mask _ => some mask
  | _ => none

/-- The answer of a request leaves its agent holding a line. -/
def leavesHolder (r : Req) : Bool :=
  r.agent.isSome && (match r.kind with
    | .memRd .s | .memRd .a | .memRdData | .memInv .s | .memInv .a => true
    | .memWr .s _ _ | .memWr .a _ _ | .memWrPtl .s _ _ _ | .memWrPtl .a _ _ _ => r.cmp != .cmp
    | _ => false)

/-- What an access does to the tag of a resident tile besides its data: HELD when its answer leaves a holder, an evicting
demotion aborted by such an answer (R106), ABANDON for a host's request in RECALLING (R107). -/
def meetTile (r : Req) (s : State) : State :=
  let t := tileOfLine r.line
  let g := tagOf s t
  let s1 := if leavesHolder r then
      (match crossingOf s t with
       | some c => if c.kind = .evict then abortEvict t s else s
       | none => s)
    else s
  let s2 := if leavesHolder r && g.st != 0 then modTag t (fun g => { g with held := true }) s1 else s1
  let s3 := match r.src with
    | .host _ _ =>
      if g.st = 5 ∧ g.abandon = false then rinc Obj.FERRY_ABANDONS 0 (modTag t (fun g => { g with abandon := true }) s2) else s2
    | _ => s2
  touchTag t s3

/-- The panel an access comes from, or the writing unit of a descriptor. -/
def panelOfSrc : Src → Option Nat
  | .core c _ => some (panelOfCore c)
  | .amo c => some (panelOfCore c)
  | .dev u => if convBase ≤ u then some u else none
  | _ => none

/-- A write is in its home slice's write queue: it is mirrored if its region is tandem, and a host's completion then waits for
the MACK (R361). -/
def finishWrite (r : Req) (s : State) : State :=
  match mirrorWrite r.line s, r.src with
  | (s1, some (p, tag)), .host _ _ => { s1 with pair := { s1.pair with unmacked := s1.pair.unmacked ++ [(p, tag, some r)] } }
  | (s1, _), _ => answer r none false s1

/-- Carry out an access whose line is in place, and answer it. A home execution joins those its fixed-function unit has
still to do. -/
def perform (r : Req) (s : State) : State :=
  let s1 := meetTile r s
  match r.kind with
  | .memRd _ | .memRdData | .devRead => answer r (some (nearLine s1 r.line)) (nearPoisoned s1 r.line) s1
  | .memInv _ | .clnEvct => answer r none false s1
  | .memWr _ data poison => finishWrite r (writeLine r.line data fullMask poison (panelOfSrc r.src) s1)
  | .memWrPtl _ data mask poison => finishWrite r (writeLine r.line data mask poison (panelOfSrc r.src) s1)
  | .devWrite data mask poison => finishWrite r (writeLine r.line data mask poison (panelOfSrc r.src) s1)
  | .window _ _ _ _ _ _ => { s1 with mf := { s1.mf with ready := s1.mf.ready ++ [r] } }

/-- A read of a line that has no frame because its tile is ZERO: zeros, and no frame (Table 05.4). -/
def performZero (r : Req) (s : State) : State :=
  match r.kind with
  | .memRd _ | .memRdData | .devRead => answer r (some (List.replicate 64 0)) false s
  | _ => perform r s

/-- Whether an access needs a frame on a ZERO tile. -/
def needsFrame : ReqKind → Bool
  | .memWr _ _ _ | .memWrPtl _ _ _ _ | .devWrite _ _ _ => true
  | _ => false

/-- One attempt at the data of an access (R104, R105, Table 05.4): it is carried out, or it waits; `true` means it was. A tile that still
stands in a retiring channel moves first (R268). -/
def tryAccess (r : Req) (s0 : State) : State × Bool :=
  let t := tileOfLine r.line
  let s := relocateNow t s0
  let g := tagOf s t
  let chunk := lineIdx r.line / 64
  if leaving s t then (s, false)
  else if g.st = 0 then
    if (farOf s t).kind = 0 then
      if needsFrame r.kind then
        match zeroToNear t s with
        | some s1 => (perform r s1, true)
        | none => (s, false)
      else (performZero r s, true)
    else match startPromotion t 0 chunk s with
      | some s1 =>
        (match writeMask r.kind with
         | some m => if isFull m then (perform r s1, true) else (s1, false)
         | none => (s1, false))
      | none => (s, false)
  else if g.st = 2 ∧ !mapBit g.valid (lineIdx r.line) then
    match writeMask r.kind with
    | some m => if isFull m then (perform r s, true) else (demandPromotion t chunk s, false)
    | none => (demandPromotion t chunk s, false)
  else (perform r s, true)

/-- An access at the near shore: behind earlier accesses of its line that wait there, else tried at once. The first wait for
a frame is counted (R122). A request that only gives up a copy needs no line. -/
def access (r : Req) (s : State) : State :=
  if r.kind = .clnEvct ∨ r.kind = .memInv .i then answer r none false s
  else if s.ferry.misses.any (fun q => q.line == r.line) then
    { s with ferry := { s.ferry with misses := s.ferry.misses ++ [r] } }
  else
    let (s1, done) := tryAccess r s
    if done then s1
    else
      let s2 := { s1 with ferry := { s1.ferry with misses := s1.ferry.misses ++ [r] } }
      if (tagOf s2 (tileOfLine r.line)).st = 0 ∨ leaving s2 (tileOfLine r.line) = true then rinc Obj.FERRY_FRAME_WAITS 0 s2 else s2

/-- Try each access of a list once, in order, behind earlier ones of its line that still wait; `kept` are those, newest
first. -/
def serveGo : List Req → List Req → State → State
  | [], kept, s => { s with ferry := { s.ferry with misses := kept.reverse } }
  | r :: rest, kept, s =>
    if kept.any (fun q => q.line == r.line) then serveGo rest (r :: kept) s
    else
      let (s1, done) := tryAccess r { s with ferry := { s.ferry with misses := kept.reverse ++ rest } }
      serveGo rest (if done then kept else r :: kept) s1

/-- Try every access that waits at the near shore once. -/
def serveMisses (s : State) : State := serveGo s.ferry.misses [] s

/-- Data that a host wrote back during a recall is written to its line (R53); it is an ordinary full-line write that no one
waits for. -/
def writeBack (line : Nat) (data : List Byte) (poison : Bool) (s : State) : State :=
  access ⟨.dev 0xFFFF, none, line, .devWrite data fullMask poison, 0xFF, 0, false, 0, 0, now s, .cmp⟩ s

/-- Poison written for a dead agent's line (R67). -/
def poisonLine (line : Nat) (s : State) : State := writeBack line (List.replicate 64 0) true s

/-! ## Dead agents (R65 to R69) -/

/-- An agent whose entries are to be resolved (Table 03.8 states 2 and 3). -/
def agentDead (s : State) (a : Nat) : Bool := (agentOf s a).st == 2 || (agentOf s a).st == 3

/-- Record one line poisoned for a dead agent (R68): in the log while it has room, else counted as lost. -/
def logDead (line agent : Nat) (s : State) : State :=
  let rec_ : DeadRec := match regionAtLine s line with
    | some r => ⟨line, agent, (regionOf s r).owner, now s, r⟩
    | none => ⟨line, agent, 0, now s, 0x1FFF⟩
  let s1 := raiseEvent 80 false 0x60 (.dead rec_) (modAgent agent (fun a => { a with poisoned := a.poisoned + 1 }) s)
  if s1.mf.deadLog.length < 65536 then { s1 with mf := { s1.mf with deadLog := s1.mf.deadLog ++ [rec_] } }
  else rinc Obj.DEAD_POISON_LOG_LOST 0 s1

/-- An owned line of a dead agent becomes poison, with its record, and its entry is freed (R66 to R68). -/
def poisonOwned (line agent : Nat) (s : State) : State :=
  poisonLine line (logDead line agent (freeEntry line (some agent) s))

/-- Resolve an entry in S or O that names dead agents (R66). -/
def purgeDead (line : Nat) (s : State) : State :=
  let e := entryOf s line
  match e.st with
  | .o => if agentDead s e.owner then poisonOwned line e.owner s else s
  | .s =>
    let keep := (agentsIn e.sharers).foldl (fun m a => if agentDead s a then withoutAgent m a else m) e.sharers
    if keep = e.sharers then s
    else if keep = 0 then freeEntry line none s
    else setEntry line { e with sharers := keep } s
  | _ => s

/-! ## Recalls -/

/-- The port of an agent's landing. -/
def portOfAgent (s : State) (a : Nat) : Nat := ((ldOfAgent s a).map portOfLd).getD 0

/-- Send one BISnp under one of the landing's 512 credits, or keep it in the plane until one returns (R226). -/
def sendSnp (line a : Nat) (k : Snp) (s : State) : State :=
  let p := portOfAgent s a
  let used := tget 0 s.weave.snpUsed p
  if used < 512 then emit (.bisnp a line k) { s with weave := { s.weave with snpUsed := tput 0 s.weave.snpUsed p (used + 1) } }
  else rinc Obj.WEAVE_BISNP_CREDIT_WAITS 0 { s with weave := { s.weave with snpWait := s.weave.snpWait ++ [(a, line, k)] } }

/-- Send BISnps to the agents of a line's recall (R60). -/
def sendSnps (line : Nat) (agents : List Nat) (k : Snp) (s : State) : State :=
  radd Obj.MF_RECALLS 0 agents.length (each agents (fun a s => sendSnp line a k s) s)

/-- Recall a line from its owner or from `agents` of its sharers: the entry enters RO or RS (Table 03.3, R70). -/
def startRecall (line : Nat) (agents : List Nat) (k : Snp) (why : RecallWhy) (discard keepOthers : Bool) (s : State) : State :=
  let e := entryOf s line
  let asked := agents.foldl withAgent 0
  let e' := if e.st = .o then { e with st := .ro } else { e with st := .rs, sharers := asked }
  let keep := if keepOthers && e.st == .s then e.sharers &&& ~~~asked else 0
  sendSnps line agents k (setRecall line (some ⟨k, why, now s, false, discard, keep⟩) (setEntry line e' s))

/-- Recalls in use (R55). -/
def recallsFull (s : State) : Bool := decide (4096 ≤ s.mf.recalls.length)

/-! ## Ways and victims (R59) -/

/-- Entries in the set of a line, with their lines. -/
def setEntries (s : State) (line : Nat) : Tab MfEntry := (leadPlane s).entries.filter (fun p => sameSet s p.1 line)

/-- Ways freed by a victim's recall that a waiting request has claimed. -/
def claimedWays (s : State) (line : Nat) : Nat :=
  (s.mf.waits.filter (fun w => match w.why with
    | .victim v => sameSet s w.req.line line && (entryOf s v).st == .free
    | _ => false)).length

/-- A way of the line's set is FREE and unclaimed. -/
def freeWay (s : State) (line : Nat) : Option Nat :=
  if (leadPlane s).entries.isEmpty then some 0
  else if (leadPlane s).entries.length + s.mf.waits.length < 16 ∨ (setEntries s line).length + claimedWays s line < 16 then
    lowest 16 (fun w => !(setEntries s line).any (fun p => p.2.way == w))
  else none

/-- The entry with the lowest way among those that satisfy `p`. -/
def lowestWay (l : Tab MfEntry) (p : MfEntry → Bool) : Option (Nat × MfEntry) :=
  (l.filter (fun q => p q.2)).foldl (fun best q => match best with
    | none => some q
    | some b => if q.2.way < b.2.way then some q else some b) none

/-- The victim of a full set: the lowest S way with REF 0, then the lowest O way with REF 0 (R59). -/
def victimIn (l : Tab MfEntry) : Option (Nat × MfEntry) :=
  match lowestWay l (fun e => e.st == .s && !e.ref) with
  | some v => some v
  | none => lowestWay l (fun e => e.st == .o && !e.ref)

/-- Clear REF in every way of the line's set. -/
def clearRefs (line : Nat) (s : State) : State :=
  onPlanes line (fun p => { p with entries := p.entries.map (fun q =>
    if sameSet s q.1 line then (q.1, { q.2 with ref := false }) else q) }) s

/-- Start the recall of the victim of a full set and answer its line; `none` when every way is in RS or RO. The choice clears
REF in all ways when every S and O way has it set. -/
def evictVictim (line : Nat) (s : State) : Option (Nat × State) :=
  let pick (s : State) := victimIn (setEntries s line)
  let s1 := if (pick s).isNone then clearRefs line s else s
  match pick s1 with
  | none => none
  | some v =>
    let agents := if v.2.st = .o then [v.2.owner] else agentsIn v.2.sharers
    some (v.1, rinc Obj.MF_CAPACITY_RECALLS 0 (startRecall v.1 agents .inv .victim false false s1))

/-- What is known of a line whose recall has just ended: LAST as the recalled entry had it. -/
structure After where
  last : Option Nat

/-- The entry of a line after a request: one that names nobody is freed (R50). -/
def tidy (line : Nat) (last : Option Nat) (s : State) : State :=
  let e := entryOf s line
  if e.st = .s ∧ e.sharers = 0 then freeEntry line last s else s

/-- Create or change the entry of a line to S or O, C copied from an AHT record (R82). `none` when the set is full. -/
def putHolder (line : Nat) (st : LineState) (owner : Nat) (sharers : BitVec 64) (s : State) : Option State :=
  let e := entryOf s line
  if e.st ≠ .free then some (setEntry line { e with st := st, owner := owner, sharers := sharers, ref := true } s)
  else match freeWay s line with
    | none => none
    | some w =>
      let c := (ahtOf s line).c
      some (setEntry line ⟨st, owner, c, true, sharers, w⟩ (setAht line 0 none false s))

/-- REF is set on every request to a line that has an entry. -/
def markRef (line : Nat) (s : State) : State :=
  let e := entryOf s line
  if e.st = .free then s else setEntry line { e with ref := true } s

/-! ## A request takes effect (Tables 03.3 and 03.4) -/

/-- What Tables 03.3 and 03.4 ask of a request: a recall of these agents first; a new holder entry; the line left I; or the
entry left as it is. -/
inductive HomePlan where
  | recall (k : Snp) (agents : List Nat)
  | hold (st : LineState) (owner : Nat) (sharers : BitVec 64) (c : Cmp)
  | invalid
  | keep (c : Cmp)

/-- The plan for a host request from agent `h` to an entry; `after`: the recall it needed has been answered. -/
def hostPlan (k : ReqKind) (h : Nat) (e : MfEntry) (after : Bool) : HomePlan :=
  let others := agentsIn (withoutAgent e.sharers h)
  let shared : HomePlan := match e.st with
    | .o => if e.owner = h then .keep .cmpE else .recall .data [e.owner]
    | _ => .hold .s 0 (withAgent e.sharers h) .cmpS
  let owned : HomePlan := match e.st with
    | .o => if e.owner = h then .keep .cmpE else .recall .inv [e.owner]
    | _ => if others.isEmpty then .hold .o h 0 .cmpE else .recall .inv others
  let write : HomePlan := match e.st with
    | .o => if e.owner = h then .invalid else .recall .inv [e.owner]
    | _ => if others.isEmpty then .invalid else .recall .inv others
  let mine := e.st == .o && e.owner == h
  match k with
  | .memRd .s | .memRdData | .memInv .s => shared
  | .memRd .a | .memInv .a => owned
  | .memRd .i => if e.st = .o ∧ e.owner ≠ h ∧ !after then .recall .cur [e.owner] else .keep .cmp
  | .memWr .i _ _ | .memWrPtl .i _ _ _ => write
  | .memWr .s _ _ | .memWrPtl .s _ _ _ => if mine then .hold .s 0 (withAgent 0 h) .cmp else write
  | .memWr .a _ _ | .memWrPtl .a _ _ _ => if mine then .keep .cmp else write
  | .clnEvct | .memInv .i =>
    if mine then .invalid
    else if e.st = .s then .hold .s 0 (withoutAgent e.sharers h) .cmp else .keep .cmp
  | _ => .keep .cmp

/-- The plan for a device access (Table 03.4). -/
def devicePlan (k : ReqKind) (e : MfEntry) (after : Bool) : HomePlan :=
  match k with
  | .devRead => if e.st = .o ∧ !after then .recall .cur [e.owner] else .keep .cmp
  | _ => match e.st with
    | .o => .recall .inv [e.owner]
    | .s => if e.sharers = 0 then .invalid else .recall .inv (agentsIn e.sharers)
    | _ => .invalid

/-- MemRd A or MemInv A that recalls another agent's ownership raises C while it is above 0 (Table 04.7). -/
def trainOwn (k : ReqKind) (e : MfEntry) (line : Nat) (s : State) : State :=
  match k with
  | .memRd .a | .memInv .a =>
    if e.st = .o ∧ 0 < e.atomic then setC line (min 7 (e.atomic + 1)) s else s
  | _ => s

/-- A request whose plan is settled: its entry change and its data. `none` when it needs a way and the set is full. -/
def settle (r : Req) (plan : HomePlan) (last : Option Nat) (s : State) : Option State :=
  match plan with
  | .recall _ _ => some s
  | .keep c => some (access { r with cmp := c } (tidy r.line last (markRef r.line s)))
  | .invalid => some (access { r with cmp := .cmp } (freeEntry r.line last s))
  | .hold st owner sharers c =>
    (putHolder r.line st owner sharers s).map (fun s1 => access { r with cmp := c } (tidy r.line last s1))

/-- The plan of a request now. -/
def planOf (r : Req) (e : MfEntry) (after : Bool) : HomePlan :=
  match r.agent, r.kind with
  | some _, .window _ _ _ _ _ _ => devicePlan r.kind e after
  | some h, _ => hostPlan r.kind h e after
  | none, .window _ _ _ _ _ _ => devicePlan r.kind e after
  | none, .devRead => devicePlan r.kind e after
  | none, .devWrite _ _ _ => devicePlan r.kind e after
  | none, _ => .keep .cmp

/-- A revoked write takes effect only on a line its agent owns (R419). -/
def revokedDiscard (r : Req) (e : MfEntry) : Bool :=
  r.revoked && !((e.st == .o || e.st == .ro) && some e.owner == r.agent)

/-- A write with MetaValue S or A from an agent that is not the owner is handled as I and counted (R54); MemWrPtl as MemWr (DEDUCED). -/
def notOwnerWrite (r : Req) (e : MfEntry) : Bool :=
  (match r.kind with
   | .memWr .s _ _ | .memWr .a _ _ | .memWrPtl .s _ _ _ | .memWrPtl .a _ _ _ => true
   | _ => false) && !(e.st == .o && some e.owner == r.agent)

/-- The status word's code of a window request that ends without running is posted by this operation (Tables 04.3, 04.4). -/
def postAtw (ld slot code flags result : Nat) (s : State) : State :=
  let key := ld * 512 + slot
  let s1 := { s with atw := { s.atw with slots := tmod {} s.atw.slots key (fun a =>
    { a with busy := false, status := code, flags := flags, result := result }) } }
  let c := if code = 2 ∨ code = 3 then some Obj.ATW_HOME_OPS else if code = 4 then some Obj.ATW_GRANTS
    else if code = 0x10 then some Obj.ATW_REFUSED_RED else if code = 0x13 then some Obj.ATW_POISON
    else if code = 0x11 ∨ code = 0x12 then some Obj.ATW_BAD_REQUEST else none
  let s2 := match c with
    | some o => rinc o ld s1
    | none => s1
  let a : AtwSlot := tget {} s2.atw.slots key
  let word := a.status + 256 * a.flags + 4096 * a.pred + 65536 * a.colour + 16777216 * a.seq
  let mine := s2.atw.reads.filter (fun h => h.ld == ld && h.slot == slot)
  each mine (fun h s => if (ldOf s ld).enabled && linkServes s (linkOfLd s ld) then emit (.atwRead ld slot h.tag word a.result) s
      else rinc Obj.HL_RESP_DISCARDS (linkOfLd s ld) s)
    { s2 with atw := { s2.atw with reads := s2.atw.reads.filter (fun h => !(h.ld == ld && h.slot == slot)) } }

/-- Train the predictor for a window request from `h` (Table 04.7): the updated C. -/
def trainWindow (line : Nat) (h : Option Nat) (s : State) : Nat :=
  let c := predC s line
  if h.isSome && predLast s line == h then c - 1 else min 7 (c + 1)

/-- The home slice's decision for a window request (R86): true is home. -/
def decideHome (line : Nat) (h : Option Nat) (c : Nat) (s : State) : Bool :=
  let e := entryOf s line
  let mode := match regionAtLine s line with
    | some r => rget Obj.PLACE_REGION_MODE r s
    | none => 0
  if rget Obj.FW_STATE 0 s = 2 ∨ h = none then false
  else if (e.st = .o ∨ e.st = .ro) ∧ some e.owner = h then false
  else if mode = 1 then true
  else if mode = 2 then false
  else if rget Obj.PRED_ENABLE 0 s = 0 then false
  else decide (rget Obj.PRED_THRESHOLD 0 s ≤ c)

/-- Train and decide (R84, R86): a GRANT ends the request; `none` means it runs at home. A requester in HDM-H mode trains the predictor
under its agent number too, and is granted. -/
def windowGrant (r : Req) (ld slot : Nat) (s : State) : State × Bool :=
  let h := r.agent.getD (ldOf s ld).agent
  let c := trainWindow r.line (some h) s
  let e := entryOf s r.line
  let s1 := if e.st = .free then setAht r.line c (some h) true s else setC r.line c (markRef r.line s)
  let s2 := { s1 with atw := { s1.atw with slots := tmod {} s1.atw.slots (ld * 512 + slot) (fun a => { a with pred := c }) } }
  if decideHome r.line r.agent c s2 then (s2, false) else (postAtw ld slot 4 0 0 s2, true)

/-- The request is answered with data. -/
def readsData : ReqKind → Bool
  | .memRd _ | .memRdData | .devRead => true
  | _ => false

/-- A request takes effect at its home slice (one of a dead agent is answered with poison or discarded, R69), or starts the recall it needs, or waits for a recall-table entry or a way.
`after` is given when the recall it needed has ended; `front` puts a request that waits again ahead of the others. -/
def applyHome (r : Req) (after : Option After) (front : Bool) (s0 : State) : State :=
  let s := purgeDead r.line s0
  let e := entryOf s r.line
  if (match r.src, r.agent with
      | .host _ _, some h => agentDead s h
      | _, _ => false) then answer { r with cmp := .cmp } (if readsData r.kind then some (List.replicate 64 0) else none) true s
  else if revokedDiscard r e then answer { r with cmp := .cmp } none false (permRefused r.berth s)
  else
    let (s1, granted) := match r.kind, r.src, after with
      | .window _ _ _ _ _ _, .atw ld slot, none => windowGrant r ld slot s
      | _, _, _ => (if notOwnerWrite r e && after.isNone then rinc Obj.MF_PROTOCOL_ANOMALIES 0 s else s, false)
    if granted then s1
    else
      let e1 := entryOf s1 r.line
      let last := match r.kind, r.src, r.agent with
        | .window _ _ _ _ _ _, .atw _ _, some h => some h
        | _, _, _ => match after with
          | some a => a.last
          | none => if e1.st = .o then some e1.owner else none
      match planOf r e1 after.isSome with
      | .recall k agents =>
        if recallsFull s1 then rinc Obj.MF_RECALL_TABLE_WAITS 0 (addWait front r .table s1)
        else startRecall r.line agents k (.request r) false false (trainOwn r.kind e1 r.line s1)
      | plan =>
        match settle r plan last s1 with
        | some s2 => s2
        | none =>
          if recallsFull s1 then rinc Obj.MF_RECALL_TABLE_WAITS 0 (addWait front r .table s1)
          else match evictVictim r.line s1 with
            | some (v, s2) => addWait front r (.victim v) s2
            | none => addWait front r .anyWay s1

/-- A waiting request can go on. -/
def canWake (s : State) (before : List Waiter) (w : Waiter) : Bool :=
  !recalling s w.req.line && !before.any (fun v => v.req.line == w.req.line) && !s.mf.ready.any (fun r => r.line == w.req.line)
    && !fetching s w.req.line
    && (match w.why with
        | .line => true
        | .table => !recallsFull s
        | .victim v => !recalling s v
        | .anyWay => (freeWay s w.req.line).isSome || !(setEntries s w.req.line).all (fun p => p.2.st == .rs || p.2.st == .ro))

/-- The first waiting request that can go on, with those before it. -/
def nextWake (s : State) : List Waiter → List Waiter → Option (List Waiter × Waiter × List Waiter)
  | _, [] => none
  | before, w :: r => if canWake s before w then some (before, w, r) else nextWake s (before ++ [w]) r

/-- Let waiting requests go on, at most `n` of them, in home-slice order (R57). -/
def wakeN : Nat → State → State
  | 0, s => s
  | n + 1, s =>
    match nextWake s [] s.mf.waits with
    | none => s
    | some (before, w, r) =>
      wakeN n (applyHome w.req none true { s with mf := { s.mf with waits := before ++ r } })

/-- Let every waiting request that can go on do so. -/
def wake (s : State) : State := wakeN (s.mf.waits.length + 1) s

/-- A request reaches its home slice (R49): it takes effect, or waits behind what holds its line. -/
def homeRequest (r : Req) (s : State) : State :=
  if lineBusy s r.line then addWait false r .line s else applyHome r none false s

/-! ## Answers to recalls -/

/-- Write a divergence record (Table 15.3): in the log while it has room, else counted as lost, and sent when unit 80 is pushed (R349,
R400); an error record of SOURCE 0xA7 goes beside it. -/
def logDivergence (kind charged action tag step line : Nat) (s : State) : State :=
  let r : DivRec := ⟨kind, charged, action, tag, step, line, (regionAtLine s line).getD 0x1FFF, now s⟩
  let s1 := raiseEvent 80 false 0x60 (.div r) s
  let s2 := if s1.red.divLog.length < 1024 then { s1 with red := { s1.red with divLog := s1.red.divLog ++ [r] } }
    else rinc Obj.DIV_LOG_LOST 0 s1
  logError 0xA7 0 (if action = 1 then 3 else 1) (some line) tag s2

/-- Free a line's entry in every plane, and drop its history records (step 5 of R348). -/
def forgetLine (line : Nat) (s : State) : State :=
  onPlanes line (fun p => { entries := tput {} p.entries line {}, aht := tput {} p.aht line {} }) s

/-- A divergent line's recalls are answered (steps 4 and 5 of R348): poison when two write-backs came, else the one that came. -/
def endResolve (line kind charged retired tag step : Nat) (wbs : List (List Byte)) (s : State) : State :=
  let s1 := match wbs with
    | [] => s
    | [d] => writeBack line d false s
    | _ => poisonLine line s
  logDivergence kind charged (if 1 < wbs.length then 1 else if retired = 1 then 2 else 0) tag step line (forgetLine line s1)

/-- A recall has no agent left to answer: its table entry ends and its cause goes on. -/
def finishRecall (line : Nat) (rc : Recall) (last : Option Nat) (s : State) : State :=
  let s1 := setRecall line none s
  wake (match rc.why with
    | .request r => applyHome r (some ⟨last⟩) true s1
    | .victim | .sweep => tidy line last s1
    | .resolve k c r tag step wbs => endResolve line k c r tag step wbs s1)

/-- One agent of a line's recall has answered (Table 03.3): the entry is what the answer leaves. -/
def recallAnswer (line agent : Nat) (resp : BiResp) (rc : Recall) (s : State) : State :=
  let e := entryOf s line
  let s1 := rmax Obj.MF_RECALL_MAX 0 (now s - rc.issued) s
  match e.st with
  | .ro =>
    let e' : MfEntry := match resp with
      | .e => { e with st := .o }
      | .s => { e with st := .s, owner := 0, sharers := withAgent 0 agent }
      | .i => { e with st := .s, owner := 0, sharers := 0 }
    finishRecall line rc (some agent) (setEntry line e' s1)
  | .rs =>
    let left := withoutAgent e.sharers agent
    if left = 0 then finishRecall line rc none (setEntry line { e with st := .s, owner := 0, sharers := rc.keep } s1)
    else setEntry line { e with sharers := left } s1
  | _ => s1

/-- An answer that the kind of its recall allows: anything to BISnpCur, S or I to BISnpData, I to BISnpInv. -/
def answerFits : Snp → BiResp → LineState → Bool
  | .cur, _, _ => true
  | .data, .e, _ => false
  | .data, _, _ => true
  | .inv, .i, _ => true
  | .inv, _, _ => false

/-- The agent still owes an answer to the line's recall. -/
def owesAnswer (e : MfEntry) (agent : Nat) : Bool :=
  (e.st == .ro && e.owner == agent) || (e.st == .rs && e.sharers.getLsbD agent)

end Sys2Proof.Machine
end

