-- ==== Sys2Proof/Machine/Fetch.lean ====
section
/-! DEFINITION. Fetching lines from the partner unit (R258, R397, Table 11.9): the request, and what its answer does. -/

namespace Sys2Proof.Machine

/-- The partner's copy can be asked for: a tandem line while pair mirroring is active and a port is up. -/
def canFetch (s : State) (line : Nat) : Bool :=
  tandemLine s line && s.pair.role == 1 && s.pair.mirror == 0 && (portOfTile s (tileOfLine line)).isSome

/-- Send a FETCH for `n` lines of one chunk from `line`; `want` are those of them that are asked for. -/
def startFetch (line n : Nat) (want : List Nat) (why : FetchWhy) (s : State) : State :=
  match portOfTile s (tileOfLine line) with
  | none => s
  | some p =>
    let tag := tagOnPort s p
    sendMsg p ⟨4, 0, 0, line, n, 0, natLE 8 line ++ natLE 2 n⟩
      { s with seam := { s.seam with fetches := s.seam.fetches ++ [⟨p, tag, line, n, want, why, none⟩] } }

/-- Lines of a tile asked for chunk by chunk. -/
def fetchLines (lines : List Nat) (why : FetchWhy) (s : State) : State :=
  each ((lines.map (· / 64)).eraseDups) (fun k s => startFetch (k * 64) 64 (lines.filter (fun l => l / 64 == k)) why s) s

/-- Write a line in place in the near shore without making it dirty again: bytes and poison only. -/
def restoreLine (line : Nat) (data : List Byte) (poison : Bool) (s : State) : State := putNear line data fullMask poison s

/-- A line with no repair source is written as poison (R258 source 4): it is a device write that nothing mirrors. -/
def poisonInPlace (line : Nat) (s : State) : State :=
  if (tagOf s (tileOfLine line)).st = 0 then setNearPoison line true s
  else writeLine line (List.replicate 64 0) fullMask true none s

end Sys2Proof.Machine
end

