-- ==== Sys2Proof/Machine/Crc.lean ====
section
/-! DEFINITION. The checks the spec defines: CRC-8 (R542), CRC-32C (R130) and CRC-64 (R326). -/

namespace Sys2Proof.Machine

/-- One input bit of the CRC-8 register (R542). -/
def crc8Bit (r : Nat) (b : Bool) : Nat :=
  if b != bit r 7 then (r * 2 % 256) ^^^ 0x07 else r * 2 % 256

/-- CRC-8 of bits in the order they enter (R542). -/
def crc8 (bs : List Bool) : Nat := bs.foldl crc8Bit 0

/-- The low `n` bits of `v`, from bit 0 upwards. -/
def bitsOf (n v : Nat) : List Bool := (List.range n).map (bit v)

/-- One step of the reflected CRC-32C register. -/
def crc32cShift (r : Nat) : Nat := if r % 2 = 1 then (r / 2) ^^^ 0x82F63B78 else r / 2

/-- One input byte of the CRC-32C register. -/
def crc32cByte (r : Nat) (b : Byte) : Nat :=
  crc32cShift (crc32cShift (crc32cShift (crc32cShift (crc32cShift (crc32cShift (crc32cShift (crc32cShift (r ^^^ b.toNat))))))))

/-- The CRC-32C register over bytes, with no initial value or final XOR applied (CRCB, R190). -/
def crc32cRaw (r : Nat) (bs : List Byte) : Nat := bs.foldl crc32cByte r

/-- CRC-32C of RFC 3720 (R130). -/
def crc32c (bs : List Byte) : Nat := crc32cRaw 0xFFFFFFFF bs ^^^ 0xFFFFFFFF

/-- One step of the reflected CRC-64 register (R326). -/
def crc64Shift (r : Nat) : Nat := if r % 2 = 1 then (r / 2) ^^^ 0xC96C5795D7870F42 else r / 2

/-- One input byte of the CRC-64 register. -/
def crc64Byte (r : Nat) (b : Byte) : Nat :=
  crc64Shift (crc64Shift (crc64Shift (crc64Shift (crc64Shift (crc64Shift (crc64Shift (crc64Shift (r ^^^ b.toNat))))))))

/-- FCRC of a Seam frame (R326). -/
def crc64 (bs : List Byte) : Nat := bs.foldl crc64Byte 0xFFFFFFFFFFFFFFFF ^^^ 0xFFFFFFFFFFFFFFFF

end Sys2Proof.Machine
end

