-- ==== Sys2Proof/Machine/Manifest.lean ====
section
/-! DEFINITION. The manifest's events and commands (chapter 3): answers of hosts, conflicts, dead agents, re-map markers, tile and
range recalls. -/

namespace Sys2Proof.Machine

/-- A host answers a back-invalidation (R53). Write-back data is applied first. An answer no recall waits for is discarded
and counted (R54); so is one that its recall's kind does not allow. -/
def execBiRsp (agent line : Nat) (resp : BiResp) (wb : Option (List Byte)) (s : State) : Answer :=
  match recallOf s line with
  | none => .next (rinc Obj.MF_PROTOCOL_ANOMALIES 0 s)
  | some rc =>
    let e := entryOf s line
    if !owesAnswer e agent || !answerFits rc.kind resp e.st then .next (rinc Obj.MF_PROTOCOL_ANOMALIES 0 s)
    else
      match wb, rc.why with
      | some data, .resolve k c r tag step wbs =>
        let rc' : Recall := { rc with why := .resolve k c r tag step (wbs ++ [data]) }
        .next (recallAnswer line agent resp rc' (setRecall line (some rc') s))
      | some data, _ => .next (recallAnswer line agent resp rc (if rc.discard then s else writeBack line data false s))
      | none, _ => .next (recallAnswer line agent resp rc s)

/-- A host's own request is ordered before the recall of its line: its completion has still to leave (R58). -/
def orderedFirst (s : State) (agent line : Nat) : Bool :=
  s.ferry.misses.any (fun r => r.line == line && r.agent == some agent)

/-- A host signals a conflict (R58): BIConflictAck at once, or after the completion of a request that was ordered first. -/
def execBiConflict (agent line : Nat) (s : State) : Answer :=
  if !owesAnswer (entryOf s line) agent then .next s
  else if orderedFirst s agent line then
    .next { s with mf := { s.mf with conflicts := s.mf.conflicts ++ [(agent, line)] } }
  else .next (emit (.conflictAck agent line) s)

/-- A logical device's slots are reset (R77): IDLE with SEQ 0; what is in progress completes without a status. Window
requests on their way lose their slot, hints under way move to a place that no host reads, and jobs run on. -/
def resetSlots (ld : Nat) (s : State) : State :=
  let orphan (r : Req) : Req := match r.src with
    | .atw l _ => if l = ld then { r with src := .dev 0xFFFE } else r
    | _ => r
  let busyHints := (trange s.ferry.hints (ld * 64) 64).filter (fun p => p.2.busy)
  let hints1 := tclear s.ferry.hints (ld * 64) 64
  { s with
    mf := { s.mf with
      waits := s.mf.waits.map (fun w => { w with req := orphan w.req })
      recalls := s.mf.recalls.map (fun p => (p.1, p.2.map (fun rc => match rc.why with
        | .request r => { rc with why := .request (orphan r) }
        | _ => rc)))
      ready := s.mf.ready.map orphan }
    ferry := { s.ferry with
      misses := s.ferry.misses.map orphan
      hints := busyHints.foldl (fun t p => tmod {} t (8192 + p.1) (fun h => { p.2 with left := h.left ++ p.2.left })) hints1 }
    meters := { s.meters with held := s.meters.held.filter (fun h => match h.what with
      | .mem _ => true
      | .atw l _ | .hint l _ | .job l _ => l != ld) }
    atw := { s.atw with
      slots := tclear s.atw.slots (ld * 512) 512
      reads := s.atw.reads.filter (fun h => h.ld != ld) }
    jobs := { s.jobs with slots := tclear s.jobs.slots (ld * 64) 64 } }

/-- Lines of the entries of a plane that satisfy `p`. -/
def linesWhere (s : State) (p : Nat → MfEntry → Bool) : List Nat :=
  ((leadPlane s).entries.filter (fun q => p q.1 q.2)).map (·.1)

/-- Step 2 of Table 03.6: one recall that waits on a dead agent completes as if it had answered BIRspI, an owned line as
poison. -/
def settleRecallOf (agent line : Nat) (s : State) : State :=
  match recallOf s line with
  | none => s
  | some rc =>
    let e := entryOf s line
    if !owesAnswer e agent then s
    else
      let s1 := if e.st = .ro then poisonLine line (logDead line agent (setRecall line (some { rc with poisoned := true }) s)) else s
      recallAnswer line agent .i rc s1

/-- A host agent is declared dead (R65, Table 03.6 steps 1 and 2). Its waiting requests are answered with poison or
discarded (R69). -/
def killAgent (agent cause : Nat) (s : State) : State :=
  if (agentOf s agent).st ≠ 1 then s
  else
    let s1 := modAgent agent (fun a => { a with st := 2, cause := cause, time := now s, poisoned := 0 })
      { s with weave := { s.weave with snpWait := s.weave.snpWait.filter (fun w => w.1 != agent) } }
    let s2 := each (linesWhere s1 (fun _ e => owesAnswer e agent)) (settleRecallOf agent) s1
    let mine := s2.mf.waits.filter (fun w => w.req.agent == some agent && (match w.req.src with
      | .host _ _ => true
      | _ => false))
    wake (each mine (fun w s => answer { w.req with cmp := .cmp }
        (if readsData w.req.kind then some (List.replicate 64 0) else none) true
        { s with mf := { s.mf with waits := dropFirst (fun v => v == w) s.mf.waits } }) s2)

/-- The host agent lives and holds nothing (R69): revival clears the cause and resets its logical device's slots. -/
def reviveAgent (agent : Nat) (s : State) : State :=
  let s1 := modAgent agent (fun a => { a with st := 1, cause := 0, reviveDue := false }) s
  match ldOfAgent s agent with
  | some ld => resetSlots ld s1
  | none => s1

/-- The sweep of a dead agent's entries (Table 03.6 step 3): owned lines become poison, shared copies are dropped. -/
def sweepAgent (agent : Nat) (s : State) : State :=
  let s1 := each (linesWhere s (fun _ e => owesAnswer e agent)) (settleRecallOf agent) s
  each (linesWhere s1 (fun _ e => (e.st == .o && e.owner == agent) || (e.st == .s && e.sharers.getLsbD agent))) purgeDead s1

/-- The sweep has ended: the agent is dead-fenced, one dead-agent event is raised, and a disabled logical device frees its
number or a training that came earlier revives it (R21, R69). The record's class is DESIGN CHOICE: 3 if lines were lost. -/
def execDeadAgentSweepEnd (agent : Nat) (s : State) : Answer :=
  if (agentOf s agent).st ≠ 2 then .next s
  else
    let s1 := wake (sweepAgent agent s)
    let a := agentOf s1 agent
    let cls := if a.poisoned = 0 then 1 else 3
    let s1' := modAgent agent (fun a => { a with st := 3 }) s1
    match ldOfAgent s1' agent with
    | none => .next (modAgent agent (fun _ => {}) (logErrorAt 80 0xA6 cls none a.cause s1'))
    | some ld =>
      let s2 := queueCxl ld true (mkRec 0xA6 0 cls none a.cause s1') (logErrorAt (64 + portOfLd ld) 0xA6 cls none a.cause s1')
      if (ldOf s2 ld).leaving then
        .next (modLd ld (fun l => { l with leaving := false, agent := 0xFF }) (modAgent agent (fun a => { a with st := 0 }) s2))
      else if a.reviveDue then .next (reviveAgent agent s2)
      else .next s2

/-- DEAD_POISON_LOG_CLEAR empties the log (R68). -/
def execDeadPoisonLogClear (w : Who) (s : State) : Answer :=
  command Obj.DEAD_POISON_LOG_CLEAR w (fun s =>
    setUnstated Obj.DEAD_POISON_LOG_CLEAR w.path { s with mf := { s.mf with deadLog := [] } }) s

/-! ## Re-map (R52) -/

/-- The set count factor the in-service channels give: 4 when both parities have four, else the smaller count. -/
def factorNow (s : State) : Nat :=
  let even := ((inService s).filter (fun c => c % 2 == 0)).length
  let odd := ((inService s).filter (fun c => c % 2 == 1)).length
  min 4 (min even odd)

/-- The set count falls when fewer than four channels of a parity remain (R52); the home slices pass the markers. -/
def startRemap (s : State) : State :=
  let k := factorNow s
  if k = 0 ∨ s.mf.newK ≤ k then s else { s with mf := { s.mf with newK := k, remapDone := [] } }

/-- Move one entry to its set under the new count: it takes a FREE way, or that of a victim it evicts. -/
def remapEntry (line : Nat) (s : State) : State :=
  let e := entryOf s line
  if e.st = .free ∨ e.st = .rs ∨ e.st = .ro then s
  else match freeWay s line with
    | some w => setEntry line { e with way := w } s
    | none => match evictVictim line s with
      | some (v, s1) => setEntry line { e with way := (entryOf s1 v).way } s1
      | none => s

/-- A re-map marker passes a set of the old count (R52). After the last one the new count is the count. -/
def execManifestRemapMarker (set : Nat) (s : State) : Answer :=
  if s.mf.newK = s.mf.setK ∨ s.mf.remapDone.contains set ∨ 2097152 * s.mf.setK ≤ set then .next s
  else
    let lines := linesWhere s (fun l _ => setAt s.mf.setK l == set)
    let s1 := each lines remapEntry { s with mf := { s.mf with remapDone := set :: s.mf.remapDone } }
    if s1.mf.remapDone.length = 2097152 * s1.mf.setK then
      .next { s1 with mf := { s1.mf with setK := s1.mf.newK, remapDone := [] } }
    else .next s1

/-! ## Tile and range recalls (R70) -/

/-- Recall the copies that lines of a list have, as far as the recall table has room. -/
def recallLines (lines : List Nat) (discard : Bool) (s : State) : State :=
  each lines (fun l s =>
    let s1 := purgeDead l s
    let e := entryOf s1 l
    if recallsFull s1 then s1
    else match e.st with
      | .o => startRecall l [e.owner] .inv .sweep discard false s1
      | .s => startRecall l (agentsIn e.sharers) .inv .sweep discard false s1
      | _ => s1) s

/-- Lines of a tile that have an entry. -/
def tileLines (s : State) (t : Nat) : List Nat := linesWhere s (fun l _ => tileOfLine l == t)

/-- Start a tile recall. -/
def startTileRecall (t : Nat) (s : State) : State :=
  recallLines (tileLines s t) false { s with mf := { s.mf with tileRecalls := s.mf.tileRecalls ++ [t] } }

/-- An entry counts for a range recall: any holder, or the one agent it is filtered to, as owner only when it only takes
ownership away. -/
def inRange (r : RangeRecall) (l : Nat) (e : MfEntry) : Bool :=
  decide (r.base * linesPerGib ≤ l) && decide (l < (r.base + r.size) * linesPerGib) && (match r.agent with
    | none => true
    | some a => if r.kind = .data then (e.st == .o || e.st == .ro) && e.owner == a
        else (e.st == .o && e.owner == a) || (e.st == .s && e.sharers.getLsbD a) || e.st == .rs || e.st == .ro)

/-- Issue the recalls of a range recall for the lines that now need one. -/
def recallRange (r : RangeRecall) (s : State) : State :=
  let discard := match r.why with
    | .removal _ => true
    | _ => false
  match r.agent with
  | none => recallLines (linesWhere s (inRange r)) discard s
  | some a => each (linesWhere s (inRange r)) (fun l s =>
      let s1 := purgeDead l s
      let e := entryOf s1 l
      if recallsFull s1 then s1
      else match e.st with
        | .o => if e.owner = a then startRecall l [a] r.kind .sweep discard true s1 else s1
        | .s => if e.sharers.getLsbD a then startRecall l [a] .inv .sweep discard true s1 else s1
        | _ => s1) s

/-- Start a range recall. -/
def startRange (base size : Nat) (agent : Option Nat) (kind : Snp) (why : RangeWhy) (s : State) : State :=
  let r : RangeRecall := ⟨s.mf.nextRange, base, size, agent, kind, why⟩
  recallRange r { s with mf := { s.mf with ranges := s.mf.ranges ++ [r], nextRange := s.mf.nextRange + 1 } }

/-- Nothing in the range is left to recall. -/
def rangeClear (s : State) (r : RangeRecall) : Bool := (linesWhere s (inRange r)).isEmpty

end Sys2Proof.Machine
end

