-- ==== Sys2Proof/Machine/Far.lean ====
section
/-! DEFINITION. The far shore (R274 to R286): capacities, bands, slots and far copies, as operations that the ferry and the flash
commands call. -/

namespace Sys2Proof.Machine

/-! ## Capacities (R276, R295) -/

/-- Targets in service on a channel. -/
def targetCount (c : FlashChan) : Nat := ((List.range 8).filter (fun n => bit c.targets n)).length

/-- Block sets of a channel that are retired or excluded (R290). -/
def badSetsOf (s : State) (ch : Nat) : Nat := (s.flash.badSets.filter (fun b => b / 262144 == ch)).length

/-- Raw capacity of a channel in 1/16 GiB, the size of a block set: its targets in service less bad block sets. -/
def rawUnits (s : State) (ch : Nat) : Nat :=
  let c := flashOf s ch
  if c.st = 3 then targetCount c * c.targetGib * 16 - badSetsOf s ch else 0

/-- In-service channels of a parity group (GA 0, GB 1). -/
def groupChans (s : State) (g : Nat) : List Nat := (flashInService s).filter (fun c => c / 16 == g)

/-- Data capacity of a group in 1/16 GiB. -/
def groupData (s : State) (g : Nat) : Nat :=
  let n := (groupChans s g).length
  ((groupChans s g).map (rawUnits s)).sum * (n - 1) / n

/-- Raw and data capacity of the far shore in GiB (R276). -/
def farRawGib (s : State) : Nat := ((flashInService s).map (rawUnits s)).sum / 16
def farDataGib (s : State) : Nat := (groupData s 0 + groupData s 1) / 16

/-- FAR_FLOOR_GIB: 1.05 × exposed capacity, rounded up (R295). -/
def farFloorGib (s : State) : Nat := (s.flash.exposed * 105 + 99) / 100

/-- The far shore takes new slots (R295). -/
def farTakes (s : State) : Bool := decide (farFloorGib s ≤ farDataGib s)

/-! ## Bands and slots (R276, R277, R279, R283) -/

def bandOf (s : State) (b : Nat) : Band := tget {} s.flash.bands b
def modBand (b : Nat) (f : Band → Band) (s : State) : State :=
  { s with flash := { s.flash with bands := tmod {} s.flash.bands b f } }

/-- The block set of a band's member channel (R276, R279). -/
def bandSet (b ch : Nat) : Nat := ch * 262144 + b % 262144

/-- A channel is a member of a band now: in service, its target in service, its block set good. -/
def isMember (s : State) (b ch : Nat) : Bool :=
  (flashOf s ch).st == 3 && ch / 16 == b / 262144 && bit (flashOf s ch).targets (b % 262144 / 32768)
    && !s.flash.badSets.contains (bandSet b ch)

/-- The channel that holds a band's parity: (block index mod 16) of its group, or the next in service above it, wrapping. -/
def parityChan (s : State) (b : Nat) : Nat :=
  let g := b / 262144
  let first := b % 16
  match (List.range 16).find? (fun k => (flashOf s (g * 16 + (first + k) % 16)).st == 3) with
  | some k => g * 16 + (first + k) % 16
  | none => g * 16 + first

/-- Data members of a band. -/
def dataMembers (s : State) (b : Nat) : List Nat :=
  ((List.range 16).map (fun m => b / 262144 * 16 + m)).filter (fun ch => isMember s b ch && ch != parityChan s b)

/-- Slot of a row in a member: named row × 16 + member within the band. -/
def bandSlot (row ch : Nat) : Nat := row * 16 + ch % 16

/-- Far-shore place of a slot: BS × 1,024 + row (LOGSLOT and the block map name slots so). -/
def slotPlace (b ch row : Nat) : Nat := bandSet b ch * 1024 + row

/-- The band of a slot place, its channel and its row. -/
def placeChan (p : Nat) : Nat := p / 1024 / 262144
def placeBand (p : Nat) : Nat := placeChan p / 16 * 262144 + p / 1024 % 262144
def placeRow (p : Nat) : Nat := p % 1024

/-- The erased band of a group with the lowest erase count, the lowest number on ties (R285). Band 0 of each group is the
metadata band (DESIGN CHOICE). -/
def erasedBand (s : State) (g : Nat) : Option Nat :=
  let listed := s.flash.bands.filter (fun p => p.1 / 262144 == g)
  let fresh := (lowest (listed.length + 1) (fun k => !listed.any (fun p => p.1 == g * 262144 + 1 + k))).getD 0
  if fresh < 262143 then some (g * 262144 + 1 + fresh)
  else (listed.filter (fun p => p.2.use == 0)).foldl (fun best p => match best with
      | none => some (p.1, p.2.erases)
      | some q => if p.2.erases < q.2 then some (p.1, p.2.erases) else some q) none |>.map (·.1)

/-- The open log band of a group, opening an erased one if there is none. -/
def openLogBand (g : Nat) (s : State) : Option (Nat × State) :=
  match tget none s.flash.openLog g with
  | some b => some (b, s)
  | none => match erasedBand s g with
    | none => none
    | some b => some (b, modBand b (fun x => { x with use := 1, row := 0, prog := [], leftErased := [], parity := [], rowStart := none })
        { s with flash := { s.flash with openLog := tput none s.flash.openLog g (some b) } })

/-- The first row from the open one on in which a member's slot is free. -/
def freeRow (x : Band) (ch : Nat) : Option Nat :=
  (List.range 1024).find? (fun r => decide (x.row ≤ r) && !x.prog.contains (bandSlot r ch) && !x.leftErased.contains (bandSlot r ch))

/-- Crossings that book a flash channel and have not its slot yet. -/
def waitingAt (s : State) (ch : Nat) : Nat := (s.ferry.crossings.filter (fun c => c.flash == ch && c.held < 2)).length

/-- A channel has a free slot in the current row of its group's open log band. -/
def rowHasSlot (s : State) (ch : Nat) : Bool :=
  match tget none s.flash.openLog (ch / 16) with
  | none => true
  | some b => ch != parityChan s b && isMember s b ch && !(bandOf s b).prog.contains (bandSlot (bandOf s b).row ch)

/-- The target channel of a demotion: with a free slot in its current log row, the fewest waiting bookings, the lowest on
ties (R283). With every slot of the rows programmed, any data channel. None while the far shore takes no slots (R295). -/
def pickFlash (s : State) : Option Nat :=
  let least (l : List Nat) : Option Nat := l.foldl (fun best c => match best with
    | none => some c
    | some b => if waitingAt s c < waitingAt s b then some c else some b) none
  if !farTakes s then none
  else match least ((flashInService s).filter (rowHasSlot s)) with
    | some c => some c
    | none => least (flashInService s)

/-- The open row of a band is complete when every data member's slot is programmed: its parity is programmed and the next
row opens; after the last row the band is full (R279). -/
def closeRow (b : Nat) (s : State) : State :=
  let x := bandOf s b
  if (dataMembers s b).all (fun ch => x.prog.contains (bandSlot x.row ch) || x.leftErased.contains (bandSlot x.row ch)) then
    let s1 := modBand b (fun x => { x with parity := bandSlot x.row (parityChan s b) :: x.parity, row := x.row + 1, rowStart := none }) s
    if 1024 ≤ x.row + 1 ∧ tget none s.flash.openLog (b / 262144) = some b then
      { s1 with flash := { s1.flash with openLog := tput none s1.flash.openLog (b / 262144) none } }
    else s1
  else s

/-- A slot can be rebuilt from its row (R288, R289): the row's parity was programmed and is not on a lost channel, and no other slot of
the row that holds data is. Members left erased count as zero. -/
def rowRebuilds (s : State) (place : Nat) : Bool :=
  let b := placeBand place
  let x := bandOf s b
  let reads (m : Nat) : Bool :=
    let st := (flashOf s (b / 262144 * 16 + m)).st
    st == 3 || st == 4 || st == 5
  match x.parity.find? (fun n => n / 16 == placeRow place) with
  | none => false
  | some q => reads (q % 16) && (x.prog.filter (fun n => n / 16 == placeRow place && n % 16 != placeChan place % 16)).all (fun n => reads (n % 16))

/-- Members of a data band that no merge has filled. -/
def emptyMembers (s : State) (b : Nat) : List Nat :=
  let x := bandOf s b
  (dataMembers s b).filter (fun ch => !(x.prog.any (fun n => n % 16 == ch % 16)) && !(x.leftErased.any (fun n => n % 16 == ch % 16)))

/-- The open data band of a group: one whose parity is not programmed. -/
def openData (s : State) (g : Nat) : Option Nat :=
  (s.flash.bands.find? (fun p => p.1 / 262144 == g && p.2.use == 2 && p.2.parity.isEmpty)).map (·.1)

/-- Close an open data band: members that no merge filled are left erased, and every row's parity is programmed. -/
def closeData (b : Nat) (s : State) : State :=
  let empty := emptyMembers s b
  let pc := parityChan s b
  modBand b (fun x => { x with
    leftErased := x.leftErased ++ empty.flatMap (fun ch => (List.range 1024).map (fun r => bandSlot r ch))
    parity := (List.range 1024).map (fun r => bandSlot r pc), rowStart := none }) s

/-- Program the parity of a band's open row, leaving its unprogrammed slots erased for good (R279). -/
def flushRow (b : Nat) (s : State) : State :=
  let x := bandOf s b
  if x.rowStart.isNone then s
  else
    let left := ((dataMembers s b).map (bandSlot x.row)).filter (fun n => !x.prog.contains n && !x.leftErased.contains n)
    closeRow b (modBand b (fun x => { x with leftErased := left ++ x.leftErased }) s)

/-- Program the parity of every open row of a band: the current one of a log band, all of them in a data band (R291). -/
def flushBand (b : Nat) (s : State) : State :=
  if (bandOf s b).use = 2 then (if (bandOf s b).parity.isEmpty then closeData b s else s) else flushRow b s

/-- Program a slot of the open log band in a channel, or in another data member when the channel holds the parity; answers
its place. -/
def programLog (ch : Nat) (s : State) : Option (Nat × State) :=
  match openLogBand (ch / 16) s with
  | none => none
  | some (b, s1) =>
    let ch' := if isMember s1 b ch && ch != parityChan s1 b then some ch else (dataMembers s1 b).head?
    match ch' with
    | none => none
    | some c => match freeRow (bandOf s1 b) c with
      | none => none
      | some r =>
        let s2 := modBand b (fun x => { x with
          prog := bandSlot r c :: x.prog
          rowStart := if r = x.row ∧ x.rowStart = none then some (now s1) else x.rowStart }) s1
        let s3 := closeRow b s2
        some (slotPlace b c r, { s3 with flash := { s3.flash with
          wseq := s3.flash.wseq + 1, sinceCkpt := s3.flash.sinceCkpt + 1 } })

/-! ## Maps -/

/-- Live log-map entries, and the entries the in-service channels hold (R281). -/
def logEntries (s : State) : Nat := (s.ferry.far.filter (fun p => p.2.inLog)).length
def logCapacity (s : State) : Nat := 1048576 * (inService s).length

/-- An insertion waits for a merge while entries exceed 75 % (R284). -/
def logFull (s : State) : Bool := decide (3 * logCapacity s < 4 * logEntries s)

/-- Entries of the far poison list: chunks with a poison line (R395). -/
def poisonChunks (t : Tab Bool) : List Nat := (t.map (fun p => p.1 / 64)).eraseDups

/-- A tile's poisoned chunks fit in the far poison list beside those of other tiles' copies. -/
def poisonFits (s : State) (snapPoison : Tab Bool) : Bool :=
  decide ((poisonChunks s.mem.farPoison).length + (poisonChunks snapPoison).length ≤ 131072)

/-- The checksum TCRC of a tile's near bytes (R130). -/
def tileCrc (near : Tab Byte) (t : Nat) : Nat := crc32c (loadBytes near (t * 65536) 65536)

/-- Keep the ratio of the demotions of the running window of 65,536 (FERRY_RATIO), and the write amplification of the
running window of 2²⁰. -/
def noteDemotion (len programs : Nat) (s : State) : State :=
  let f := s.flash
  let rin := f.ratioIn + 65536
  let rout := f.ratioOut + len
  let s1 := rset Obj.FERRY_RATIO 0 (rin * 1000 / (max 1 rout)) s
  let dem := f.ampDem + 1
  let prog := f.ampProg + programs
  let s2 := rset Obj.FAR_WRITE_AMP 0 (prog * 1000 / dem) s1
  { s2 with flash := { s2.flash with
    ratioIn := if f.ratioN + 1 = 65536 then 0 else rin
    ratioOut := if f.ratioN + 1 = 65536 then 0 else rout
    ratioN := (f.ratioN + 1) % 65536
    ampProg := if dem = 1048576 then 0 else prog
    ampDem := dem % 1048576 } }

/-- Replace a tile's far copy by what a crossing read: a ZERO mark when every line is zero, else a new log slot with the
snapshot's bytes, poison and header (R111, R132, R283, R395). `none` when no slot can be programmed. -/
def writeFar (t : Nat) (c : Crossing) (s : State) : Option State :=
  if c.snap.isEmpty && c.snapPoison.isEmpty then
    some { s with
      ferry := { s.ferry with far := tput {} s.ferry.far t { kind := 0, inLog := true } }
      mem := { s.mem with far := tclear s.mem.far (t * 65536) 65536, farPoison := tclear s.mem.farPoison (t * 1024) 1024 } }
  else match programLog c.flash s with
    | none => none
    | some (place, s1) =>
      let len := tileLen (rget Obj.FERRY_COMPRESS 0 s == 1) c.snap (t * 65536)
      let hdr := if c.snapHdr.sealed then c.snapHdr else { c.snapHdr with tcrc := tileCrc c.snap t, sealed := true }
      let hdr' := keyHdr (keyFor s t) hdr
      some (noteDemotion (len + 64) 1 (radd Obj.FERRY_BYTES_NEAR 0 65536 (radd Obj.FERRY_BYTES_FAR 0 (len + 64) { s1 with
        ferry := { s1.ferry with far := tput {} s1.ferry.far t ⟨1, placeChan place, place, s1.flash.wseq, hdr', len, true, false⟩ }
        mem := { s1.mem with far := tcopy s1.mem.far c.snap (t * 65536) 65536
                             farPoison := tcopy s1.mem.farPoison c.snapPoison (t * 1024) 1024 } })))

end Sys2Proof.Machine
end

