-- ==== Sys2Proof/Machine/Record.lean ====
section
/-! DEFINITION. The configuration record (R517): what it holds, and when it is written. -/

namespace Sys2Proof.Machine

/-- What a record written now would hold. A permission change in the queue counts as complete, with every epoch it flips drained; a region
or berth that is being removed is in it as RETIRING or DELETING (R517). -/
def snapshot (s : State) : CfgRec :=
  let flipped := s.berths.queue.flatMap (fun q => flips s q.2)
  { regs := tkeep (fun k => configIds.contains (k / 65536)) s.regs
    berths := s.berths.berths.map (fun p =>
      let e := (p.2.epoch + (flipped.filter (· == p.1)).length) % 65536
      (p.1, { p.2 with epoch := e, drained := e }))
    grants := grantsQueued s
    landingWorld := s.berths.landingWorld
    confDevice := s.berths.confDevice
    regions := s.regions.map (fun p => (p.1, { p.2 with noRights := p.2.st == 3, removeExtents := false, removeRecall := false }))
    binds := (s.lds.filter (fun p => p.2.berth != 0xFF)).map (fun p => (p.1, p.2.berth))
    enabled := (s.lds.filter (fun p => p.2.enabled)).map (·.1)
    panels := (s.grid.panels.filter (fun p => p.2.berth != 0xFF && !p.2.lent)).map (fun p => (p.1, (p.2.berth, p.2.world)))
    shapers := s.meters.shapers
    chmap := s.ferry.chmap
    chmapBase := s.ferry.chmapBase
    role := s.pair.role }

/-- The Pilot has programmed both copies of the record (R517): the statuses that waited for it go out, those of a permission change once it
has drained as well. -/
def execConfigRecordWritten (s : State) : Answer :=
  .next (deliverPosts { s with cfg := { saved := if recordLive s then snapshot s else s.cfg.saved, posts := s.cfg.posts.map (fun p => { p with written := true }) } })

/-- The record as a reset finds it: a change that a command waits for is absent until its write has completed; what no command waits for is
recorded as it happens (DESIGN CHOICE). While the record is not in force it stays as it is. -/
def recordAtReset (s : State) : CfgRec :=
  if !recordLive s then s.cfg.saved
  else if s.cfg.posts.any (fun p => !p.written) then
    { s.cfg.saved with chmap := s.ferry.chmap, chmapBase := s.ferry.chmapBase, role := s.pair.role }
  else snapshot s

end Sys2Proof.Machine
end

