-- ==== Sys2Proof/Machine/Reset.lean ====
section
/-! DEFINITION. Resets (R392, R509 to R513, R516, R519, R523): causes, the entry sequence, what a reset keeps, and the start of the
boot. -/

namespace Sys2Proof.Machine

/-! ## Loss bitmap and quiescing (R291, R519) -/

/-- A region had data in the near shore that no far copy holds: a NEAR_DIRTY tile, or for a reserving class a DIRTY bit. -/
def regionLoses (s : State) (n : Nat) : Bool :=
  let g := regionOf s n
  s.ferry.tags.any (fun p => decide (g.base * tilesPerGib ≤ p.1) && decide (p.1 < (g.base + g.size) * tilesPerGib)
    && (if reserving g then p.2.dirty != 0 else p.2.st == 4))

/-- Regions in use. -/
def regionsInUse (s : State) : List Nat := (s.regions.filter (fun p => p.2.st != 0)).map (·.1)

/-- Flash is quiesced (R291): no crossing goes on, the parity of every open row is programmed, and a checkpoint marker with the
loss bitmap is written. -/
def quiesceFlash (s : State) : State :=
  let s1 := each s.ferry.crossings (fun c s => match c.kind with
    | .promote => s
    | .evict => abortEvict c.tile s
    | .clean => abortClean c.tile s) s
  let s2 := each (s1.flash.bands.map (·.1)) flushBand s1
  { s2 with boot := { s2.boot with marker := some ((regionsInUse s2).filter (regionLoses s2)) } }

/-! ## What a reset keeps (R516, Table 24.4) -/

/-- Objects whose values stand in Thimble NVM, fuses or the boot record and survive every reset: credentials, life-cycle, firmware
record, pair secret, the reset cause and counters that Table 24.4 keeps, and the straps. -/
def survives (key : Nat) : Bool :=
  let i := key / 65536 / 256
  let n := key / 65536 % 256
  i == 0x1100 || i == 0x1101 || (i == 0x2300 && n != 5) || (i == 0x2400 && n != 5) || (i == 0x2401 && n != 1) || (i == 0x2402 && n != 5)
    || (i == 0x2500 && (n == 2 || n == 4)) || (i == 0x2600 && n == 1) || (i == 0x3402 && n == 1) || i == 0xA400

/-- The manifest after a reset: a warm restart keeps what step 6 sweeps and the dead-agent log. -/
def resetManifest (cold : Bool) (m : Manifest) : Manifest :=
  if cold then {} else
    { planeA := { entries := m.planeA.entries }, planeB := { entries := m.planeB.entries }, deadLog := m.deadLog, setK := m.setK, newK := m.setK }

/-- Tag entries that a warm restart keeps, as R518 leaves them: HELD and STAGE cleared, PIN kept, and a RECALLING tile in the state it
left. A promotion under way is started again from its valid lines. -/
def resetTag (g : Tag) : Tag :=
  { g with
    held := false, stage := false, expiry := 0, abandon := false, noDemote := false, checking := false, kept := 0
    st := if g.st = 5 then (if g.dirty = 0 && g.left == 3 then 3 else 4) else if g.st = 6 then 4 else g.st }

/-- The internal reset (Table 24.4). Configuration that the record holds comes back at boot step 5. -/
def resetState (cold : Bool) (s : State) : State :=
  { s with
    regs := tkeep survives s.regs
    cmdRes := [], regions := [], lds := []
    clk := { tsx := if cold then 0 else s.clk.tsx }
    mf := resetManifest cold s.mf
    atw := {}
    ferry := { tags := if cold then [] else s.ferry.tags.map (fun p => (p.1, resetTag p.2)), far := s.ferry.far
               chmapBase := s.ferry.chmapBase, chmap := s.ferry.chmap }
    mem := if cold then { far := s.mem.far, farPoison := s.mem.farPoison } else { s.mem with ls := [], lsPoison := [] }
    grid := { panels := (s.grid.panels.filter (fun p => p.2.st == 4)).map (fun p => (p.1, { st := 4 })) }
    hosts := { links := (s.hosts.links.filter (fun p => p.2.perst)).map (fun p => (p.1, { perst := true })) }
    meters := {}
    errs := { resetRecord := s.errs.resetRecord, log := if cold then [] else s.errs.log
              buckets := if cold then [] else s.errs.buckets.filter (fun p => p.2.held) }
    berths := { leafSerial := s.berths.leafSerial, leafOf := s.berths.leafOf }
    dram := { chans := s.dram.chans, log := if cold then [] else s.dram.log, degraded := s.dram.degraded
              queue := s.dram.retiring.toList ++ s.dram.queue }
    flash := { s.flash with queue := s.flash.retiring.toList ++ s.flash.queue, retiring := none, merging := [], reclaiming := [], flxLost := [], belowFloor := false }
    seam := {}
    red := { claimA := s.red.claimA, claimB := s.red.claimB, planeCtr := s.red.planeCtr, unitCtr := s.red.unitCtr
             divLog := if cold then [] else s.red.divLog }
    hlt := {}
    pair := {}
    jobs := {}
    weave := {}
    keys := s.keys
    tack := {}
    power := { tripped := s.power.tripped, temps := s.power.temps, vcore := if cold then 750 else s.power.vcore }
    test := {}
    cfg := { saved := recordAtReset s, posts := [] } }

/-! ## Starting and entering (R511, R512, R523) -/

/-- A start begins: boot step 1, with the recorded cause reported. -/
def startBoot (cold : Bool) (s : State) : State :=
  let s1 := rset Obj.BOOT_STEP 0 1 (rset Obj.RESET_KIND 0 (b2n (!cold)) (rset Obj.RESET_CAUSE 0 (s.boot.recorded.getD 0)
    (rinc Obj.BOOT_COUNT 0 s)))
  { s1 with boot := { s1.boot with recorded := none, cold := cold, held := 0, flush := none, unretained := []
                                   unprepared := s1.boot.unprepared || cold } }

/-- The reset sequencer records a cause in Thimble NVM; the first one stands (R511, R523). -/
def recordCause (cause : Nat) (s : State) : State :=
  { s with boot := { s.boot with recorded := some (s.boot.recorded.getD cause) } }

/-- A reset with its entry sequence (R512): flash quiesced, the internal reset, and the boot, or with `halt` the hold until PORST_N.
A warm cause during boot steps 4 to 6 of a cold start leads to a cold start; in steps 1 to 3 it starts the boot again (R523). While
the device is held in reset nothing changes. -/
def enterReset (cause : Nat) (cold halt : Bool) (s : State) : State :=
  if s.boot.held ≠ 0 then s
  else
    let step := rget Obj.BOOT_STEP 0 s
    let cold' := cold || (s.boot.unprepared && decide (4 ≤ step) && decide (step ≤ 6))
    let s1 := resetState cold' (if step = 0 ∨ 5 ≤ step then quiesceFlash (recordCause cause s) else recordCause cause s)
    if halt then { s1 with boot := { s1.boot with held := 1, unprepared := s1.boot.unprepared || cold' } } else startBoot cold' s1

/-! ## Containment (R391 to R393) -/

/-- A containment reset (Table 17.3): the record goes to RESET_RECORD and the error log and is sent whatever the reporting mode, and
the device restarts warm. -/
def containReset (cause source inst : Nat) (line : Option Nat) (detail : Nat) (s : State) : State :=
  if s.boot.held ≠ 0 then s
  else
    let r := mkRec source inst 4 line detail s
    let s1 := logRec true 0x64 r (rinc Obj.CONTAIN_RESETS 0 { s with errs := { s.errs with resetRecord := some r } })
    enterReset cause false false s1

end Sys2Proof.Machine
end

