-- ==== Sys2Proof/Machine/Ferry.lean ====
section
/-! DEFINITION. The ferry's events and the hints (R96 to R126). -/

namespace Sys2Proof.Machine

/-- Hint slot key: logical device × 64 + slot. -/
def hintKey (ld slot : Nat) : Nat := ld * 64 + slot
def hintOf (s : State) (k : Nat) : HintSlot := tget {} s.ferry.hints k
def modHint (k : Nat) (f : HintSlot → HintSlot) (s : State) : State :=
  { s with ferry := { s.ferry with hints := tmod {} s.ferry.hints k f } }

/-- A DEMOTE hint still wants the tile out. -/
def hintWantsOut (s : State) (t : Nat) : Bool := s.ferry.hints.any (fun p => p.2.busy && p.2.kind == 1 && p.2.left.contains t)

/-! ## Choosing a tile for demotion -/

/-- Choose a resident tile for eviction in a class (Table 05.4): recalled first while HELD; dropped when clean; else an
evicting demotion, if the far shore takes it and its poison fits the list (R395). -/
def evictTile (t cls : Nat) (s : State) : State :=
  let g := tagOf s t
  if g.st ≠ 3 ∧ g.st ≠ 4 then s
  else if heldNow s t then startTileRecall t (modTag t (fun g => { g with st := 5, left := g.st, abandon := false }) s)
  else if g.st = 3 ∧ !(farOf s t).stale then dropTile t s
  else match pickFlash s with
    | none => s
    | some f => addCrossing t .evict cls f g.home 0 (modTag t (fun g => { g with st := 6 }) s)

/-- Clean a NEAR_DIRTY tile with HELD 0 (Table 05.4). -/
def cleanTile (t cls : Nat) (s : State) : State :=
  match pickFlash s with
  | none => s
  | some f => addCrossing t .clean cls f (tagOf s t).home 0 (modTag t (fun g => { g with st := 6 }) s)

/-- Frames FERRY_FREE_LOW asks a channel to keep free (R119). -/
def freeLow (s : State) (c : Nat) : Nat := poolFrames s c * rget Obj.FERRY_FREE_LOW 0 s / 1000

/-- Victims already on their way out of a channel. -/
def leavingFrames (s : State) (c : Nat) : Nat :=
  ((cachedIn s c).filter (fun p => (p.2.st == 5 && !p.2.abandon) || (p.2.st == 6 && (match crossingOf s p.1 with
    | some k => k.kind == .evict
    | none => false)))).length

/-- Preference of a victim (R119): 0, 1 or 2. -/
def preference (s : State) (p : Nat × Tag) : Nat :=
  if heldNow s p.1 then 2 else if p.2.st = 3 then 0 else 1

/-- Displaced tiles of a reserving region whose home is the channel come back as frames free (R269): a cached one keeps its frame as a
reserved one, a FAR one is promoted as class 2. -/
def returnDisplaced (chan : Nat) (s : State) : State :=
  each s.regions (fun p s => each p.2.displaced (fun t s =>
    let g := regionOf s p.1
    if g.chans.getD (tileIndex g t % g.chans.length) 0 ≠ chan then s
    else
      let q := tagOf s t
      let back (f : Tag) (s : State) : State :=
        let s1 := modRegion p.1 (fun g => { g with displaced := g.displaced.filter (fun u => u != t) })
          { s with ferry := { s.ferry with tags := tput {} s.ferry.tags t {} } }
        setTag t f s1
      if (q.st = 3 ∨ q.st = 4) ∧ q.home = chan then back { q with rsv := true, frame := movedFrame chan q.frame } s
      else if q.st ≠ 0 ∨ freeFrames s chan = 0 ∨ (chanOf s chan).st ≠ 3 then s
      else if (farOf s t).kind = 0 then back (keyTag (keyFor s t) rsvFresh) s
      else
        let f := farOf s t
        addCrossing t .promote 2 (sourceFlash s t) chan 0
          (back (keyTag (keyFor s t) { st := 2, rsv := true, hdr := f.hdr }) s)) s) s

/-- The channel's eviction sweep (R119): one walk from where it stopped clears REF where it is set and skips those entries,
and chooses among the others in order of preference as many as the level still lacks. -/
def execEvictionSweep (chan : Nat) (s0 : State) : Answer :=
  let s := returnDisplaced chan s0
  let free := freeFrames s chan + leavingFrames s chan
  if (chanOf s chan).st ≠ 3 ∨ freeLow s chan ≤ free then .next s
  else
    let walk := (sweepOrder s chan).filter (mayEvict s)
    let cands := walk.filter (fun p => !p.2.ref)
    let chosen := (cands.filter (fun p => preference s p == 0) ++ cands.filter (fun p => preference s p == 1)
      ++ cands.filter (fun p => preference s p == 2)).take (freeLow s chan - free)
    let s1 := each (walk.filter (fun p => p.2.ref)) (fun p s => modTag p.1 (fun g => { g with ref := false }) s) s
    let s2 := each chosen (fun p s => evictTile p.1 1 s) s1
    let at_ := match chosen.getLast? with
      | some p => p.2.frame + 1
      | none => tget 0 s.ferry.sweepAt chan
    .next (serveMisses { s2 with ferry := { s2.ferry with sweepAt := tput 0 s2.ferry.sweepAt chan at_ } })

/-- The age tick (R121): AGE of a tile not accessed during the tick rises, saturating at 255, else it is 0; an old enough
NEAR_DIRTY tile with HELD 0 is cleaned in class 3. Channels that evacuate are left out (R267). -/
def execAgeTick (s : State) : Answer :=
  let tiles := s.ferry.tags.filter (fun p => p.2.st != 0 && !p.2.rsv && (chanOf s p.2.home).st == 3)
  let s1 := each tiles (fun p s => modTag p.1 (fun g => { g with
    age := if g.accessed then 0 else min 255 (g.age + 1), accessed := false }) s) s
  let limit := rget Obj.FERRY_DEMOTE_AGE 0 s
  .next (each tiles (fun p s =>
    let g := tagOf s p.1
    if limit ≠ 0 ∧ limit ≤ g.age ∧ g.st = 4 ∧ !heldNow s p.1 ∧ !g.noDemote then cleanTile p.1 3 s else s) s1)

/-! ## Hints -/

/-- PIN tiles of a channel, and of a berth (R126). -/
def pinnedIn (s : State) (c : Nat) : Nat := (s.ferry.tags.filter (fun p => p.2.pin && p.2.home == c)).length
def pinnedOf (s : State) (b : Nat) : Nat :=
  (s.ferry.tags.filter (fun p => p.2.pin && (match regionAtTile s p.1 with
    | some r => (regionOf s r).owner == b
    | none => false))).length

/-- STAGE tiles that a home slice's stage table holds (R125). -/
def stagedIn (s : State) (c : Nat) : Nat := (s.ferry.tags.filter (fun p => p.2.stage && p.2.home == c)).length

/-- A hint has ended (Tables 05.13, 05.14). -/
def endHint (k code : Nat) (s : State) : State :=
  let ld := k / 64
  let s1 := modHint k (fun h => { h with status := code, busy := false, left := [] }) s
  if 8192 ≤ k then { s1 with ferry := { s1.ferry with hints := tput {} s1.ferry.hints k {} } }
  else if code = 2 then rinc Obj.HINTS_DONE ld s1
  else if code = 3 then rinc Obj.HINTS_PARTIAL ld s1
  else if code = 0x10 then rinc Obj.HINTS_REFUSED_RED ld s1
  else s1

/-- STAGE holds of a hint run from its end (R124): each staged tile's expiry is the later of the two. -/
def stageExpiries (tiles : List Nat) (hold : Nat) (s : State) : State :=
  each tiles (fun t s => modTag t (fun g => if g.stage then { g with expiry := max g.expiry (now s + hold * 25000) } else g) s) s

/-- Tiles of a hint word. -/
def hintTiles (word : Nat) : List Nat := (List.range (bits word 33 16 + 1)).map (· + bits word 0 33)

/-- End a hint that has no tile left: DONE, or PARTIAL when some were skipped. -/
def closeHint (k : Nat) (s : State) : State :=
  let h := hintOf s k
  if h.busy && h.left.isEmpty then
    let s1 := if h.kind = 2 then stageExpiries (hintTiles h.word) h.hold s else s
    endHint k (if h.skipped = 0 then 2 else 3) s1
  else s

/-- What a tile of a hint comes to now: at its target (the tag changed), skipped, or still on its way. -/
inductive HintStep where
  | done (s : State)
  | skip
  | wait (s : State)

/-- PIN or STAGE a resident tile; an eviction under way is given up. -/
def keepTile (t : Nat) (stage : Bool) (s : State) : State :=
  let s1 := match crossingOf s t with
    | some c => if c.kind = .evict then abortEvict t s else s
    | none => s
  modTag t (fun g => { g with
    pin := g.pin || !stage, stage := g.stage || stage
    abandon := g.abandon || g.st == 5 }) s1

/-- One tile of a hint (R124, R125). `kind`: 0 PROMOTE, 1 DEMOTE, 2 STAGE, 3 PIN, 4 UNPIN, 5 UNSTAGE. A PIN of a ZERO tile
has nothing to hold and waits for no crossing: it is brought resident as a zero tile with a frame (DEDUCED from R124, which
exempts a ZERO tile under PROMOTE and STAGE only). -/
def hintTile (kind t : Nat) (s : State) : HintStep :=
  let g := tagOf s t
  let retiring := match regionAtTile s t with
    | some r => (regionOf s r).st == 3
    | none => true
  let zero := g.st == 0 && (farOf s t).kind == 0
  let resident := decide (3 ≤ g.st)
  if kind = 4 then .done (if g.st = 0 then s else modTag t (fun g => { g with pin := false }) s)
  else if kind = 5 then .done (if g.st = 0 then s else modTag t (fun g => { g with stage := false, expiry := 0 }) s)
  else if kind = 1 then
    if g.st = 0 then .done s
    else if g.rsv || g.pin || g.stage then .skip
    else if retiring then .skip
    else if g.st = 3 ∨ g.st = 4 then
      let s1 := evictTile t 3 s
      if (tagOf s1 t).st = 0 then .done s1 else .wait s1
    else .wait s
  else if g.rsv then .done s
  else if (kind = 0 ∨ kind = 2) ∧ zero then .done s
  else if retiring then .skip
  else if kind = 2 ∧ !g.stage ∧ 8192 ≤ stagedIn s (homeOf s t) then .skip
  else if resident then
    if kind = 0 then .done s
    else if kind = 2 then .done (keepTile t true s)
    else .done (keepTile t false s)
  else if g.st = 2 then .wait s
  else if zero then
    match zeroToNear t s with
    | some s1 => .done (keepTile t false (modTag t (fun g => { g with st := 3 }) s1))
    | none => .wait s
  else match startPromotion t 2 0 s with
    | some s1 => .wait s1
    | none => .wait s

/-- Try the tiles a hint still waits for, in ascending order. -/
def advanceHint (k : Nat) (s : State) : State :=
  let h := hintOf s k
  if !h.busy then s
  else closeHint k (each h.left (fun t s =>
    match hintTile h.kind t s with
    | .done s1 => modHint k (fun h => { h with done := h.done + 1, left := h.left.erase t }) s1
    | .skip => modHint k (fun h => { h with skipped := h.skipped + 1, left := h.left.erase t }) s
    | .wait s1 => s1) s)

/-- Let every hint that waits for a tile look at it again. -/
def hintsOn (t : Nat) (s : State) : State :=
  each ((s.ferry.hints.filter (fun p => p.2.busy && p.2.left.contains t)).map (·.1)) advanceHint s

/-- A RESTART with FLUSH goes on (R513): every NEAR_DIRTY tile of plain and tandem regions is cleaned at class 1, whether HELD or not since
the links are down; when none is left, the entry sequence runs with the command's argument. -/
def continueFlush (s : State) : State :=
  match s.boot.flush with
  | none => s
  | some arg =>
    let s1 := each ((s.ferry.tags.filter (fun p => p.2.st == 4 && !p.2.rsv)).map (·.1)) (fun t s => cleanTile t 1 s) s
    if s1.ferry.tags.any (fun p => !p.2.rsv && (p.2.st == 4 || p.2.st == 6 || (p.2.st == 5 && p.2.dirty != 0))) then s1
    else enterReset 7 (bits arg 0 2 == 1) (bit arg 3) { s1 with boot := { s1.boot with flush := none } }

/-- After a frame or a tile changed: waiting accesses and hints on the tile go on, and what they answered may wake others. -/
def settleTile (t : Nat) (s : State) : State := continueFlush (wake (hintsOn t (serveMisses s)))

/-! ## Crossings -/

/-- The chunk that moves after chunk `k`: the next one upwards with wrap-around that is not in place (R104). -/
def nextChunk (placed k : Nat) : Nat :=
  match (List.range 16).find? (fun j => !bit placed ((k + 1 + j) % 16)) with
  | some j => (k + 1 + j) % 16
  | none => k

/-- Copy a chunk from the far copy into the frame, but for lines that are VALID already (R104, R105); a line of the far
poison list comes in as poison (R395). -/
def placeLines (t chunk : Nat) (s : State) : State :=
  let g := tagOf s t
  each (List.range 64) (fun i s =>
    let n := chunk * 64 + i
    let line := t * 1024 + n
    if mapBit g.valid n then s
    else putNear line (loadBytes s.mem.far (line * 64) 64) fullMask (tget false s.mem.farPoison line) s) s

/-- The last chunk is in place: the promotion commits (Table 05.4). -/
def endPromotion (t : Nat) (c : Crossing) (s : State) : State :=
  let f := farOf s t
  let s1 := modTag t (fun g => { g with
    st := if g.dirty = 0 then 3 else 4
    valid := BitVec.allOnes 1024
    hdr := keyHdr (g.kslot, g.hdr.kgen) { f.hdr with sealed := g.dirty == 0 } }) (dropCrossing t s)
  let s2 := radd Obj.FERRY_BYTES_NEAR 0 65536 (radd Obj.FERRY_BYTES_FAR 0 (f.len + 64) (rinc Obj.FERRY_PROMOTIONS 0 s1))
  let s3 := if c.cls = 0 then rmax Obj.FERRY_MISS_MAX 0 (now s - c.start) s2 else s2
  if f.stale then cleanTile t 3 (modTag t (fun g => { g with st := 4 }) s3) else s3

/-- A chunk of a promotion is placed in its frame (R104): its lines become valid and waiting accesses are served; the last
chunk ends the promotion. -/
def placeChunk (t chunk : Nat) (s : State) : State :=
  match crossingOf s t with
  | none => s
  | some c =>
    let s1 := placeLines t chunk s
    let s2 := modTag t (fun g => { g with valid := g.valid ||| chunkMask chunk }) s1
    let placed := c.placed ||| 2 ^ chunk
    let s3 := modCrossing t (fun c => { c with placed := placed, next := nextChunk placed chunk, rebuilding := none }) s2
    settleTile t (if placed = 65535 then endPromotion t c s3 else s3)

/-- A chunk that cannot be rebuilt is placed as poison with DIRTY set, except lines written meanwhile (R289), or the device resets
(R391). A tile is counted once. -/
def failRebuild (t chunk : Nat) (s : State) : State :=
  let f := farOf s t
  let first := t * 1024 + chunk * 64
  if containsByReset s (homeOf s t) first then containReset 1 0xA1 0 (some first) 0 s
  else
    let counted := (crossingOf s t).any (fun c => !c.snapPoison.isEmpty)
    let lines := ((List.range 64).map (· + first)).filter (fun l => !mapBit (tagOf s t).valid (lineIdx l))
    let s1 := each lines (fun l s => modTag t (fun g => { g with
        valid := mapSet g.valid (lineIdx l), dirty := mapSet g.dirty (lineIdx l), hdr := { g.hdr with sealed := false } })
      (putNear l (List.replicate 64 0) fullMask true s)) s
    let s2 := modCrossing t (fun c => { c with snapPoison := [(0, true)] }) (if counted then s1 else rinc Obj.FAR_UNRECOVERED 0 s1)
    placeChunk t chunk (logErrorAt (32 + f.chan) 0xA1 3 (some first) 0 s2)

/-- CHUNK_PLACED: the chunk that moves next is placed, read from its slot, or rebuilt from the row when its channel is out of service
(R288). A chunk that cannot be rebuilt is placed by FAR_READ_FAILURE, and a far copy with a key mismatch is handled as a failed
rebuild (R434). `suspended`: a demand read of the chunk suspended a program or an erase that ran in its target (R287). -/
def execChunkPlaced (tile chunk : Nat) (suspended : Bool) (s : State) : Answer :=
  match crossingOf s tile with
  | none => .next s
  | some c =>
    let f := farOf s tile
    let direct := (flashOf s f.chan).st == 3 || (flashOf s f.chan).st == 4 || f.kind == 0
    if c.kind ≠ .promote ∨ c.held < slotsNeeded c ∨ c.next ≠ chunk ∨ bit c.placed chunk ∨ c.rebuilding.isSome then .next s
    else if f.kind = 1 ∧ keyMismatch s tile f.hdr.kslot f.hdr.kgen = true then
      .next (failRebuild tile chunk (if c.placed = 0 then rinc Obj.KEY_MISMATCHES 0 s else s))
    else if direct then
      .next (placeChunk tile chunk (if suspended ∧ c.cls = 0 ∧ f.kind = 1 then rinc Obj.FLASH_SUSPENDS f.chan s else s))
    else if rowRebuilds s f.slot then
      .next (placeChunk tile chunk (rinc Obj.FAR_REBUILDS 0 (modFar tile (fun f => { f with stale := true }) s)))
    else .next s

/-! ## Tile checksum failures (R132, R397) -/

/-- A sealed resident tile fails its TCRC: it is held back from demotion, its crossing is given up, and a tile recall runs whose
write-backs are kept. The event feeds the home channel's bucket. -/
def startCheck (t : Nat) (s : State) : State :=
  let g := tagOf s t
  if g.st = 0 ∨ g.st = 2 ∨ g.checking then s
  else
    let s1 := match crossingOf s t with
      | some c => if c.kind = .clean then abortClean t s else if c.kind = .evict then abortEvict t s else s
      | none => s
    startTileRecall t (modTag t (fun g => { g with checking := true, kept := 0, noDemote := true })
      (bucketEvent 0x02 (homeOf s t) 0 none 0 (rinc Obj.TILE_CHECK_FAILURES 0 s1)))

/-- The handling of a checksum failure ends with a record of SOURCE 0xAD. -/
def endCheck (t cls : Nat) (s : State) : State :=
  settleTile t (logErrorAt (homeOf s t) 0xAD cls (some (t * 1024)) 0
    (modTag t (fun g => { g with checking := false, kept := 0, noDemote := false }) s))

/-- No repair source: every line that was not written back is poison, or the device resets (item 4 of R397). -/
def loseTile (t : Nat) (s : State) : State :=
  let kept := (tagOf s t).kept
  if containsByReset s (homeOf s t) (t * 1024) then containReset 1 0xAD 0 (some (t * 1024)) 0 s
  else endCheck t 3 (each (((List.range 1024).filter (fun n => !mapBit kept n)).map (· + t * 1024)) poisonInPlace s)

/-- The recall of a checksum failure has ended: the first repair of R397 that applies. -/
def repairTile (t : Nat) (s : State) : State :=
  let g := tagOf s t
  let mirrored : Bool := match regionAtTile s t with
    | some r => (regionOf s r).cls == 1
    | none => false
  let f := farOf s t
  if g.st = 3 ∧ f.kind = 1 ∧ f.stale = false then
    addCrossing t .promote 1 (sourceFlash s t) (homeOf s t) 0
      (modTag t (fun g => { g with st := 2, valid := 0, zb := false }) (endCheck t 5 s))
  else if mirrored ∧ tileCrc s.mem.near t = g.hdr.tcrc then endCheck t 5 s
  else if canFetch s (t * 1024) then fetchLines ((List.range 1024).map (· + t * 1024)) .seal s
  else loseTile t s

/-- The fetches of a checksum failure have all been answered: the partner's tile is installed if it passes TCRC (item 3 of R397). -/
def sealFetched (t : Nat) (s : State) : State :=
  let mine (f : Fetch) : Bool := f.why == .seal && tileOfLine f.line == t
  let fs := (s.seam.fetches.filter mine).mergeSort (fun a b => decide (a.line ≤ b.line))
  if fs.any (fun f => f.got.isNone) then s
  else
    let bytes := fs.flatMap (fun f => f.got.getD [])
    let s1 := { s with seam := { s.seam with fetches := s.seam.fetches.filter (fun f => !mine f) } }
    let g := tagOf s t
    if bytes.length = 65536 ∧ crc32c bytes = g.hdr.tcrc then
      endCheck t 5 (each ((List.range 1024).filter (fun n => !mapBit g.kept n)) (fun n s =>
        restoreLine (t * 1024 + n) ((bytes.drop (n * 64)).take 64) false s) s1)
    else loseTile t s1

/-- A demotion read content that fails the sealed TCRC it must keep (R132). -/
def demotionFails (c : Crossing) (s : State) : Bool :=
  c.snapHdr.sealed && rget Obj.TCRC_VERIFY_DEMOTE 0 s == 1 && tileCrc c.snap c.tile != c.snapHdr.tcrc

/-- A demotion that the far poison list has no room for is not committed: the tile stays NEAR_DIRTY (R395). -/
def poisonFull (t : Nat) (c : Crossing) (s : State) : State :=
  rinc Obj.FAR_POISON_FULL_WAITS 0 (if c.kind = .clean then abortClean t s
    else modTag t (fun g => { g with st := 4 }) (dropCrossing t s))

/-- The far copy of a demotion is committed (R283, Table 05.4). A cleaning whose tile no write reached since its snapshot
leaves the near header sealed (R132); a re-key crossing leaves the tile under the other key slot (R438). -/
def execFarCopyCommit (tile : Nat) (s : State) : Answer :=
  match crossingOf s tile with
  | none => .next s
  | some c =>
    if c.kind = .promote ∨ c.held < slotsNeeded c ∨ logFull s ∨ !farTakes s then .next s
    else if demotionFails c s then .next (settleTile tile (startCheck tile (rinc Obj.TCRC_FAIL_DEMOTE 0 s)))
    else if !poisonFits s c.snapPoison then .next (settleTile tile (poisonFull tile c s))
    else match writeFar tile c s with
      | none => .next s
      | some s1 =>
        let s2 := dropCrossing tile s1
        if c.kind = .evict then
          .next (settleTile tile (rinc Obj.FERRY_DEMOTIONS 0 { s2 with
            ferry := { s2.ferry with tags := tput (tagDflt s2 tile) s2.ferry.tags tile {} }
            mem := { s2.mem with near := tclear s2.mem.near (tile * 65536) 65536
                                 nearPoison := tclear s2.mem.nearPoison (tile * 1024) 1024 } }))
        else
          .next (settleTile tile (rinc Obj.FERRY_CLEANINGS 0 (modTag tile (fun g => { g with
            st := if g.dirty = 0 then 3 else 4
            hdr := if g.dirty = 0 && !c.written then keyHdr (g.kslot, g.hdr.kgen) (farOf s1 tile).hdr else g.hdr }) s2)))

/-- A freed slot goes to a waiting crossing in class order, within a class in arrival order (R110). -/
def execSlipwaySlotGranted (endpoint : Nat) (s : State) : Answer :=
  let waiting := s.ferry.crossings.filter (fun c => c.waiting && nextEndpoint c == endpoint && (slotFor s c endpoint).isSome)
  let best := waiting.foldl (fun b c => match b with
    | none => some c
    | some k => if servedClass c < servedClass k then some c else some k) none
  match best with
  | none => .next s
  | some c => .next (bookOne c.tile false (bookOne c.tile true s))

/-- A crossing has waited at an endpoint longer than FERRY_AGING_LIMIT (R110). -/
def execSlipwayAgingLimit (endpoint tile : Nat) (s : State) : Answer :=
  match crossingOf s tile with
  | none => .next s
  | some c =>
    if c.waiting ∧ nextEndpoint c = endpoint then .next (modCrossing tile (fun c => { c with aged := true }) s) else .next s

/-- A tile recall's scan has ended (R70, R102). Copies taken meanwhile are recalled first. With none left HELD is cleared,
and a RECALLING tile goes where ABANDON says; the handling of a checksum failure goes on (R397). -/
def execTileRecallComplete (tile : Nat) (s : State) : Answer :=
  if !s.mf.tileRecalls.contains tile then .next s
  else if !(tileLines s tile).isEmpty then .next (recallLines (tileLines s tile) false s)
  else
    let s1 := { s with mf := { s.mf with tileRecalls := s.mf.tileRecalls.erase tile } }
    let g := tagOf s1 tile
    if g.st = 0 then .next (settleTile tile s1)
    else
      let s2 := modTag tile (fun g => { g with held := false }) s1
      if g.checking then .next (repairTile tile s2)
      else if g.st ≠ 5 then .next (settleTile tile s2)
      else
        let back := modTag tile (fun g => { g with st := if g.dirty = 0 && g.left == 3 then 3 else 4, abandon := false }) s2
        if g.abandon || s.mf.ready.any (fun r => tileOfLine r.line == tile) then .next (settleTile tile back)
        else .next (settleTile tile (evictTile tile (if hintWantsOut s tile then 3 else 1) back))

/-! ## Hint commands (R123 to R126) -/

/-- Every GiB that a hint's tiles touch lies in an accepted extent of the logical device whose world it reaches. -/
def hintInExtents (ld tile count : Nat) (s : State) : Bool :=
  ((List.range ((tile + count) / tilesPerGib - tile / tilesPerGib + 1)).map (· + tile / tilesPerGib)).all (fun g =>
    match regionAtGib s g with
    | none => false
    | some n => (ldOf s ld).accepted.contains n && worldReaches s (ldWorld s ld) n)

/-- What the checks of a hint's start find (R123 to R126): a status, or that it starts. -/
def hintCheck (ld kind : Nat) (r : HintReq) (hold : Nat) (s : State) : Option Nat :=
  let tiles := (List.range (r.count + 1)).map (· + r.tile)
  let gibs := (List.range ((r.tile + r.count) / tilesPerGib - r.tile / tilesPerGib + 1)).map (· + r.tile / tilesPerGib)
  if !r.full || decide (r.rsvd ≠ 0) || (kind == 2 && hold == 0) then some 0x11
  else if !hintInExtents ld r.tile r.count s then some 0x12
  else if !gibs.all (fun g => match regionAtGib s g with
      | none => false
      | some n => hostRight s ld n rHostR) then some 0x12
  else if kind = 3 then
    let news := tiles.filter (fun t => !(tagOf s t).pin && !(tagOf s t).rsv)
    let perChan := (List.range 24).all (fun c =>
      let n := (news.filter (fun t => homeOf s t == c)).length
      n == 0 || decide ((pinnedIn s c + n) * 100 ≤ rget Obj.PIN_LIMIT_PCT 0 s * poolFrames s c))
    let owners := (gibs.filterMap (fun g => (regionAtGib s g).map (fun n => (regionOf s n).owner))).eraseDups
    let perBerth := owners.all (fun b =>
      let limit := rget Obj.PIN_BERTH_LIMIT_GIB b s
      let n := (news.filter (fun t => (regionAtTile s t).map (fun n => (regionOf s n).owner) == some b)).length
      limit == 0 || decide (pinnedOf s b + n ≤ limit * tilesPerGib))
    if perChan && perBerth then none else some 0x16
  else none

/-- Run a hint that the meter let through (R124). -/
def startHint (k : Nat) (s : State) : State :=
  let h := hintOf s k
  let r : HintReq := ⟨k / 64, k % 64, bits h.word 0 33, bits h.word 33 16, 0, true, none⟩
  match hintCheck (k / 64) h.kind r h.hold s with
  | some code => endHint k code s
  | none => advanceHint k (modHint k (fun h => { h with left := hintTiles h.word, done := 0, skipped := 0 }) s)

end Sys2Proof.Machine
end

