-- ==== Sys2Proof/Machine/Landing.lean ====
section
/-! DEFINITION. The landings (R26, R304 to R309, R314, R373 to R381, R418, R419): accepting, stamping, checking and metering the
host transactions of CXL.mem, and the atomic window and hint requests up to the point where they are let through. -/

namespace Sys2Proof.Machine

/-! ## Acceptance -/

/-- The link of a logical device takes new requests (Table 13.2). -/
def linkAccepts (s : State) (ld : Nat) : Bool :=
  let st := (linkOf s (linkOfLd s ld)).st
  (ldOf s ld).enabled && (st == 2 || st == 3)

/-- SEQ values of a port's open transactions (R305). -/
def openSeqs (s : State) (port : Nat) : List Nat :=
  let mine (r : Req) : Option Nat := match r.src with
    | .host _ _ | .atw _ _ => if r.link / 2 = port then some r.seq else none
    | _ => none
  s.mf.waits.filterMap (fun w => mine w.req) ++ s.mf.ready.filterMap mine ++ s.ferry.misses.filterMap mine
    ++ s.mf.recalls.filterMap (fun p => match p.2 with
        | some rc => (match rc.why with
            | .request r => mine r
            | _ => none)
        | none => none)
    ++ s.meters.held.filterMap (fun h => match h.what with
        | .mem r => mine r
        | .atw ld slot => if h.link / 2 = port then some (tget {} s.atw.slots (ld * 512 + slot)).txn else none
        | _ => none)
    ++ s.pair.waiting.filterMap (fun w => mine w.2)
    ++ s.pair.unmacked.filterMap (fun u => u.2.2.bind mine)
    ++ (s.red.merges.filter (fun m => m.link / 2 == port)).map (·.seq)

/-- Accept one host transaction on a link: its SEQ and the state with the port's next one (R305, R306). `none` when the link
is at its limit or the next SEQ still belongs to an open transaction, which is counted. -/
def accept (ld : Nat) (s : State) : Option Nat × State :=
  let h := linkOfLd s ld
  let port := h / 2
  let seq := tget 0 s.hosts.seq port
  if openLimit s h ≤ openOn s h then (none, s)
  else if (openSeqs s port).contains seq then (none, rinc Obj.HL_SEQ_STALLS h s)
  else
    let s1 := { s with hosts := { s.hosts with seq := tput 0 s.hosts.seq port ((seq + 1) % 16777216) } }
    (some seq, rmax Obj.HL_OPEN_HIGH h (openOn s h + 1) s1)

/-! ## Translation and checks -/

/-- The device address of a host address: through the committed decoder that covers it and whose Commit is not cleared
(R25, R313, R314). -/
def translate (s : State) (ld hpa : Nat) : Option Nat :=
  ((ldOf s ld).decoders.find? (fun p => p.2.committed && !p.2.clearing && decide (p.2.hpa ≤ hpa) && decide (hpa < p.2.hpa + p.2.size))).map
    (fun p => hpa - p.2.hpa + p.2.dpa)

/-- An access outside accepted extents is counted, and recorded at most once per logical device per second (R26). -/
def outsideExtent (ld line : Nat) (s : State) : State :=
  let s1 := rinc Obj.LD_OUTSIDE_EXTENT ld s
  let due := match (ldOf s ld).lastB4 with
    | none => true
    | some t => decide (t + 25000000 ≤ now s)
  if due then logError 0xB4 ld 6 (some line) 0 (modLd ld (fun l => { l with lastB4 := some (now s) }) s1) else s1

/-- The agent the manifest tracks for a logical device: none in HDM-H mode (R48). -/
def trackedAgent (s : State) (ld : Nat) : Option Nat := if (ldOf s ld).coh = 2 then some (ldOf s ld).agent else none

/-- Answer a request at the landing without passing it on: poisoned data for a read, plain completion for a write. -/
def answerHere (ld tag : Nat) (k : ReqKind) (c : Cmp) (s : State) : State :=
  toHost ld tag c (if readsData k then some (List.replicate 64 0) else none) (readsData k) s

/-- What the rights of a berth make of a request (Table 18.3, R419). -/
inductive RightsStep where
  | go (k : ReqKind) (revoked : Bool)
  | refuse (c : Cmp)

/-- Rights of a host request (Table 18.3). -/
def checkRights (k : ReqKind) (canR canW : Bool) : RightsStep :=
  match k with
  | .memRd .a => if canR && canW then .go k false else if canR then .go (.memRd .s) false else .refuse .cmp
  | .memRd _ | .memRdData => if canR then .go k false else .refuse .cmp
  | .memInv .a => if canR && canW then .go k false else if canR then .go (.memInv .s) false else .refuse .cmpS
  | .memInv .s => if canR then .go k false else .refuse .cmpS
  | .memWr _ _ _ | .memWrPtl _ _ _ _ => .go k (!canW)
  | _ => .go k false

/-- A write for which no right stands and whose agent is not tracked is discarded at the landing (Table 18.3). -/
def untrackedRevoked (k : RightsStep) (agent : Option Nat) : Bool :=
  match k with
  | .go _ r => r && agent.isNone
  | .refuse _ => false

/-! ## Metering of CXL.mem -/

/-- The meters a MEM request of a logical device passes (Table 16.1). -/
def memMeters (s : State) (ld : Nat) : List Nat :=
  [berthMeter (ldOf s ld).berth 0, portMeter (portOfLd ld)]

/-- A request that no meter colours: MemClnEvct, MemInv I, and a write to a line whose recall its agent owes (R374). -/
def unmetered (s : State) (r : Req) : Bool :=
  match r.kind with
  | .clnEvct | .memInv .i => true
  | .memWr _ _ _ | .memWrPtl _ _ _ _ =>
    (match r.agent with
     | some a => owesAnswer (entryOf s r.line) a
     | none => false)
  | _ => false

/-- MEM requests held on a link, oldest first. -/
def heldMem (s : State) (link : Nat) : List Held := s.meters.held.filter (fun h => h.link == link && h.kind == 0)

/-- Take a held request off its queue. -/
def unhold (h : Held) (s : State) : State :=
  { s with meters := { s.meters with held := dropFirst (fun k => k == h) s.meters.held } }

/-- A held MEM request enters the fabric. -/
def enterMem (h : Held) (s : State) : State :=
  match h.what with
  | .mem r => homeRequest r (rmax Obj.PMETER_HOLD_MAX (h.link / 2) (now s - h.t) (unhold h s))
  | _ => s

/-- Hold a MEM request. A link that already holds half its open limit lets its oldest one in first (R381). -/
def holdMem (h : Held) (s : State) : State :=
  let s1 := if openLimit s h.link / 2 ≤ (heldMem s h.link).length then
      (match (heldMem s h.link).head? with
       | some o => rinc Obj.PMETER_EARLY_RELEASES (h.link / 2) (enterMem o s)
       | none => s)
    else s
  { s1 with meters := { s1.meters with held := s1.meters.held ++ [h] } }

/-- Meter a MEM request and let it in or hold it (R375, Table 16.3). -/
def meterMem (ld : Nat) (r : Req) (s : State) : State :=
  if unmetered s r then homeRequest r s
  else
    let ms := memMeters s ld
    let c := colourReq ms r.link 64 none s
    let s1 := countColour ms c.colour c.st
    if c.colour = 0 then homeRequest r s1
    else holdMem ⟨.mem r, 0, r.link, c.colour, now s, 64, ms, c.yellowOn, c.redOn⟩ s1

/-! ## Tandem requests (R364, R366) -/

/-- The unit is bound by a lease (R364): in exclusive mode, while it has a partner that is not silent. -/
def leased (s : State) : Bool :=
  rget Obj.PAIR_MODE 0 s == 0 && pairConfigured s && s.pair.partnerSeen && !s.pair.partnerSilent

/-- The unit serves a tandem request now: as PRIMARY or SOLO, with a live lease if it is bound by one, or TAKING in overlap mode, and
no handover or HALT holds it. -/
def tandemOpen (s : State) : Bool :=
  s.pair.handover == 0 && !s.pair.halted &&
    (match s.pair.role with
     | 1 | 4 => !leased s || decide (now s < s.pair.leaseEnd)
     | 5 => rget Obj.PAIR_MODE 0 s == 1
     | 2 | 3 => false
     | _ => true)

/-- A tandem request that finds the unit not serving waits at its landing. -/
def holdTandem (ld : Nat) (r : Req) (s : State) : State :=
  let s1 := { s with pair := { s.pair with waiting := s.pair.waiting ++ [(ld, r)] } }
  if servesTandem s then rinc Obj.PAIR_LEASE_WAITS 0 s1 else s1

/-! ## CXL.mem requests -/

/-- A checked MEM request: held while its tandem region is not served, else metered. -/
def enterLanding (ld : Nat) (r : Req) (s : State) : State :=
  if tandemLine s r.line && !tandemOpen s then holdTandem ld r s else meterMem ld r s

/-- The landing of a logical device's link has opened (R514). -/
def landingOpen (s : State) (ld : Nat) : Bool := s.hosts.opened.contains (linkOfLd s ld)

/-- A CXL.mem request that comes before its landing opens is held there (R515). -/
def holdEarly (i : Instr) (s : State) : State := { s with hosts := { s.hosts with early := s.hosts.early ++ [i] } }

/-- One CXL.mem request at its landing: accepted and stamped, fenced for a dead agent (R69), translated (R314), held to the
accepted extents (R26) and rights (Table 18.3), metered, and passed to its home slice. -/
def landMem (ld tag hpa : Nat) (k : ReqKind) (s : State) : State :=
  if !linkAccepts s ld then s
  else match accept ld s with
    | (none, s1) => s1
    | (some seq, s1) =>
      let h := linkOfLd s ld
      if agentDead s1 (ldOf s ld).agent then answerHere ld tag k .cmp s1
      else match translate s1 ld hpa with
        | none => answerHere ld tag k .cmp (rinc Obj.HL_NO_DECODER h s1)
        | some dpa =>
          let line := dpa / 64
          match acceptedRegion s1 ld line with
          | none => answerHere ld tag k .cmp (outsideExtent ld line s1)
          | some n =>
            let b := (ldOf s1 ld).berth
            let step := checkRights k (hostRight s1 ld n rHostR) (hostRight s1 ld n rHostW)
            match step with
            | .refuse c => answerHere ld tag k c (permRefused b s1)
            | .go k' revoked =>
              if untrackedRevoked step (trackedAgent s1 ld) then answerHere ld tag k .cmp (permRefused b s1)
              else enterLanding ld ⟨.host ld tag, trackedAgent s1 ld, line, k', b, epochOf s1 b, revoked, h, seq, now s1, .cmp⟩ s1

/-- A CXL.mem request: held while its landing is not open, else handled. -/
def orEarly (ld : Nat) (i : Instr) (f : State → State) (s : State) : State :=
  if linkAccepts s ld && !landingOpen s ld then holdEarly i s else f s

def execMemRd (ld tag hpa : Nat) (m : MetaVal) (s : State) : Answer :=
  .next (orEarly ld (.memRd ld tag hpa m) (landMem ld tag hpa (.memRd m)) s)
def execMemRdData (ld tag hpa : Nat) (s : State) : Answer :=
  .next (orEarly ld (.memRdData ld tag hpa) (landMem ld tag hpa .memRdData) s)
def execMemInv (ld tag hpa : Nat) (m : MetaVal) (s : State) : Answer :=
  .next (orEarly ld (.memInv ld tag hpa m) (landMem ld tag hpa (.memInv m)) s)

/-- A full-line write; poison marks the line (R309). -/
def execMemWr (ld tag hpa : Nat) (m : MetaVal) (data : List Byte) (poison : Bool) (s : State) : Answer :=
  .next (orEarly ld (.memWr ld tag hpa m data poison) (landMem ld tag hpa (.memWr m data poison)) s)

/-- A partial write leaves the line in I (Table 03.3); with poison it writes the whole line as poison (R309). -/
def execMemWrPtl (ld tag hpa : Nat) (m : MetaVal) (data : List Byte) (mask : List Bool) (poison : Bool) (s : State) : Answer :=
  .next (orEarly ld (.memWrPtl ld tag hpa m data mask poison)
    (landMem ld tag hpa (if poison then .memWr m (List.replicate 64 0) true else .memWrPtl m data mask false)) s)

def execMemClnEvct (ld tag hpa : Nat) (s : State) : Answer :=
  .next (orEarly ld (.memClnEvct ld tag hpa) (landMem ld tag hpa .clnEvct) s)

/-- A speculative read starts a read of the line into the home slice, which no state shows, and gets no response (R54); it
takes a place in the port's SEQ order like any transaction (R304). -/
def landSpec (ld hpa : Nat) (s : State) : State :=
  if !linkAccepts s ld then s
  else match accept ld s with
    | (none, s1) => s1
    | (some _, s1) => match translate s1 ld hpa with
      | none => rinc Obj.HL_NO_DECODER (linkOfLd s ld) s1
      | some _ => s1

def execMemSpecRd (ld hpa : Nat) (s : State) : Answer := .next (orEarly ld (.memSpecRd ld hpa) (landSpec ld hpa) s)

/-- The landings of links that serve open (R514, R515): requests held there are handled in arrival order. -/
def serveEarly (s : State) : State :=
  each s.hosts.early (fun i s => match i with
    | .memRd ld tag hpa m => orEarly ld i (landMem ld tag hpa (.memRd m)) s
    | .memRdData ld tag hpa => orEarly ld i (landMem ld tag hpa .memRdData) s
    | .memInv ld tag hpa m => orEarly ld i (landMem ld tag hpa (.memInv m)) s
    | .memWr ld tag hpa m data poison => orEarly ld i (landMem ld tag hpa (.memWr m data poison)) s
    | .memWrPtl ld tag hpa m data mask poison =>
      orEarly ld i (landMem ld tag hpa (if poison then .memWr m (List.replicate 64 0) true else .memWrPtl m data mask false)) s
    | .memClnEvct ld tag hpa => orEarly ld i (landMem ld tag hpa .clnEvct) s
    | .memSpecRd ld hpa => orEarly ld i (landSpec ld hpa) s
    | _ => s) { s with hosts := { s.hosts with early := [] } }

/-! ## Slots of BAR2 -/

def atwKey (ld slot : Nat) : Nat := ld * 512 + slot
def atwOf (s : State) (ld slot : Nat) : AtwSlot := tget {} s.atw.slots (atwKey ld slot)
def modAtw (ld slot : Nat) (f : AtwSlot → AtwSlot) (s : State) : State :=
  { s with atw := { s.atw with slots := tmod {} s.atw.slots (atwKey ld slot) f } }

/-- Operand size in bytes of a type code; 0 for a code the window does not accept (Table 04.5). -/
def atwSize (type : Nat) : Nat :=
  match type with
  | 0x0 | 0xC | 0xD => 8
  | 0x1 | 0x8 => 4
  | 0x2 | 0x3 | 0x9 => 2
  | 0xA => 1
  | _ => 0

/-- An operation and a type that Table 04.6 pairs. -/
def atwPaired (op type : Nat) : Bool :=
  decide (atwSize type ≠ 0) && (if type < 8 then decide (op ≤ 6) else decide (op ≤ 0xA))

/-- The home request of a window slot whose checks and meter have passed (R80), stamped with the epoch of its check (R421). -/
def atwRequest (ld slot seq : Nat) (s : State) : Req :=
  let a := atwOf s ld slot
  let addr := bits a.reqWord 0 49
  let b := (ldOf s ld).berth
  ⟨.atw ld slot, trackedAgent s ld, addr / 64,
    .window (bits a.reqWord 53 6) (bits a.reqWord 49 4) addr a.op1 a.op2 a.colour, b, a.epoch, false, linkOfLd s ld, seq, now s, .cmp⟩

/-- A window request that the landing lets through goes to the home slice. -/
def enterAtw (ld slot seq : Nat) (s : State) : State := homeRequest (atwRequest ld slot seq s) s

/-- Meter a window request whose checks have passed (R374, R379, R380). -/
def meterAtw (ld slot seq : Nat) (s : State) : State :=
  let b := (ldOf s ld).berth
  let ms := [berthMeter b 1]
  let h := linkOfLd s ld
  let c := colourReq ms h 1 none s
  let s1 := modAtw ld slot (fun a => { a with colour := c.colour }) (countColour ms c.colour c.st)
  if c.colour = 0 then enterAtw ld slot seq s1
  else if c.colour = 2 then postAtw ld slot 0x10 0 0 s1
  else rinc Obj.ATW_DELAYED_YELLOW ld { s1 with meters := { s1.meters with
    held := s1.meters.held ++ [⟨.atw ld slot, 1, h, 1, now s1, 1, ms, c.yellowOn, c.redOn⟩] } }

/-- Tandem requests that waited are let on once the unit serves them, in arrival order. -/
def releaseTandem (s : State) : State :=
  if tandemOpen s then
    each s.pair.waiting (fun w s => match w.2.src with
      | .atw ld slot => meterAtw ld slot w.2.seq s
      | _ => meterMem w.1 w.2 s) { s with pair := { s.pair with waiting := [] } }
  else s

/-- A host writes a slot's REQUEST (R73 to R81): a busy slot drops it; else an operation starts and ends at the landing with
FENCED, BAD_REQUEST, OUTSIDE_EXTENT or REFUSED_RED, is held yellow, or goes to the home slice. -/
def startWindow (op : Nat) (r : AtwReq) (s : State) : State :=
  if !linkAccepts s r.ld then s
  else match accept r.ld s with
    | (none, s1) => s1
    | (some seq, s1) =>
      if (atwOf s1 r.ld r.slot).busy then rinc Obj.ATW_SLOT_BUSY_DROPS r.ld s1
      else
        let word := r.addr % 2 ^ 49 + 2 ^ 49 * (r.type % 16) + 2 ^ 53 * op + 2 ^ 59 * (r.rsvd % 32)
        let s2 := modAtw r.ld r.slot (fun a => { a with
          reqWord := word, op1 := r.op1.getD a.op1, op2 := r.op2.getD a.op2
          status := 1, flags := 0, pred := 0, colour := 0, seq := (a.seq + 1) % 65536, result := 0, busy := true, txn := seq }) s1
        let b := (ldOf s2 r.ld).berth
        let s2 := modAtw r.ld r.slot (fun a => { a with epoch := epochOf s2 b }) s2
        let post (code : Nat) (s : State) : State := postAtw r.ld r.slot code 0 0 s
        if agentDead s2 (ldOf s2 r.ld).agent then post 0x14 s2
        else if !r.full || decide (r.rsvd ≠ 0) || !atwPaired op r.type || decide (r.addr % atwSize r.type ≠ 0) then post 0x11 s2
        else match acceptedRegion s2 r.ld (r.addr / 64) with
          | none => post 0x12 s2
          | some n =>
            if !worldReaches s2 (ldWorld s2 r.ld) n then post 0x12 s2
            else if !(hostRight s2 r.ld n rHostR && (op == 0 || hostRight s2 r.ld n rHostW)) then post 0x12 (permRefused b s2)
            else if tandemLine s2 (r.addr / 64) && !tandemOpen s2 then
              holdTandem r.ld (atwRequest r.ld r.slot seq s2) s2
            else meterAtw r.ld r.slot seq s2

def execAtwLoad (r : AtwReq) (s : State) : Answer := .next (startWindow 0x00 r s)
def execAtwStore (r : AtwReq) (s : State) : Answer := .next (startWindow 0x01 r s)
def execAtwSwap (r : AtwReq) (s : State) : Answer := .next (startWindow 0x02 r s)
def execAtwCas (r : AtwReq) (s : State) : Answer := .next (startWindow 0x03 r s)
def execAtwAdd (r : AtwReq) (s : State) : Answer := .next (startWindow 0x04 r s)
def execAtwMin (r : AtwReq) (s : State) : Answer := .next (startWindow 0x05 r s)
def execAtwMax (r : AtwReq) (s : State) : Answer := .next (startWindow 0x06 r s)
def execAtwAnd (r : AtwReq) (s : State) : Answer := .next (startWindow 0x07 r s)
def execAtwOr (r : AtwReq) (s : State) : Answer := .next (startWindow 0x08 r s)
def execAtwXor (r : AtwReq) (s : State) : Answer := .next (startWindow 0x09 r s)
def execAtwAddCap (r : AtwReq) (s : State) : Answer := .next (startWindow 0x0A r s)

/-- A window slot's STATUS word (Table 04.3). -/
def atwWord (a : AtwSlot) : Nat := a.status + 256 * a.flags + 4096 * a.pred + 65536 * a.colour + 16777216 * a.seq

/-- Answer a status read. -/
def readAtw (ld slot tag : Nat) (s : State) : State :=
  let a := atwOf s ld slot
  if (ldOf s ld).enabled && linkServes s (linkOfLd s ld) then emit (.atwRead ld slot tag (atwWord a) a.result) s
  else rinc Obj.HL_RESP_DISCARDS (linkOfLd s ld) s

/-- A read of a slot's status (R76): at once when its operation has ended, else held. -/
def execAtwStatusRead (ld slot tag : Nat) (s : State) : Answer :=
  if !linkAccepts s ld then .next s
  else match accept ld s with
    | (none, s1) => .next s1
    | (some _, s1) =>
      if (atwOf s1 ld slot).busy then .next { s1 with atw := { s1.atw with reads := s1.atw.reads ++ [⟨ld, slot, tag⟩] } }
      else .next (readAtw ld slot tag s1)

/-- ATW_HOLD has expired: the reads held on a slot return PENDING (R76). -/
def execAtwHoldExpiry (ld slot : Nat) (s : State) : Answer :=
  let mine := s.atw.reads.filter (fun h => h.ld == ld && h.slot == slot)
  .next (each mine (fun h s => rinc Obj.ATW_PENDING_READS ld (readAtw ld slot h.tag s))
    { s with atw := { s.atw with reads := s.atw.reads.filter (fun h => !(h.ld == ld && h.slot == slot)) } })

/-- A decay marker passes (R85, Table 04.7): C of every AHT record with no window request since the last one falls by 1; a
record at C = 0 is released. -/
def execPredDecayMarker (s : State) : Answer :=
  let step (p : Plane) : Plane := { p with aht := p.aht.filterMap (fun q =>
    if q.2.touched then some (q.1, { q.2 with touched := false })
    else if q.2.c ≤ 1 then none
    else some (q.1, { q.2 with c := q.2.c - 1 })) }
  let runs (st : Nat) : Bool := st == 0 || st == 1 || st == 3
  .next { s with mf := { s.mf with
    planeA := if runs s.red.stA then step s.mf.planeA else s.mf.planeA
    planeB := if runs s.red.stB then step s.mf.planeB else s.mf.planeB } }

/-! ## Hints -/

/-- A host writes a hint slot's HINT (R123, R124): a busy slot drops it; else the hint starts, is held yellow, or ends. -/
def landHint (kind : Nat) (r : HintReq) (s : State) : State :=
  if !linkAccepts s r.ld then s
  else match accept r.ld s with
    | (none, s1) => s1
    | (some _, s1) =>
      let k := hintKey r.ld r.slot
      if (hintOf s1 k).busy then rinc Obj.HINT_SLOT_BUSY_DROPS r.ld s1
      else
        let word := r.tile % 2 ^ 33 + 2 ^ 33 * (r.count % 65536) + 2 ^ 49 * kind + 2 ^ 52 * (r.rsvd % 4096)
        let s2 := modHint k (fun h => { h with
          word := word, hold := r.hold.getD h.hold, status := 1, colour := 0, seq := (h.seq + 1) % 65536
          done := 0, skipped := 0, busy := true, kind := kind, left := [] }) s1
        let b := (ldOf s2 r.ld).berth
        if agentDead s2 (ldOf s2 r.ld).agent then endHint k 0x14 s2
        else match hintCheck r.ld kind r (hintOf s2 k).hold s2 with
          | some code =>
            endHint k code (if code = 0x12 ∧ hintInExtents r.ld r.tile r.count s2 then permRefused b s2 else s2)
          | none =>
            let ms := [berthMeter b 2]
            let h := linkOfLd s2 r.ld
            let cost := r.count + 1
            let c := colourReq ms h cost none s2
            let s3 := modHint k (fun x => { x with colour := c.colour }) (countColour ms c.colour c.st)
            if c.colour = 0 then startHint k s3
            else if c.colour = 2 then endHint k 0x10 s3
            else rinc Obj.HINTS_DELAYED_YELLOW r.ld { s3 with meters := { s3.meters with
              held := s3.meters.held ++ [⟨.hint r.ld r.slot, 2, h, 1, now s3, cost, ms, c.yellowOn, c.redOn⟩] } }

def execHintPromote (r : HintReq) (s : State) : Answer := .next (landHint 0 r s)
def execHintDemote (r : HintReq) (s : State) : Answer := .next (landHint 1 r s)
def execHintStage (r : HintReq) (s : State) : Answer := .next (landHint 2 r s)
def execHintPin (r : HintReq) (s : State) : Answer := .next (landHint 3 r s)
def execHintUnpin (r : HintReq) (s : State) : Answer := .next (landHint 4 r s)
def execHintUnstage (r : HintReq) (s : State) : Answer := .next (landHint 5 r s)

/-- A stage hold has expired (R125): the tile loses STAGE. -/
def execStageExpiry (tile : Nat) (s : State) : Answer :=
  if (tagOf s tile).stage then .next (modTag tile (fun g => { g with stage := false, expiry := 0 }) s) else .next s

end Sys2Proof.Machine
end

