-- ==== Sys2Proof/Machine/Extents.lean ====
section
/-! DEFINITION. Extents (R22 to R24, R29, R311, R312): offers, answers, releases and withdrawals, and the ends of range recalls. -/

namespace Sys2Proof.Machine

/-- The unit offers regions of a class: tandem regions only while it is PRIMARY or SOLO; one that is in no pair serves what it
holds (R360). -/
def offersClass (s : State) (cls : Nat) : Bool := cls != 2 || servesTandem s

/-- A logical device may be offered a region (R23, R417): the region LIVE, its world reached, and for a private region the device
named by PRIV_LD in either mode, for a shared one an HDM-DB device whose berth owns it or holds HOST_R. -/
def mayOffer (s : State) (ld n : Nat) : Bool :=
  let g := regionOf s n
  let l := ldOf s ld
  g.st == 2 && l.enabled && offersClass s g.cls && worldReaches s (ldWorld s ld) n && !l.refused.contains n
    && (if g.share then l.coh == 2 && hasRight s l.berth n rHostR else g.privLd == ld && l.coh != 0)

/-- Extents a logical device holds, offered ones and those being released among them. -/
def extentCount (l : Ld) : Nat := l.offered.length + l.accepted.length + l.releasing.length

/-- An offer withheld at 512 extents is counted, and recorded at most once per logical device per second (R23). -/
def withholdOffer (ld n : Nat) (s : State) : State :=
  let s1 := rinc Obj.LD_EXTENTS_WITHHELD ld s
  let due := match (ldOf s ld).lastB3 with
    | none => true
    | some t => decide (t + 25000000 ≤ now s)
  if due then
    let g := regionOf s n
    logRec false 0x60 ⟨0xB3, ld, 6, n, g.owner, g.world, false, now s, 0, 0⟩ (modLd ld (fun l => { l with lastB3 := some (now s) }) s1)
  else s1

/-- Offer a region to a logical device that may have it and has it not yet (R22, R23). -/
def offerTo (ld n : Nat) (s : State) : State :=
  let l := ldOf s ld
  if !mayOffer s ld n || l.offered.contains n || l.accepted.contains n || l.releasing.contains n then s
  else if 512 ≤ extentCount l then withholdOffer ld n s
  else emit (.dcEvent ld 0 n) (modLd ld (fun l => { l with offered := l.offered ++ [n] }) s)

/-- Offer every region a logical device may have. -/
def offerAll (ld : Nat) (s : State) : State := each (tkeys s.regions) (fun n s => offerTo ld n s) s

/-- Offer a region to every logical device that may have it. -/
def offerRegion (n : Nat) (s : State) : State := each (List.range 128) (fun ld s => offerTo ld n s) s

/-- A release point (R311): new requests to the extent are outside accepted extents from now on, and an HDM-DB device's copies
are recalled by an agent-filtered range recall, except for a region that is RETIRING. -/
def startRelease (ld n : Nat) (s : State) : State :=
  let l := ldOf s ld
  let g := regionOf s n
  let s1 := modLd ld (fun l => { l with
    accepted := l.accepted.erase n, asked := l.asked.erase n, releasing := l.releasing ++ [n] }) s
  if l.coh = 2 ∧ g.st ≠ 3 then startRange g.base g.size (some l.agent) .inv (.release ld n) s1 else s1

/-- Ask for an extent back (R312). One that is offered and not accepted is withdrawn at once. -/
def requestRelease (ld n : Nat) (s : State) : State :=
  let l := ldOf s ld
  if l.offered.contains n then
    emit (.dcEvent ld 2 n) (modLd ld (fun l => { l with offered := l.offered.erase n }) s)
  else if l.accepted.contains n && !l.asked.contains n then
    emit (.dcEvent ld 1 n) (modLd ld (fun l => { l with asked := l.asked ++ [n] }) s)
  else s

/-- Withdraw an extent at once, with no timeout (R360). -/
def withdrawNow (ld n : Nat) (s : State) : State :=
  let l := ldOf s ld
  if l.accepted.contains n then emit (.dcEvent ld 2 n) (startRelease ld n s)
  else requestRelease ld n s

/-- DC_RELEASE_TIMEOUT has passed without a release (R312): the extent is withdrawn and the withdrawal counted. -/
def execDcReleaseTimeout (ld region : Nat) (s : State) : Answer :=
  if (ldOf s ld).asked.contains region then
    .next (rinc Obj.DC_FORCED_WITHDRAWALS ld (emit (.dcEvent ld 2 region) (startRelease ld region s)))
  else .next s

/-- A request of a logical device to a region is still open. -/
def ldOpenIn (s : State) (ld n : Nat) : Bool :=
  let mine (r : Req) : Bool := (match r.src with
      | .host l _ | .atw l _ => l == ld
      | _ => false) && regionAtLine s r.line == some n
  s.mf.waits.any (fun w => mine w.req) || s.ferry.misses.any mine || s.mf.ready.any mine
    || s.mf.recalls.any (fun p => match p.2 with
        | some rc => (match rc.why with
            | .request r => mine r
            | _ => false)
        | none => false)
    || s.meters.held.any (fun h => match h.what with
        | .mem r => mine r
        | .atw l k => l == ld && regionAtLine s (bits (atwOf s l k).reqWord 0 49 / 64) == some n
        | _ => false)
    || s.pair.waiting.any (fun w => mine w.2)
    || s.pair.unmacked.any (fun u => match u.2.2 with
        | some r => mine r
        | none => false)

/-- A release is complete (R311): its recall and every request accepted before its release point have ended, and the extent
leaves the extent list. -/
def execReleaseComplete (ld region : Nat) (s : State) : Answer :=
  if (ldOf s ld).releasing.contains region && !ldOpenIn s ld region
      && !s.mf.ranges.any (fun r => match r.why with
          | .release l n => l == ld && n == region
          | _ => false) then
    .next (offerTo ld region (modLd ld (fun l => { l with releasing := l.releasing.erase region }) s))
  else .next s

/-- What the end of a range recall completes: step 3 of a removal, a decoder's clearing (R313); a release has its own end. -/
def endRange (r : RangeRecall) (s : State) : State :=
  match r.why with
  | .removal n => modRegion n (fun g => { g with removeRecall := false }) s
  | .release _ _ | .cleanup => s
  | .decoder ld n => modLd ld (fun l => { l with decoders := tmod {} l.decoders n (fun d =>
      { d with committed := false, clearing := false }) }) s

/-- A range recall's scan has ended (R70, R311, R422). Copies taken meanwhile, or left for want of a recall-table entry, are
recalled first. -/
def execRangeRecallComplete (id : Nat) (s : State) : Answer :=
  match s.mf.ranges.find? (fun r => r.id == id) with
  | none => .next s
  | some r =>
    if rangeClear s r then
      .next (endRange r { s with mf := { s.mf with ranges := dropFirst (fun q => q.id == id) s.mf.ranges } })
    else .next (recallRange r s)

end Sys2Proof.Machine
end

