-- ==== Sys2Proof/Machine/Rules.lean ====
section
/-! DEFINITION. Permission changes (R417, R420 to R422): the queue, the flip, the drain and the clean-up, and the steps of a region's
removal that follow one (Table 18.5). -/

namespace Sys2Proof.Machine

/-- Host rights a grant change takes away. -/
def lostBy (s : State) : Change → List (Nat × Nat × Bool × Bool)
  | .grant _ region grantee rights =>
    let old := tget 0 s.berths.grants (grantKey region grantee)
    [(grantee, region, bit old rHostR && !bit rights rHostR, bit old rHostW && !bit rights rHostW)]
  | _ => []

/-- Logical devices of a berth. -/
def ldsOf (s : State) (berth : Nat) : List Nat :=
  (s.lds.filter (fun p => p.2.enabled && p.2.berth == berth)).map (·.1)

/-- Start the next change: the rules take its form and the epoch of every berth it alters flips (Table 18.4 steps 1 and 2). -/
def startChange (s : State) : State :=
  match s.berths.running, s.berths.queue with
  | none, (id, c) :: rest =>
    let fl := flips s c
    let lost := lostBy s c
    let s1 := { s with berths := { s.berths with
      grants := grantsAfter s.berths.grants c, queue := rest, running := some ⟨id, c, fl, now s, lost⟩ } }
    let s2 := each fl (fun b s => modBerth b (fun x => { x with epoch := (x.epoch + 1) % 65536 }) s) s1
    match c with
    | .remove n => modRegion n (fun g => { g with noRights := true }) s2
    | .grant _ n grantee _ => each (ldsOf s2 grantee) (fun ld s => modLd ld (fun l => { l with refused := l.refused.erase n }) s) s2
    | .unbind _ => s2
  | _, _ => s

/-- Queue a change; it starts at once if none runs (R420). The answer is its number. -/
def queueChange (c : Change) (s : State) : Nat × State :=
  let id := s.berths.nextChange
  (id, startChange { s with berths := { s.berths with queue := s.berths.queue ++ [(id, c)], nextChange := id + 1 } })

/-- Tiles of a region. -/
def tileIn (g : Region) (t : Nat) : Bool :=
  decide (g.base * tilesPerGib ≤ t) && decide (t < (g.base + g.size) * tilesPerGib)

/-- Steps 2 to 4 of Table 18.5: extents are asked back, every copy is recalled and its data discarded, demotions abort. -/
def startRemovalSteps (n : Nat) (s : State) : State :=
  let g := regionOf s n
  let s1 := each (tkeys s.lds) (fun ld s => requestRelease ld n s) s
  let s2 := startRange g.base g.size none .inv (.removal n) (modRegion n (fun g => { g with removeRecall := true, removeExtents := true }) s1)
  each (s2.ferry.crossings.filter (fun c => tileIn g c.tile)) (fun c s =>
    match c.kind with
    | .promote => s
    | .evict => abortEvict c.tile s
    | .clean => abortClean c.tile s) s2

/-- The clean-up of a change for a grantee's HDM-DB logical devices (R422). -/
def cleanUp (x : Nat × Nat × Bool × Bool) (s : State) : State :=
  let (b, n, r, w) := x
  let g := regionOf s n
  each ((ldsOf s b).filter (fun ld => (ldOf s ld).coh == 2)) (fun ld s =>
    let a := (ldOf s ld).agent
    if r then requestRelease ld n (startRange g.base g.size (some a) .inv .cleanup s)
    else if w then startRange g.base g.size (some a) .data .cleanup s
    else s) s

/-- The statuses that wait for a change are drained; a grant's carries the epoch it took effect under (R417). -/
def drainPosts (r : Running) (s : State) : State :=
  let word := match r.change with
    | .grant _ _ grantee _ => (berthOf s grantee).epoch * 256
    | _ => 0
  deliverPosts { s with cfg := { s.cfg with posts := s.cfg.posts.map (fun p =>
    if p.change = some r.id then { p with drained := true, bytes := natLE 8 word } else p) } }

/-- Regions of a berth. -/
def regionsOf (s : State) (b : Nat) : List Nat := (s.regions.filter (fun p => p.2.st != 0 && p.2.owner == b)).map (·.1)

/-- A berth that is being deleted and has nothing left becomes UNDEFINED, its logical devices are unbound, and both its key
slots are zeroed (R424, R440). -/
def finishBerths (s : State) : State :=
  each (s.berths.berths.filter (fun p => p.2.st == 2)) (fun p s =>
    let b := p.1
    if (regionsOf s b).isEmpty && !s.grid.panels.any (fun q => q.2.berth == b && !q.2.lent)
        && !s.berths.grants.any (fun g => g.1 % 64 == b) && !s.berths.queue.any (fun q => q.2 == .unbind b)
        && !(match s.berths.running with
            | some r => r.change == .unbind b
            | none => false)
        && !s.jobs.jobs.any (fun j => match j.2 with
            | some j => j.berth == b
            | none => false) then
      each ((s.lds.filter (fun q => q.2.berth == b)).map (·.1)) (fun ld s => modLd ld (fun l => { l with berth := 0xFF }) s)
        { s with berths := { s.berths with berths := tput {} s.berths.berths b { created := p.2.created } }
                 keys := { s.keys with recs := tput {} s.keys.recs b {} } }
    else s) s

/-- Every old-epoch counter is zero (R421, Table 18.4 steps 3 and 4): the drained epochs and waiting statuses post, the clean-up
and a removal's further steps start, extents that the change allows are offered, and the next change starts. -/
def execPermDrainComplete (s : State) : Answer :=
  match s.berths.running with
  | none => .next s
  | some r =>
    if oldInflight s r.flipped ≠ 0 then .next s
    else
      let took := (now s + 281474976710656 - r.t) % 281474976710656
      let s1 := each r.flipped (fun b s => modBerth b (fun x => { x with drained := x.epoch }) s)
        (rmax Obj.PERM_DRAIN_MAX 0 took (rset Obj.PERM_DRAIN_LAST 0 took
          { s with berths := { s.berths with running := none } }))
      let s2 := each r.lost cleanUp (drainPosts r s1)
      let s3 := match r.change with
        | .remove n => startRemovalSteps n s2
        | .grant _ n grantee _ => each (ldsOf s2 grantee) (fun ld s => offerTo ld n s) s2
        | .unbind _ => s2
      .next (startChange (finishBerths s3))

/-- Status of a PERM_GRANT argument (R417), 0 when it is accepted. -/
def grantStatus (s : State) (secure : Bool) (arg : Nat) : Nat :=
  let n := bits arg 0 13
  let grantee := bits arg 13 6
  let rights := bits arg 19 4
  let g := regionOf s n
  if (bit rights 1 && !bit rights 0) || (bit rights 3 && !bit rights 2) || decide (2 ^ 23 ≤ arg) then 0x05
  else if g.st != 2 || !g.share then 0x01
  else if g.world && !secure then 0x04
  else if (berthOf s grantee).st != 1 || g.owner == grantee then 0x02
  else if rights != 0 && (grantsQueued s).length ≥ 4096 && tget 0 (grantsQueued s) (grantKey n grantee) == 0 then 0x03
  else 0

/-- PERM_GRANT (R417): a refused argument posts its status at once; an accepted one is a permission change, and STATUS reads 0xFF
until it is complete. -/
def execPermGrant (w : Who) (arg : Nat) (s : State) : Answer :=
  command Obj.PERM_GRANT w (fun s =>
    let st := grantStatus s w.secure arg
    if st ≠ 0 then setWord Obj.PERM_GRANT w.path st s
    else
      let id := s.berths.nextChange
      let s1 := postResult Obj.PERM_GRANT w.path 0 (some id) (setWord Obj.PERM_GRANT w.path 0xFF s)
      (queueChange (.grant w.path (bits arg 0 13) (bits arg 13 6) (bits arg 19 4)) s1).2) s

end Sys2Proof.Machine
end

