-- ==== Sys2Proof/Machine/Pool.lean ====
section
/-! DEFINITION. Regions (R12 to R20, R423): capacities, creation, entering LIVE, and removal. -/

namespace Sys2Proof.Machine

/-! ## Capacities -/

/-- The visible pool in GiB: the exposed far-shore capacity (R12). -/
def visibleGib (s : State) : Nat := s.flash.exposed

/-- Channels that are populated and were fit for service at the start. -/
def populated (s : State) : List Nat := (List.range 24).filter (fun c => (chanOf s c).st != 0 && (chanOf s c).st != 2)

/-- Usable near-shore capacity in GiB: populated capacity less 2 GiB a channel (R15). -/
def nearUsable (s : State) : Nat := ((populated s).map (fun c => (chanOf s c).cap - 2)).sum

/-- The cache floor: a sixth of the usable capacity, rounded up (R15). -/
def cacheFloor (s : State) : Nat := (nearUsable s + 5) / 6

/-- Reservable capacity: usable less the cache floor, less the usable capacity of channels that are retiring, retired or lost
(R15, R269). -/
def nearReservable (s : State) : Nat :=
  nearUsable s - cacheFloor s
    - (((populated s).filter (fun c => 4 ≤ (chanOf s c).st)).map (fun c => (chanOf s c).cap - 2)).sum

/-- Reservation factor of a class (Table 01.1). -/
def reserveFactor (cls : Nat) : Nat := if cls = 1 then 2 else if cls = 3 then 1 else 0

/-- Reservations in force in GiB. -/
def nearReserved (s : State) : Nat :=
  (s.regions.map (fun p => if p.2.st = 0 then 0 else p.2.size * reserveFactor p.2.cls)).sum

/-- A GiB range is in no region. -/
def rangeFree (s : State) (base size : Nat) : Bool :=
  !s.regions.any (fun p => p.2.st != 0 && decide (p.2.base < base + size) && decide (base < p.2.base + p.2.size))

/-- Bases at which a free range can start: 0 and the ends of regions. -/
def freeStarts (s : State) : List Nat := 0 :: (s.regions.filter (fun p => p.2.st != 0)).map (fun p => p.2.base + p.2.size)

/-- GiB free from a start up to the next region or the end of the pool. -/
def freeFrom (s : State) (start : Nat) : Nat :=
  (s.regions.filter (fun p => p.2.st != 0 && decide (start ≤ p.2.base))).foldl (fun m p => min m (p.2.base - start)) (visibleGib s - start)

/-- The lowest base at which `size` GiB are free. -/
def lowestBase (s : State) (size : Nat) : Option Nat :=
  (freeStarts s).foldl (fun best b =>
    if decide (b + size ≤ visibleGib s) && rangeFree s b size then
      match best with
      | none => some b
      | some a => some (min a b)
    else best) none

/-- Pool offsets in no region, and the largest contiguous free range (Table 01.5). -/
def poolFree (s : State) : Nat := visibleGib s - (s.regions.map (fun p => if p.2.st = 0 then 0 else p.2.size)).sum
def poolLargestFree (s : State) : Nat :=
  ((freeStarts s).filter (fun b => rangeFree s b 1 && decide (b < visibleGib s))).foldl (fun m b => max m (freeFrom s b)) 0

/-! ## Creation (R19) -/

/-- The fields of a creation word (Table 01.2). -/
structure CreateArg where
  size : Nat
  base : Nat
  cls : Nat
  owner : Nat
  world : Bool
  share : Bool
  privLd : Nat
  rsvd : Nat

def createArg (w : Nat) : CreateArg :=
  ⟨bits w 0 19, bits w 19 19, bits w 38 2, bits w 40 6, bit w 46, bit w 47, bits w 48 7, bits w 55 9⟩

/-- BASE that asks for the lowest free range. -/
def anyBase : Nat := 0x7FFFF

/-- Every mirror-class pair has both channels populated and in service (R16), with the same organisation (R244). -/
def mirrorsReady (s : State) : Bool :=
  (List.range 24).all (fun c => (chanOf s c).st == 3) && (List.range 12).all (fun c => (chanOf s c).org == (chanOf s (c + 12)).org)

/-- The base a creation takes, if a free range serves it. -/
def baseFor (s : State) (a : CreateArg) : Option Nat :=
  if a.base = anyBase then lowestBase s a.size else if rangeFree s a.base a.size then some a.base else none

/-- Status of a creation, the first that applies in the order of R19. -/
def createStatus (s : State) (secure : Bool) (a : CreateArg) : Nat :=
  let l := ldOf s a.privLd
  if a.size = 0 ∨ (a.base ≠ anyBase ∧ visibleGib s < a.base + a.size) ∨ a.rsvd ≠ 0 then 0x07
  else if a.world && !secure then 0x06
  else if (berthOf s a.owner).st ≠ 1 then 0x05
  else if a.cls = 2 ∧ !pairConfigured s then 0x03
  else if a.cls = 1 ∧ !mirrorsReady s then 0x08
  else if !a.share && !(l.enabled && l.berth == a.owner) then 0x09
  else if (lowest 8192 (fun n => (regionOf s n).st == 0)).isNone then 0x04
  else if 0 < reserveFactor a.cls ∧ nearReservable s < nearReserved s + a.size * reserveFactor a.cls then 0x02
  else if (baseFor s a).isNone then 0x01
  else 0

/-- Frames a reserving region takes in the channel that holds most of it. -/
def framesPerChan (g : Region) : Nat :=
  let n := g.size * tilesPerGib
  if g.cls = 1 then (n + 11) / 12 else (n + g.chans.length - 1) / g.chans.length

/-- Where a new reserving region's frames start, counted down from the last frame: the lowest place where they meet no other
region's. DESIGN CHOICE: the spec does not say which frames are reserved. -/
def rsvStart (s : State) (g : Region) : Nat :=
  let others := (s.regions.filter (fun p => p.2.st != 0 && reserving p.2)).map (fun p => (p.2.rsvBase, p.2.rsvBase + framesPerChan p.2))
  let fits (b : Nat) : Bool := !others.any (fun o => decide (o.1 < b + framesPerChan g) && decide (b < o.2))
  ((0 :: others.map (·.2)).filter fits).foldl min (others.foldl (fun m o => max m o.2) 0)

/-- Write a region record (R18): LIVE at once for plain and tandem, CREATING for a class that reserves. -/
def writeRegion (n : Nat) (a : CreateArg) (base : Nat) (s : State) : State :=
  let g : Region := { st := 1, base := base, size := a.size, cls := a.cls, owner := a.owner, world := a.world, share := a.share,
                      privLd := a.privLd, chans := inService s,
                      kslot := (activeKey s a.owner).1, kgen := (activeKey s a.owner).2 }
  if reserving g then modRegion n (fun _ => { g with rsvBase := rsvStart s g }) s
  else offerRegion n (modRegion n (fun _ => { g with st := 2 }) s)

/-- Create a region: its number, the lowest that is unused (DESIGN CHOICE), and the state. A primary tells its partner of a tandem
region; one created while mirroring is not active is marked whole in the resync map (R360). -/
def createRegion (a : CreateArg) (word : Nat) (s : State) : Nat × State :=
  let n := (lowest 8192 (fun n => (regionOf s n).st == 0)).getD 0
  let base := (baseFor s a).getD 0
  let s1 := writeRegion n a base s
  if a.cls = 2 then
    let fixed := word - bits word 19 19 * 2 ^ 19 + base * 2 ^ 19
    let s2 := pairReq 6 0 fixed n false s1
    if s.pair.role = 1 ∧ s.pair.mirror = 0 then (n, s2)
    else (n, each ((List.range (a.size * 16)).map (· + base * 16)) markSpan s2)
  else (n, s1)

/-- REGION_CREATE (R19, R20): the result word of Table 01.3 is posted on the path that made the creation. -/
def execRegionCreate (w : Who) (arg : Nat) (s : State) : Answer :=
  command Obj.REGION_CREATE w (fun s =>
    let a := createArg arg
    let st := createStatus s w.secure a
    if st ≠ 0 then setWord Obj.REGION_CREATE w.path (0xFFFF + st * 65536) s
    else
      let (n, s1) := createRegion a arg s
      postResult Obj.REGION_CREATE w.path n none s1) s

/-- The frames of a reserving region are free of cached tiles (R97). -/
def framesReady (s : State) (g : Region) : Bool :=
  (if g.cls = 1 then List.range 24 else g.chans.eraseDups).all (fun c => decide ((cachedIn s c).length ≤ poolFrames s c))

/-- Every tile of a reserving region is resident and zero-filled: the region enters LIVE and is offered (R18, R23). -/
def execRegionLive (region : Nat) (s : State) : Answer :=
  let g := regionOf s region
  if g.st = 1 ∧ framesReady s g = true then .next (offerRegion region (modRegion region (fun g => { g with st := 2 }) s))
  else .next s

/-! ## Removal (R423) -/

/-- Start removing a region: RETIRING, and step 1 of Table 18.5 as a permission change. -/
def startRemoval (n : Nat) (s : State) : State :=
  (queueChange (.remove n) (modRegion n (fun g => { g with st := 3 }) s)).2

/-- REGION_DELETE (R423). The order of its statuses is DESIGN CHOICE: 1, 2, 3. -/
def execRegionDelete (w : Who) (arg : Nat) (s : State) : Answer :=
  command Obj.REGION_DELETE w (fun s =>
    let n := bits arg 0 13
    let g := regionOf s n
    let b := (berthOf s g.owner).st
    if g.st ≠ 2 then setWord Obj.REGION_DELETE w.path 1 s
    else if g.world && !w.secure then setWord Obj.REGION_DELETE w.path 2 s
    else if b ≠ 1 ∧ b ≠ 2 then setWord Obj.REGION_DELETE w.path 3 s
    else postResult Obj.REGION_DELETE w.path 0 none (startRemoval n s)) s

/-- Steps 2 to 4 of Table 18.5 have ended. -/
def removalDone (s : State) (n : Nat) : Bool :=
  let g := regionOf s n
  g.st == 3 && g.noRights && g.removeExtents && !g.removeRecall
    && !s.lds.any (fun p => p.2.offered.contains n || p.2.accepted.contains n || p.2.releasing.contains n)
    && !s.ferry.crossings.any (fun c => tileIn g c.tile)
    && !s.ferry.misses.any (fun r => regionAtLine s r.line == some n)

/-- Step 5: frames freed, reservations released, every tile ZERO, and the record unused. -/
def freeRegion (n : Nat) (s : State) : State :=
  let g := regionOf s n
  let t0 := g.base * tilesPerGib
  let nt := g.size * tilesPerGib
  { s with
    regions := tput {} s.regions n {}
    ferry := { s.ferry with tags := tclear s.ferry.tags t0 nt, far := tclear s.ferry.far t0 nt }
    mem := { s.mem with
      near := tclear s.mem.near (t0 * 65536) (nt * 65536), far := tclear s.mem.far (t0 * 65536) (nt * 65536)
      nearPoison := tclear s.mem.nearPoison (t0 * 1024) (nt * 1024)
      farPoison := tclear s.mem.farPoison (t0 * 1024) (nt * 1024) }
    pair := { s.pair with resync := s.pair.resync.filter (fun sp => !(decide (g.base * 16 ≤ sp) && decide (sp < (g.base + g.size) * 16))) } }

/-- A removal's steps have ended: step 5 (Table 18.5). The primary of a pair tells its partner of a tandem region. -/
def execRegionRemovalEnd (region : Nat) (s : State) : Answer :=
  if removalDone s region then
    let cls := (regionOf s region).cls
    let s1 := freeRegion region s
    .next (finishBerths (if cls = 2 ∧ servesTandem s then pairReq 6 0 0 region false s1 else s1))
  else .next s

end Sys2Proof.Machine
end

