-- ==== Sys2Proof/Machine/JobBase.lean ====
section
/-! DEFINITION. What jobs and cores share (chapters 7 to 9): the reads and writes of a device-side unit, the slots of jobs, ending and
stopping a job, and an exception of a core. -/

namespace Sys2Proof.Machine

/-- TSX ticks from `a` to `b` (R7: TIME48 wraps). -/
def ticksSince (a b : Nat) : Nat := (b + 281474976710656 - a) % 281474976710656

/-! ## Reads and writes of a device-side unit -/

/-- Units that read the pool for jobs: the descriptor and the image header of a submission, the image of a job, and a tile
descriptor of a convert job. -/
def unitDesc (ld slot : Nat) : Nat := 0x100000 + ld * 64 + slot
def unitHead (ld slot : Nat) : Nat := 0x110000 + ld * 64 + slot
def unitImage (ref : Nat) : Nat := 0x200000 + ref
def convKey (ref index : Nat) : Nat := ref * 131072 + index
def unitConv (ref index : Nat) : Nat := 0x1000000 + convKey ref index
def unitConvDesc (ref index : Nat) : Nat := 2 ^ 40 + convKey ref index
def unitConvWrite (ref index : Nat) : Nat := convBase + convKey ref index

/-- A request comes from a unit. -/
def fromUnit (unit : Nat) (r : Req) : Bool := r.src == .dev unit

/-- Requests of a unit that no home slice has served yet. -/
def unitOpen (s : State) (unit : Nat) : Bool :=
  s.mf.waits.any (fun w => fromUnit unit w.req) || s.ferry.misses.any (fromUnit unit)
    || s.mf.recalls.any (fun p => match p.2 with
        | some rc => (match rc.why with
            | .request r => fromUnit unit r
            | _ => false)
        | none => false)

/-- Lines served for a unit. -/
def servedFor (s : State) (unit : Nat) : List Served := s.mf.served.filter (fun v => v.src == .dev unit)

/-- Forget what was served for a unit. -/
def dropServed (unit : Nat) (s : State) : State :=
  { s with mf := { s.mf with served := s.mf.served.filter (fun v => v.src != .dev unit) } }

/-- A device access of a unit for a berth (Table 03.4). -/
def devReq (src : Src) (line : Nat) (k : ReqKind) (berth : Nat) (s : State) : State :=
  homeRequest ⟨src, none, line, k, berth, epochOf s berth, false, 0, 0, now s, .cmp⟩ s

/-- Ask for lines with snooping reads (R56) unless the unit already has. -/
def askLines (unit berth : Nat) (lines : List Nat) (s : State) : State :=
  if unitOpen s unit || !(servedFor s unit).isEmpty then s
  else each lines (fun l s => devReq (.dev unit) l .devRead berth s) s

/-- The lines a unit asked for, once all are served: their bytes end to end, and whether one was poison. -/
def gotLines (s : State) (unit : Nat) (lines : List Nat) : Option (List Byte × Bool) :=
  let got := servedFor s unit
  if lines.all (fun l => got.any (fun v => v.line == l)) then
    some (lines.flatMap (fun l => match got.find? (fun v => v.line == l) with
        | some v => v.data
        | none => []), got.any (fun v => v.poison))
  else none

/-- Lines that a byte range touches. -/
def linesOf (addr n : Nat) : List Nat :=
  if n = 0 then [] else (List.range ((addr + n - 1) / 64 - addr / 64 + 1)).map (· + addr / 64)

/-- Write bytes at a pool address with device writes, a partial-line write where a line is not whole (Table 03.4). -/
def devStore (berth addr : Nat) (bs : List Byte) (poison : Bool) (s : State) : State :=
  each (linesOf addr bs.length) (fun l s =>
    let inside (i : Nat) : Bool := decide (addr ≤ l * 64 + i) && decide (l * 64 + i < addr + bs.length)
    let data := (List.range 64).map (fun i => if inside i then bs.getD (l * 64 + i - addr) 0 else 0)
    devReq (.dev 0xFFFF) l (.devWrite data ((List.range 64).map inside) poison) berth s) s

/-- Every line of a byte range may be read, or written, by a device-side unit of a berth and world (Table 18.3). -/
def devMayRange (s : State) (berth : Nat) (world : Bool) (addr n : Nat) (w : Bool) : Bool :=
  n == 0 || ((List.range ((addr + n - 1) / 1073741824 - addr / 1073741824 + 1)).map (· + addr / 1073741824)).all (fun g =>
    devMay s berth world (g * linesPerGib) w)

/-- The bytes of a list at an offset, as a little-endian number. -/
def leAt (bs : List Byte) (off n : Nat) : Nat := leNat ((bs.drop off).take n)

/-! ## Slots -/

/-- Key of a job slot. -/
def jslotKey (ld slot : Nat) : Nat := ld * 64 + slot
def jslotOf (s : State) (ld slot : Nat) : JobSlot := tget {} s.jobs.slots (jslotKey ld slot)
def modJslot (ld slot : Nat) (f : JobSlot → JobSlot) (s : State) : State :=
  { s with jobs := { s.jobs with slots := tmod {} s.jobs.slots (jslotKey ld slot) f } }

/-- STATUS of a slot (Table 09.4). -/
def jslotWord (j : JobSlot) : Nat := j.code + 256 * j.colour + 1024 * j.seq + 67108864 * j.ref + 4398046511104 * j.reason

/-- Count a final code of a berth's job (Table 09.12). -/
def countEnd (berth code : Nat) (s : State) : State :=
  if code = 0x10 then rinc Obj.JOBS_DONE berth s
  else if code = 0x20 then rinc Obj.JOBS_REFUSED_RED berth s
  else if code = 0x21 then rinc Obj.JOBS_REFUSED_QUOTA berth s
  else if code = 0x30 ∨ code = 0x31 then rinc Obj.JOBS_FAULT berth s
  else if code = 0x32 then rinc Obj.JOBS_ABORTED berth s
  else s

/-- A submission ends before admission: its slot shows the code and nothing is written (R204). -/
def endSlot (ld slot code reason : Nat) (s : State) : State :=
  countEnd (ldOf s ld).berth code
    (modJslot ld slot (fun j => { j with code := code, reason := reason, busy := false })
      (dropServed (unitHead ld slot) (dropServed (unitDesc ld slot) s)))

/-- The slot of a job shows its code, unless the slot was reset or serves another submission. -/
def showJob (ref code reason : Nat) (s : State) : State :=
  match jobOf s ref with
  | none => s
  | some j => modJslot j.ld j.slot (fun x =>
      if x.busy && x.ref == ref && x.seq == j.slotSeq then { x with code := code, reason := reason, busy := decide (code < 0x10) } else x) s

/-! ## Saves, panels and the end of a job -/

/-- JOB_SAVE_SLOTS (R247). -/
def saveSlots (s : State) : Nat := min 4 ((inService s).length * 67108864 / 162600960)

/-- Jobs with saved state on a panel. -/
def savedOn (s : State) (p : Nat) : List Nat :=
  (s.jobs.jobs.filter (fun q => match q.2 with
    | some j => j.saved.any (fun v => v.panel == p)
    | none => false)).map (·.1)

/-- All cores of a job's panels. -/
def jobCores (j : Job) : List Nat := j.bound.flatMap coresOfPanel

/-- Every AMO and pool transfer of the job's cores has ended (R209, R213). -/
def jobQuiet (s : State) (j : Job) : Bool := (jobCores j).all (fun c => (coreOf s c).xfers.isEmpty && (coreOf s c).amoWait.isNone)

/-- The core next to a core: 0 N (y − 1), 1 E (x + 1), 2 S (y + 1), 3 W (x − 1) (R159). -/
def neighbour (c dir : Nat) : Option Nat :=
  match dir with
  | 0 => if c < 40 then none else some (c - 40)
  | 1 => if c % 40 = 39 then none else some (c + 1)
  | 2 => if 1160 ≤ c then none else some (c + 40)
  | _ => if c % 40 = 0 then none else some (c - 1)

/-- Messages that the links of a panel to other panels hold in its inbound queues; they are discarded when the links close (R159). -/
def linkHeld (s : State) (p : Nat) : Nat :=
  ((coresOfPanel p).map (fun c => ([0, 1, 2, 3].map (fun d => match neighbour c d with
    | some n => if panelOfCore n = p then 0 else (tget ([] : List Msg) (coreOf s c).queues d).length
    | none => 0)).sum)).sum

/-- Zero the cores and local store of a panel (R217). -/
def zeroPanel (p : Nat) (s : State) : State :=
  each (coresOfPanel p) (fun c s => { s with
    grid := { s.grid with cores := tput {} s.grid.cores c {} }
    mem := { s.mem with ls := tclear s.mem.ls (c * 131072) 131072, lsPoison := tclear s.mem.lsPoison (c * 2048) 2048 } })
    (modPanel p (fun q => { q with stale := false }) s)

/-- A withdrawn panel that no job holds is zeroed and belongs to no berth, and its PANEL_ASSIGN has its status (R415). -/
def leaveBerth (p : Nat) (s : State) : State :=
  let q := panelOf s p
  let s1 := modPanel p (fun q => { q with berth := 0xFF, world := false, leaving := false, leavePath := none }) (zeroPanel p s)
  match q.leavePath with
  | some path => postResult Obj.PANEL_ASSIGN path 0 none s1
  | none => s1

/-- A panel's job lets it go: idle and stale, a lent one in no berth again; one that is to leave service does so (R166), and so does one
that is withdrawn from its berth. -/
def freePanel (p : Nat) (s : State) : State :=
  let q := panelOf s p
  let s1 := modPanel p (fun q => { q with
    st := if q.retireDue then 4 else 0, job := 0, watches := [], bars := [], outbound := [], stale := true, retireDue := false
    berth := if q.lent then 0xFF else q.berth, world := q.world && !q.lent, lent := false }) s
  let s2 := each (coresOfPanel p) (fun c s => modCore c (fun k => { k with
    task := 0, cause := none, atBar := none, wait := 0, queues := [] }) s) (radd Obj.PANEL_LINK_DISCARDS p (linkHeld s p) s1)
  let s3 := if q.retireDue then retireEvent q.retireSrc p 1 s2 else s2
  if q.leaving then leaveBerth p s3 else s3

/-- Bits of a cause record (Table 08.7): [63:0] and [127:64]. -/
def causeLo (c : Cause) : Nat := c.cause + 256 * c.code + 65536 * c.pc + 4294967296 * c.detail
def causeHi (c : Cause) : Nat := c.dpaHi

/-- The job result record (Table 09.7). -/
def jobRecord (ref : Nat) (j : Job) (code reason tEnd : Nat) : List Byte :=
  let body := natLE 1 code ++ natLE 1 reason ++ natLE 2 ref
    ++ natLE 2 (if j.cause.isSome then j.causeCore else 0xFFFF) ++ natLE 2 0
    ++ natLE 8 ((j.cause.map causeLo).getD 0) ++ natLE 6 j.tSubmit ++ natLE 6 j.tStart ++ natLE 6 tEnd
    ++ natLE 2 j.preempts ++ natLE 4 j.descDone.length ++ natLE 4 j.descNotOk ++ natLE 8 j.user
    ++ natLE 8 ((j.cause.map causeHi).getD 0)
  body ++ natLE 4 (crc32c body)

/-- Forget the descriptors of a job that are under way. -/
def dropConvs (ref : Nat) (s : State) : State :=
  { s with jobs := { s.jobs with convs := tclear s.jobs.convs (convKey ref 0) 131072 } }

/-- A job ends with a final code after admission (R211): its result record is written, its slot posts the code, its panels are
freed, and its saved state and watches are gone. -/
def endJob (ref code reason : Nat) (s : State) : State :=
  match jobOf s ref with
  | none => s
  | some j =>
    let s1 := if devMayRange s j.berth j.world j.result 64 true then devStore j.berth j.result (jobRecord ref j code reason (now s)) false s
      else permRefused j.berth s
    finishBerths (setJob ref none (each j.bound (fun p s => if (panelOf s p).job = ref + 1 then freePanel p s else s)
      (dropConvs ref (dropServed (unitImage ref) (showJob ref code reason (countEnd j.berth code s1))))))

/-- A job goes back to the head of its berth queue for a fresh placement (R219); a convert job runs every descriptor again. -/
def requeueJob (ref : Nat) (s : State) : State :=
  match jobOf s ref with
  | none => s
  | some j =>
    let s1 := dropConvs ref (each j.bound (fun p s => if (panelOf s p).job = ref + 1 then freePanel p s else s) s)
    showJob ref 1 0 (setJob ref (some { j with
      code := 1, reason := 0, step := 0, bound := [], saved := [], lost := none, ending := none, head := s.jobs.nextHead
      descDone := [], descNotOk := 0, tLast := now s })
      { s1 with jobs := { s1.jobs with nextHead := s1.jobs.nextHead + 1 } })

/-- What becomes of a job whose state is lost (R208, R219, R220): a fresh placement with RESTART or for a convert job, else its
end with FAULT_CHECK, or with ABORTED_BERTH for reason 0xC2. -/
def loseJob (ref reason : Nat) (s : State) : State :=
  match jobOf s ref with
  | none => s
  | some j =>
    if j.restart ∨ j.kind = 1 then requeueJob ref s
    else endJob ref (if reason = 0xC2 then 0x32 else 0x31) reason s

/-- End a stopped job once its transfers have ended (R209). -/
def tryEnd (ref : Nat) (s : State) : State :=
  match jobOf s ref with
  | none => s
  | some j => match j.ending with
    | none => s
    | some (code, reason) =>
      if !jobQuiet s j then s
      else if code = 0xFF then loseJob ref reason (modJob ref (fun j => { j with ending := none }) s)
      else endJob ref code reason s

/-- Stop every core of a job for good (R209); it ends at once if nothing is on its way. A job that is not on panels has nothing to
stop. -/
def stopJob (ref code reason : Nat) (s : State) : State :=
  match jobOf s ref with
  | none => s
  | some j =>
    if j.ending.isSome then s
    else tryEnd ref (setJob ref (some { j with ending := some (code, reason) }) s)

/-- The job of a core's panel. -/
def jobOfCore (s : State) (c : Nat) : Option Nat :=
  let q := panelOf s (panelOfCore c)
  if q.job = 0 then none else some (q.job - 1)

/-- A core stops with an exception (R192, R209): the cause record is kept, and the first one of the job ends it, with FAULT_POISON
for cause 7 and FAULT_CHECK for the others. -/
def raiseExc (core cause code detail dpaHi : Nat) (s : State) : State :=
  let rec_ : Cause := ⟨cause, code, (coreOf s core).pc, detail, dpaHi⟩
  let s1 := modCore core (fun k => { k with task := 3, cause := some rec_, wait := 0, atBar := none }) s
  match jobOfCore s core with
  | none => s1
  | some ref =>
    match jobOf s1 ref with
    | none => s1
    | some j =>
      if j.ending.isSome then s1
      else stopJob ref (if cause = 7 then 0x30 else 0x31) cause (setJob ref (some { j with cause := some rec_, causeCore := core }) s1)

/-- Every task of a job has ended: the job is DONE (R209). -/
def checkDone (ref : Nat) (s : State) : State :=
  match jobOf s ref with
  | none => s
  | some j =>
    if j.kind = 0 ∧ j.code = 2 ∧ j.ending = none ∧ (jobCores j).all (fun c => (coreOf s c).task == 0 || (coreOf s c).task == 2) then
      endJob ref 0x10 0 s
    else s

end Sys2Proof.Machine
end

