-- ==== Sys2Proof/Machine/CoreBase.lean ====
section
/-! DEFINITION. How a core issues an instruction (R157, R169, R192): registers, the program counter, local store blocks, checks and
exceptions. -/

namespace Sys2Proof.Machine

/-! ## Registers -/

/-- A general register; g0 reads as 0 (Table 07.1). -/
def greg (k : Core) (n : Nat) : Word := if n = 0 then 0 else tget 0 k.g n

/-- Write a general register; a write to g0 is discarded. -/
def setG (n : Nat) (v : Word) (k : Core) : Core := if n = 0 then k else { k with g := tput 0 k.g n v }

/-- Key and value of one lane of a lane register. -/
def laneKey (v lane : Nat) : Nat := v * 16 + lane
def laneOf (k : Core) (v lane : Nat) : Word := tget 0 k.v (laneKey v lane)
def setLane (v lane : Nat) (x : Word) (k : Core) : Core := { k with v := tput 0 k.v (laneKey v lane) x }

/-- One lane of an accumulator. -/
def accOf (k : Core) (a lane : Nat) : BitVec 64 := tget 0 k.acc (a * 16 + lane)
def setAcc (a lane : Nat) (x : BitVec 64) (k : Core) : Core := { k with acc := tput 0 k.acc (a * 16 + lane) x }

/-- FLAGS[3:0] accumulate (R141). -/
def orFlags (n : Nat) (k : Core) : Core := { k with flags := k.flags ||| n }

/-- The pair of registers n, n + 1 as one number. -/
def pairOf (k : Core) (n : Nat) : Nat := (greg k n).toNat + 4294967296 * (greg k (n + 1)).toNat

/-- The next word address; PC has 15 bits (Table 07.1). -/
def nextPc (k : Core) : Nat := (k.pc + 1) % 32768

/-- An `n`-bit field read as a signed number. -/
def sx (n v : Nat) : Int := signedOf n v

/-- A 32-bit word from an integer, wrapping. -/
def wordOf (v : Int) : Word := BitVec.ofInt 32 v

/-! ## Local store -/

/-- Bytes of the local store, a multiple of a block, and whether a range lies inside it. -/
def lsBytes : Nat := 131072
def inLs (addr n : Nat) : Bool := decide (addr + n ≤ lsBytes)

/-- Read and write the local store of a core. -/
def lsLoad (s : State) (c addr n : Nat) : List Byte := loadBytes s.mem.ls (c * lsBytes + addr) n
def lsStore (c addr : Nat) (bs : List Byte) (s : State) : State :=
  { s with mem := { s.mem with ls := storeBytes s.mem.ls (c * lsBytes + addr) bs } }

/-- Poison bit of a block. -/
def lsPoisoned (s : State) (c blk : Nat) : Bool := tget false s.mem.lsPoison (c * 2048 + blk)
def setLsPoison (c blk : Nat) (p : Bool) (s : State) : State :=
  { s with mem := { s.mem with lsPoison := tput false s.mem.lsPoison (c * 2048 + blk) p } }

/-- State of a block: 0 free, 1 filling, 2 draining (R181). -/
def blkOf (k : Core) (blk : Nat) : Nat := tget 0 k.blk blk
def setBlk (blk st : Nat) (k : Core) : Core := { k with blk := tput 0 k.blk blk st }

/-- Blocks that a byte range touches. -/
def blocksOf (addr n : Nat) : List Nat := (List.range ((addr + n - 1) / 64 - addr / 64 + 1)).map (· + addr / 64)

/-- A core write of bytes: it clears the poison bit of every block that it covers whole (R152). -/
def coreStore (c addr : Nat) (bs : List Byte) (s : State) : State :=
  each ((blocksOf addr bs.length).filter (fun b => decide (addr ≤ b * 64) && decide (b * 64 + 64 ≤ addr + bs.length)))
    (fun b s => setLsPoison c b false s) (lsStore c addr bs s)

/-! ## Issuing -/

/-- What an instruction comes to: an exception (cause, CODE, DETAIL, DPA_HI); a wait in a scoreboard state (R209) that counts as not
started (R193); its effect, with the PC it leaves; or its effect with the core still at the instruction (a barrier arrival). -/
inductive CoreRes where
  | trap (cause code detail dpaHi : Nat)
  | wait (st : Nat)
  | go (pc : Nat) (s : State)
  | stay (st : Nat) (s : State)

/-- An exception with no CODE and no address. -/
def trapOf (cause : Nat) : CoreRes := .trap cause 0 0 0

/-- The core can issue an instruction: its task runs on a running job's panel, and it waits for no barrier and no AMO. -/
def mayIssue (s : State) (c : Nat) : Bool :=
  decide (c < 1200) && (coreOf s c).task == 1 && (coreOf s c).amoWait.isNone && (coreOf s c).atBar.isNone
    && (panelOf s (panelOfCore c)).st == 1
    && (match jobOfCore s c with
        | none => false
        | some ref => match jobOf s ref with
          | none => false
          | some j => j.code == 2 && j.step == 0 && j.ending.isNone)

/-- The counters of SEC-DED (R152, Table 17.2 SOURCE 0x42 and 0x43). -/
def countLs (p : Nat) (l : LsChk) (s : State) : State :=
  match l with
  | .ok => s
  | .corrected => bucketEvent 0x42 p 0 none 0 (rinc Obj.PANEL_LS_CORRECTED p s)
  | .uncorrectable => bucketEvent 0x43 p 1 none 0 (rinc Obj.PANEL_LS_UNCORRECTABLE p s)

/-- The counters of the residue check (R157, SOURCE 0x40 and 0x41). -/
def countRes (p : Nat) (r : ResChk) (s : State) : State :=
  match r with
  | .pass => s
  | .retried => bucketEvent 0x40 p 1 none 0 (rinc Obj.PANEL_RESIDUE_RETRIES p s)
  | .failed => bucketEvent 0x41 p 1 none 0 (rinc Obj.PANEL_RESIDUE_TRAPS p s)

/-- The residue check as it counts: always a pass while checking is off (R158). -/
def chkNow (s : State) (r : ResChk) : ResChk := if rget Obj.GRID_RESIDUE_ENABLE 0 s = 0 then .pass else r

/-- The core waits at its instruction in a scoreboard state (R209). Each issue that finds the wait counts as one instruction time of
waiting on queues or on pool transfers (Table 07.8; DESIGN CHOICE). -/
def startWait (c st : Nat) (s : State) : State :=
  let s1 := modCore c (fun k => { k with wait := st }) s
  if st = 2 ∨ st = 3 then rinc Obj.CORE_MSG_WAITS c s1
  else if st = 5 then rinc Obj.CORE_POOL_WAITS c s1
  else s1

/-- An instruction's effect is kept: the PC moves and the instruction is counted. -/
def complete (c pc : Nat) (s : State) : State :=
  rinc Obj.CORE_INSTRUCTIONS c (modCore c (fun k => { k with pc := pc, wait := 0 }) s)

/-- Issue an instruction of a core. `addr` is the local store address it reads, for the cause record of a check trap on local store;
an instruction that reads no data reads its own word. An exception leaves no effect of it (R192); a failed check is cause 9, after
every lower one (R157, R152). -/
def issue (c : CoreCtx) (addr : Core → Option Nat) (run : Core → State → CoreRes) (s : State) : Answer :=
  if !mayIssue s c.core then .next s
  else
    let k := coreOf s c.core
    let p := panelOfCore c.core
    let chk := chkNow s c.chk
    let at_ := (addr k).getD (k.pc * 4)
    match run k s with
    | .wait st => .next (startWait c.core st s)
    | .trap cause code detail hi => .next (raiseExc c.core cause code detail hi (countLs p c.ls s))
    | .go pc s1 =>
      if c.ls = .uncorrectable then .next (raiseExc c.core 9 0 at_ 0 (countLs p c.ls s))
      else if chk = .failed then .next (raiseExc c.core 9 0 0 0 (countRes p chk (countLs p c.ls s)))
      else .next (complete c.core pc (countRes p chk (countLs p c.ls s1)))
    | .stay st s1 =>
      if c.ls = .uncorrectable then .next (raiseExc c.core 9 0 at_ 0 (countLs p c.ls s))
      else if chk = .failed then .next (raiseExc c.core 9 0 0 0 (countRes p chk (countLs p c.ls s)))
      else .next (startWait c.core st (countRes p chk (countLs p c.ls s1)))

/-- The effect of an instruction that only changes its core's registers and goes on to the next word. -/
def regs (c : Nat) (f : Core → Core) (k : Core) (s : State) : CoreRes := .go (nextPc k) (modCore c f s)

/-- A read of local store bytes by an instruction (R163, R174, R181): cause 2 outside the store or misaligned, a wait while a block is
filling, cause 7 with the address for a poison block, else its bytes. -/
def readLs (c : Nat) (addr n align : Nat) (k : Core) (s : State) (f : List Byte → CoreRes) : CoreRes :=
  if !inLs addr n || decide (addr % align ≠ 0) then trapOf 2
  else if (blocksOf addr n).any (fun b => blkOf k b == 1) then .wait 5
  else if (blocksOf addr n).any (lsPoisoned s c) then .trap 7 0 addr 0
  else f (lsLoad s c addr n)

/-- A store of local store bytes by an instruction (R174, R181): it waits while a block is filling or draining. -/
def writeLs (c : Nat) (addr align : Nat) (bs : List Byte) (k : Core) (s : State) : CoreRes :=
  if !inLs addr bs.length || decide (addr % align ≠ 0) then trapOf 2
  else if (blocksOf addr bs.length).any (fun b => blkOf k b != 0) then .wait 5
  else .go (nextPc k) (coreStore c addr bs s)

end Sys2Proof.Machine
end

