-- ==== Sys2Proof/Machine/Header.lean ====
section
/-! DEFINITION. Tile headers as bytes (Table 06.1), which header a tile reports (R148), and writing one (R182). -/

namespace Sys2Proof.Machine

/-- Bits [479:0] of a tile's header. -/
def hdrBits (t : Nat) (h : TileHdr) : Nat :=
  h.hver + h.fmt * 2 ^ 8 + b2n h.typed * 2 ^ 12 + b2n h.bs * 2 ^ 13 + b2n h.sealed * 2 ^ 14 + h.kslot * 2 ^ 15
    + h.layout * 2 ^ 16 + h.rows * 2 ^ 32 + h.cols * 2 ^ 48 + t % 2 ^ 33 * 2 ^ 64 + h.kgen * 2 ^ 128 + h.tcrc * 2 ^ 160
    + h.srcfmt * 2 ^ 192 + h.rmode * 2 ^ 196 + h.user * 2 ^ 256

/-- The header as stored: TCRC and USER XOR the mask M of R433. A header that no key covers is stored as it is. -/
def maskHdr (t : Nat) (h : TileHdr) : TileHdr :=
  if h.kgen = 0 then h
  else
    let m := Config.headerMask h.kgen t
    { h with tcrc := Nat.xor h.tcrc (bits m 0 32), user := Nat.xor h.user (bits m 32 64) }

/-- The 64 bytes of a header as it is reported, with HCRC over bits [479:0] of the header as stored (R433). -/
def hdrBytes (t : Nat) (h : TileHdr) : List Byte :=
  natLE 60 (hdrBits t h) ++ natLE 4 (crc32c (natLE 60 (hdrBits t (maskHdr t h))))

/-- The header a tile reports: the near header of a resident tile, the far header of a FAR tile, the raw header of a ZERO tile. -/
def hdrOf (s : State) (t : Nat) : TileHdr :=
  let g := tagOf s t
  if g.st ≠ 0 then { g.hdr with kslot := g.kslot }
  else if (farOf s t).kind = 1 then (farOf s t).hdr
  else { hver := 0 }

/-- The fields that R144 step 3 lists, from the bytes of a header; the home slice keeps KSLOT and KGEN. -/
def hdrFields (bs : List Byte) (old : TileHdr) : TileHdr :=
  let n := leNat bs
  { old with
    hver := 1, fmt := bits n 8 4, typed := bit n 12, bs := bit n 13, sealed := bit n 14, layout := bits n 16 16
    rows := bits n 32 16, cols := bits n 48 16, tcrc := bits n 160 32, srcfmt := bits n 192 4, rmode := bits n 196 2
    user := bits n 256 64 }

/-- A header is written to a resident tile: an evicting demotion is aborted, the far copy is out of date, and other panels' watches end. -/
def writeHdr (t : Nat) (panel : Option Nat) (f : TileHdr → TileHdr) (s : State) : State :=
  let s0 := match crossingOf s t with
    | some c => if c.kind = .evict then abortEvict t s else modCrossing t (fun c => { c with written := true }) s
    | none => s
  endWatches t panel (modTag t (fun g => { g with
    st := if g.st = 3 then 4 else g.st, hdr := f g.hdr, ref := true, accessed := true }) s0)

/-- Bring a tile resident for a header access: `true` when its header can be read or written now. A ZERO tile takes a frame only
when the header is to be written. -/
def hdrReady (t : Nat) (write : Bool) (s : State) : State × Bool :=
  let g := tagOf s t
  if 3 ≤ g.st then (s, true)
  else if g.st = 2 then (demandPromotion t 0 s, false)
  else if (farOf s t).kind = 1 then
    match startPromotion t 0 0 s with
    | some s1 => (s1, false)
    | none => (s, false)
  else if write then
    match zeroToNear t s with
    | some s1 => (s1, true)
    | none => (s, false)
  else (s, true)

end Sys2Proof.Machine
end

