-- ==== Sys2Proof/Machine/CoreXfer.lean ====
section
/-! DEFINITION. Pool transfers, core atomics, fences, messages, barriers and the end of a task (R159 to R163, R180 to R191). -/

namespace Sys2Proof.Machine

/-! ## Pool transfers (R180 to R182) -/

/-- Lines and chunks that a core, or a panel, has outstanding (Table 07.5). -/
def isChunk (x : Xfer) : Bool := x.fn == 3 || x.fn == 4
def linesOut (s : State) (cores : List Nat) : Nat := (cores.map (fun c => ((coreOf s c).xfers.filter (fun x => !isChunk x)).length)).sum
def chunksOut (s : State) (cores : List Nat) : Nat := (cores.map (fun c => ((coreOf s c).xfers.filter isChunk).length)).sum

/-- The core or its panel is at its limit (R161). -/
def atLimit (s : State) (c : Nat) (chunk : Bool) : Bool :=
  let all := coresOfPanel (panelOfCore c)
  if chunk then decide (2 ≤ chunksOut s [c]) || decide (32 ≤ chunksOut s all)
  else decide (16 ≤ linesOut s [c]) || decide (256 ≤ linesOut s all)

/-- An access or poison exception names the line: DPA bits [37:6] and [48:38] (Table 08.7). -/
def lineTrap (cause line : Nat) : CoreRes := .trap cause 0 (line % 4294967296) (line / 4294967296 % 2048)

/-- The berth and world of a core's panel. -/
def coreBerth (s : State) (c : Nat) : Nat := (panelOf s (panelOfCore c)).berth
def coreWorld (s : State) (c : Nat) : Bool := (panelOf s (panelOfCore c)).world

/-- Watches of every panel and saved job on tiles of one home slice (R215). A watch that has ended takes no record. -/
def watchesAt (s : State) (home : Nat) : Nat :=
  let here (ws : List Watch) : Nat := (ws.filter (fun w => w.intact && homeOf s w.tile == home)).length
  (s.grid.panels.map (fun p => here p.2.watches)).sum
    + (s.jobs.jobs.map (fun q => match q.2 with
        | some j => (j.saved.map (fun v => here v.watches)).sum
        | none => 0)).sum

/-- A fifth watch of the panel (R182): it holds those that have not ended. A watch on a tile that is watched already starts again. -/
def watchFull (s : State) (p t : Nat) : Bool :=
  let ws := (panelOf s p).watches.filter (fun w => w.intact)
  !ws.any (fun w => w.tile == t) && decide (4 ≤ ws.length)

/-- Start a watch of a panel on a tile; in a full home slice it has already ended (R215). -/
def startWatch (p t : Nat) (s : State) : State :=
  let ok := decide (watchesAt s (homeOf s t) < 2048)
  modPanel p (fun q => { q with watches := q.watches.filter (fun w => w.intact && w.tile != t) ++ (if ok then [⟨t, true⟩] else []) }) s

/-- The panel's watch on a tile is intact. -/
def watchIntact (s : State) (p t : Nat) : Bool := (panelOf s p).watches.any (fun w => w.tile == t && w.intact)

/-- What a transfer's FN asks of its operands (Table 08.4). -/
structure XferShape where
  fn : Nat
  align : Nat
  blocks : Nat
  write : Bool
  watch : Bool

/-- The checks of a transfer and its effect when it may start: `f` gets the DPA and the local store address. `gbOk` and `gxOk` say
that a field which must be 0 is 0. -/
def poolInstr (c : CoreCtx) (gb gp : Nat) (sh : XferShape) (zeroOk : Bool) (extra : Core → Bool)
    (f : Nat → Nat → Core → State → CoreRes) (s : State) : Answer :=
  issue c (fun _ => none) (fun k s =>
    let dpa := pairOf k gp
    let addr := if sh.blocks = 0 then 0 else (greg k gb).toNat
    let p := panelOfCore c.core
    if !zeroOk then trapOf 1
    else if gp % 2 ≠ 0 ∨ 2 ^ 49 ≤ dpa ∨ dpa % sh.align ≠ 0 ∨ addr % 64 ≠ 0 ∨ lsBytes < addr + sh.blocks * 64 ∨ extra k = true
        ∨ (sh.watch = true ∧ watchFull s p (dpa / 65536) = true) then trapOf 2
    else if !devMay s (coreBerth s c.core) (coreWorld s c.core) (dpa / 64) sh.write then lineTrap 5 (dpa / 64)
    else if sh.blocks ≠ 0 ∧ ((List.range sh.blocks).any (fun i => blkOf k (addr / 64 + i) != 0) = true
        ∨ atLimit s c.core (sh.align == 4096) = true) then .wait 5
    else f dpa addr k s) s

/-- Add a transfer to a core, its blocks filling (1) or draining (2). -/
def addXfer (c : Nat) (x : Xfer) (n st : Nat) (s : State) : State :=
  modCore c (fun k => (List.range n).foldl (fun k i => setBlk (x.block + i) st k)
    { k with xfers := k.xfers ++ [x], nextXfer := k.nextXfer + 1 }) s

/-- A read of `n` lines into `n` blocks starts. -/
def startRead (c fn n dpa addr : Nat) (k : Core) (s : State) : CoreRes :=
  let id := k.nextXfer
  let b := coreBerth s c
  let s1 := addXfer c ⟨id, fn, dpa / 64, addr / 64, 0, n, epochOf s b, []⟩ n 1 s
  .go (nextPc k) (each (List.range n) (fun i s => devReq (.core c id) (dpa / 64 + i) .devRead b s) s1)

/-- Reference of a core's transfer in its panel's weave packets (a choice of the model): core index × 512 + transfer number; AMOs take
the number 511. -/
def xferTag (c id : Nat) : Nat := panelIndex c * 512 + id % 511

/-- A long packet leaves its source and waits for its acknowledgement (R232, R233). -/
def sendLong (src tag : Nat) (s : State) : State := { s with weave := { s.weave with longs := s.weave.longs ++ [(src, tag, 1)] } }

/-- A write of `n` lines from `n` blocks starts: the bytes leave now, a poison block writes its line as poison (R163). -/
def startWrite (c fn n dpa addr : Nat) (mask : List Bool) (k : Core) (s : State) : CoreRes :=
  let id := k.nextXfer
  let b := coreBerth s c
  let s1 := addXfer c ⟨id, fn, dpa / 64, addr / 64, 0, n, epochOf s b, []⟩ n 2
    (radd Obj.PANEL_WEAVE_BYTES_OUT (panelOfCore c) (64 * n) (if fn = 4 then sendLong (panelOfCore c) (xferTag c id) s else s))
  .go (nextPc k) (each (List.range n) (fun i s' =>
    let poison := lsPoisoned s c (addr / 64 + i)
    devReq (.core c id) (dpa / 64 + i)
      (.devWrite (if poison then List.replicate 64 0 else lsLoad s c (addr + 64 * i) 64) (if poison then fullMask else mask) poison) b s') s1)

/-- The bytes of a line that LWP writes: GX[5:0] to GX[13:8]. -/
def lwpMask (gx : Word) : List Bool :=
  (List.range 64).map (fun i => decide (gx.toNat % 64 ≤ i) && decide (i ≤ gx.toNat / 256 % 64))

def execLrd (c : CoreCtx) (gb gp gx : Nat) (s : State) : Answer :=
  poolInstr c gb gp ⟨0, 64, 1, false, false⟩ (gx == 0) (fun _ => false) (startRead c.core 0 1) s
def execLwr (c : CoreCtx) (gb gp gx : Nat) (s : State) : Answer :=
  poolInstr c gb gp ⟨1, 64, 1, true, false⟩ (gx == 0) (fun _ => false) (fun d a k => startWrite c.core 1 1 d a fullMask k) s

/-- LWP takes its byte range from register GX. Table 08.4 gives the range in GX, and the rule that the GX field is 0 for FN 0x00 to
0x06 is read as leaving FN 0x02 out (DEDUCED). -/
def execLwp (c : CoreCtx) (gb gp gx : Nat) (s : State) : Answer :=
  poolInstr c gb gp ⟨2, 64, 1, true, false⟩ true (fun k => decide ((greg k gx).toNat / 256 % 64 < (greg k gx).toNat % 64))
    (fun d a k => startWrite c.core 2 1 d a (lwpMask (greg k gx)) k) s
def execCrd (c : CoreCtx) (gb gp gx : Nat) (s : State) : Answer :=
  poolInstr c gb gp ⟨3, 4096, 64, false, false⟩ (gx == 0) (fun _ => false) (startRead c.core 3 64) s
def execCwr (c : CoreCtx) (gb gp gx : Nat) (s : State) : Answer :=
  poolInstr c gb gp ⟨4, 4096, 64, true, false⟩ (gx == 0) (fun _ => false) (fun d a k => startWrite c.core 4 64 d a fullMask k) s

/-- HRD: the tile header into one block, and a watch; a FAR tile waits for its promotion. -/
def execHrd (c : CoreCtx) (gb gp gx : Nat) (s : State) : Answer :=
  poolInstr c gb gp ⟨5, 65536, 1, false, true⟩ (gx == 0) (fun _ => false) (fun d a k s =>
    let s1 := startWatch (panelOfCore c.core) (d / 65536) s
    let s2 := addXfer c.core ⟨k.nextXfer, 5, d / 64, a / 64, 0, 0, epochOf s (coreBerth s c.core), []⟩ 1 1 s1
    .go (nextPc k) (hdrReady (d / 65536) false s2).1) s

/-- WOPEN: a watch on the tile. -/
def execWopen (c : CoreCtx) (gb gp gx : Nat) (s : State) : Answer :=
  poolInstr c gb gp ⟨6, 65536, 0, false, true⟩ (gb == 0 && gx == 0) (fun _ => false) (fun d _ k s =>
    .go (nextPc k) (startWatch (panelOfCore c.core) (d / 65536) s)) s

/-- WCHK: GX = 1 if the panel's watch on the tile is intact, else 0. -/
def execWchk (c : CoreCtx) (gb gp gx : Nat) (s : State) : Answer :=
  poolInstr c gb gp ⟨7, 65536, 0, false, false⟩ (gb == 0) (fun _ => false) (fun d _ k s =>
    .go (nextPc k) (modCore c.core (setG gx (if watchIntact s (panelOfCore c.core) (d / 65536) then 1 else 0)) s)) s

/-- HWR: the tile header from one block; GX takes its result when the home slice has written it. -/
def execHwr (c : CoreCtx) (gb gp gx : Nat) (s : State) : Answer :=
  poolInstr c gb gp ⟨8, 65536, 1, true, false⟩ true (fun _ => false) (fun d a k s =>
    let s1 := addXfer c.core ⟨k.nextXfer, 8, d / 64, a / 64, gx, 0, epochOf s (coreBerth s c.core), lsLoad s c.core a 64⟩ 1 2
      (radd Obj.PANEL_WEAVE_BYTES_OUT (panelOfCore c.core) 64 s)
    .go (nextPc k) (hdrReady (d / 65536) true s1).1) s

/-- A transfer of a core by its number. -/
def xferOf (s : State) (c id : Nat) : Option Xfer := (coreOf s c).xfers.find? (fun x => x.id == id)

/-- A transfer has ended: its blocks are free, and a job that waits for it may end. -/
def endXfer (c : Nat) (x : Xfer) (n : Nat) (s : State) : State :=
  let s1 := modCore c (fun k => (List.range n).foldl (fun k i => setBlk (x.block + i) 0 k)
    { k with xfers := k.xfers.filter (fun y => y.id != x.id) })
    { s with
      mf := { s.mf with served := s.mf.served.filter (fun v => v.src != .core c x.id) }
      weave := { s.weave with longs := s.weave.longs.filter (fun l => !(l.1 == panelOfCore c && l.2.1 == xferTag c x.id)) } }
  match jobOfCore s c with
  | some ref => tryEnd ref s1
  | none => s1

/-- Lines of a transfer that its home slices have served. -/
def servedXfer (s : State) (c id : Nat) : List Served := s.mf.served.filter (fun v => v.src == .core c id)

/-- One line lands in its block, its poison with it (R163). -/
def landLine (c : Nat) (x : Xfer) (v : Served) (s : State) : State :=
  let blk := x.block + (v.line - x.line)
  setLsPoison c blk v.poison (lsStore c (blk * 64) v.data s)

/-- Data of a pool read lands (R181): every line of it has been served, or the header of its tile can be read. -/
def execPoolDataLanded (core xfer : Nat) (s : State) : Answer :=
  match xferOf s core xfer with
  | none => .next s
  | some x =>
    let p := panelOfCore core
    if x.fn = 5 then
      let t := x.line / 1024
      match hdrReady t false s with
      | (s1, false) => .next s1
      | (s1, true) => .next (endXfer core x 1 (setLsPoison core x.block false
          (lsStore core (x.block * 64) (hdrBytes t (hdrOf s1 t)) (radd Obj.PANEL_WEAVE_BYTES_IN p 64 s1))))
    else if x.fn = 0 ∨ x.fn = 3 then
      let got := servedXfer s core xfer
      if got.length < x.owed then .next s
      else .next (endXfer core x x.owed (each got (landLine core x) (radd Obj.PANEL_WEAVE_BYTES_IN p (64 * x.owed) s)))
    else .next s

/-- A pool write is in its home slices' write queues (R183), or a header is written (R182): SEALED only if the block asked for it and
the panel's watch is intact, and the watch ends. -/
def execPoolWriteAccepted (core xfer : Nat) (s : State) : Answer :=
  match xferOf s core xfer with
  | none => .next s
  | some x =>
    let p := panelOfCore core
    if x.fn = 8 then
      let t := x.line / 1024
      match hdrReady t true s with
      | (s1, false) => .next s1
      | (s1, true) =>
        let asked := bit (leNat x.bytes) 14
        let ok := watchIntact s1 p t
        let s2 := writeHdr t (some p) (fun h => { hdrFields x.bytes h with sealed := asked && ok }) s1
        let s3 := modPanel p (fun q => { q with watches := q.watches.filter (fun w => w.tile != t) }) s2
        .next (endXfer core x 1 (modCore core (setG x.gx (if !asked || ok then 1 else 0)) s3))
    else if x.fn = 1 ∨ x.fn = 2 ∨ x.fn = 4 then
      if (servedXfer s core xfer).length < x.owed then .next s else .next (endXfer core x x.owed s)
    else .next s

/-! ## AMO and FENCE (R183, R184) -/

/-- AMO: an atomic at home. The core holds at the instruction until its result is written. -/
def execAmo (c : CoreCtx) (rd gp gx gs : Nat) (s : State) : Answer :=
  issue c (fun _ => none) (fun k s =>
    let w := pairOf k gp
    let addr := bits w 0 49
    let type := bits w 49 4
    let op := bits w 53 6
    let b := coreBerth s c.core
    if gp % 2 ≠ 0 ∨ rd % 2 ≠ 0 ∨ gx % 4 ≠ 0 ∨ bits w 59 5 ≠ 0 ∨ atwPaired op type = false ∨ addr % atwSize type ≠ 0 then trapOf 2
    else if !devMay s b (coreWorld s c.core) (addr / 64) (op != 0) then lineTrap 5 (addr / 64)
    else
      let s1 := modCore c.core (fun k => { k with amoWait := some (rd, gs) }) s
      .stay 0 (devReq (.amo c.core) (addr / 64) (.window op type addr (pairOf k gx) (pairOf k (gx + 2)) 0) b s1)) s

/-- FENCE waits until every earlier pool transfer of the core has ended. -/
def execFence (c : CoreCtx) (s : State) : Answer :=
  issue c (fun _ => none) (fun k s => if k.xfers.isEmpty then .go (nextPc k) s else .wait 5) s

/-! ## Messages (R159, R160, R185 to R188) -/

/-- The link between two neighbours is open: one panel, or two of one berth, world and job. -/
def linkOpen (s : State) (a b : Nat) : Bool :=
  let p := panelOfCore a
  let q := panelOfCore b
  let x := panelOf s p
  let y := panelOf s q
  p == q || (x.berth == y.berth && x.world == y.world && x.job == y.job && x.job != 0 && x.st == 1 && y.st == 1)

/-- A queue of a core: 0 N, 1 E, 2 S, 3 W, 4 weave. -/
def queueOf (s : State) (c q : Nat) : List Msg := tget [] (coreOf s c).queues q
def setQueue (c q : Nat) (l : List Msg) (s : State) : State := modCore c (fun k => { k with queues := tput [] k.queues q l }) s

/-- SEND (R185). -/
def execSend (c : CoreCtx) (first target len port tag : Nat) (s : State) : Answer :=
  issue c (fun _ => none) (fun k s =>
    let words := (List.range (len % 8 + 1)).map (fun i => (greg k (first + i)).toNat)
    let p := panelOfCore c.core
    if port < 4 ∧ target ≠ 0 then trapOf 1
    else if 63 < first + len % 8 ∨ 5 ≤ port then trapOf 2
    else if port < 4 then
      match neighbour c.core port with
      | none => trapOf 4
      | some n =>
        let q := (port + 2) % 4
        if !linkOpen s c.core n then trapOf 4
        else if 4 ≤ (queueOf s n q).length then .wait 2
        else .go (nextPc k) (setQueue n q (queueOf s n q ++ [⟨c.core, n, tag, words⟩]) s)
    else
      let dst := (greg k target).toNat
      let x := panelOf s p
      let y := panelOf s (panelOfCore dst)
      if 1200 ≤ dst then trapOf 2
      else if !(x.berth == y.berth && x.world == y.world) then trapOf 4
      else if 32 ≤ x.outbound.length then .wait 2
      else .go (nextPc k) (radd Obj.PANEL_WEAVE_BYTES_OUT p 48
        (modPanel p (fun q => { q with outbound := q.outbound ++ [⟨c.core, dst, tag, words⟩] }) s))) s

/-- The header word of Table 08.5. -/
def headerWord (m : Msg) (port : Nat) : Word :=
  BitVec.ofNat 32 (m.src + (m.words.length - 1) * 2048 + 16384 + port * 32768 + m.tag % 256 * 16777216)

/-- Take the oldest message of a queue into registers. -/
def takeMsg (c first hdr q : Nat) (m : Msg) (rest : List Msg) (k : Core) (s : State) : CoreRes :=
  .go (nextPc k) (modCore c (fun k => setG hdr (headerWord m q)
    (m.words.zipIdx.foldl (fun k w => setG (first + w.2) (BitVec.ofNat 32 w.1) k) k)) (setQueue c q rest s))

/-- RECV (R186). -/
def execRecv (c : CoreCtx) (first hdr len port tag : Nat) (s : State) : Answer :=
  issue c (fun _ => none) (fun k s =>
    let linkOk : Bool := match neighbour c.core port with
      | none => false
      | some n => linkOpen s c.core n
    let qs := if port = 5 then [0, 1, 2, 3, 4] else [port]
    if len ≠ 0 then trapOf 1
    else if 56 < first ∨ 6 ≤ port then trapOf 2
    else if port < 4 ∧ linkOk = false then trapOf 4
    else match qs.find? (fun q => !(queueOf s c.core q).isEmpty) with
      | none => if tag % 2 = 1 then regs c.core (setG hdr 0) k s else .wait 3
      | some q => match queueOf s c.core q with
        | [] => .wait 3
        | m :: rest => takeMsg c.core first hdr q m rest k s) s

/-- A core's panel runs a job: placed and not being loaded, saved or restored. -/
def jobRuns (s : State) (c : Nat) : Bool :=
  match jobOfCore s c with
  | none => false
  | some ref => match jobOf s ref with
    | none => false
    | some j => j.code == 2 && j.step == 0

/-- A message cell may leave a panel's port: its target core's weave queue has room and its panel takes cells (R188, R213), with no load
or restore still to write the queue (R199, R214). -/
def mayDeliver (s : State) (m : Msg) : Bool :=
  let y := panelOf s (panelOfCore m.dst)
  y.st == 1 && jobRuns s m.dst && decide ((queueOf s m.dst 4).length < 8)

/-- The oldest cell that may leave and follows no other cell of its own pair of cores (R160). -/
def nextCell (s : State) : List Msg → List Msg → Option (Msg × List Msg)
  | _, [] => none
  | before, m :: r =>
    if mayDeliver s m && !before.any (fun b => b.src == m.src && b.dst == m.dst) then some (m, before ++ r)
    else nextCell s (before ++ [m]) r

/-- A message cell of a panel arrives at its target core (R187). -/
def execCoreMessage (panel : Nat) (s : State) : Answer :=
  match nextCell s [] (panelOf s panel).outbound with
  | none => .next s
  | some (m, rest) =>
    .next (radd Obj.PANEL_WEAVE_BYTES_IN (panelOfCore m.dst) 48 (setQueue m.dst 4 (queueOf s m.dst 4 ++ [m])
      (modPanel panel (fun q => { q with outbound := rest }) s)))

/-! ## Barriers and END (R189, R191) -/

def barOf (s : State) (p n : Nat) : Barrier := tget {} (panelOf s p).bars n
def setBar (p n : Nat) (b : Barrier) (s : State) : State := modPanel p (fun q => { q with bars := tput {} q.bars n b }) s

/-- Cores of a panel that a mask names. -/
def barCores (p mask : Nat) : List Nat := ((List.range 20).filter (bit mask)).map (coreAt p)

/-- BAR (R189): the first arrival fixes the mask; the last one releases every core that waits, and the barrier resets. -/
def execBar (c : CoreCtx) (ra barrier : Nat) (s : State) : Answer :=
  issue c (fun _ => none) (fun k s =>
    let p := panelOfCore c.core
    let i := panelIndex c.core
    let mask := (greg k ra).toNat
    let b := barOf s p (barrier % 4)
    if 2 ^ 20 ≤ mask ∨ bit mask i = false ∨ (b.arrived ≠ 0 ∧ b.mask ≠ mask)
        ∨ (barCores p mask).any (fun n => (coreOf s n).task != 1) = true then trapOf 6
    else
      let arrived := b.arrived ||| 2 ^ i
      if arrived = mask then
        .go (nextPc k) (each ((barCores p mask).filter (fun n => n != c.core)) (fun n s =>
          complete n (nextPc (coreOf s n)) (modCore n (fun k => { k with atBar := none }) s)) (setBar p (barrier % 4) {} s))
      else .stay 4 (modCore c.core (fun k => { k with atBar := some (barrier % 4) }) (setBar p (barrier % 4) ⟨mask, arrived⟩ s))) s

/-- The end of a task breaks every incomplete barrier that names its core: each core that waits there raises barrier. -/
def breakBarriers (c : Nat) (s : State) : State :=
  let p := panelOfCore c
  each ([0, 1, 2, 3].filter (fun n => (barOf s p n).arrived != 0 && bit (barOf s p n).mask (panelIndex c))) (fun n s =>
    each ((barCores p (barOf s p n).mask).filter (fun m => (coreOf s m).atBar == some n)) (fun m s => raiseExc m 6 0 0 0 s) s) s

/-- END waits as FENCE does and then ends the core's task (R191); with the last one the job is DONE (R209). -/
def execTaskEnd (c : CoreCtx) (s : State) : Answer :=
  issue c (fun _ => none) (fun k s =>
    if !k.xfers.isEmpty then .wait 5
    else
      let s1 := breakBarriers c.core (modCore c.core (fun k => { k with task := 2, wait := 0 }) s)
      .go (nextPc k) (match jobOfCore s c.core with
        | some ref => checkDone ref s1
        | none => s1)) s

end Sys2Proof.Machine
end

