-- ==== Sys2Proof/Machine/Atomic.lean ====
section
/-! DEFINITION. Home execution (R78, R79, R88, R91, R94): the fixed-function unit's operation on one operand, and what it does to the
line, the window slot or the core that asked. -/

namespace Sys2Proof.Machine

/-- What an operation makes of the old value: the new value, the flags, and whether the operand matched (DONE, else DONE_NOMATCH). -/
structure AtomicRes where
  new : Nat
  fl : Fl := {}
  done : Bool := true

/-- A float result: rounded to nearest, ties to even (R79). -/
def atomicFloat (type : Nat) (r : Val × Fl) : AtomicRes :=
  let q := finish type .rne false r
  { new := q.1, fl := q.2 }

/-- Table 04.6 on raw operand bits. -/
def atomicOp (op type old op1 op2 : Nat) : AtomicRes :=
  let w := 8 * atwSize type
  let a := old % 2 ^ w
  let b := op1 % 2 ^ w
  let c := op2 % 2 ^ w
  match op with
  | 0x00 => { new := a }
  | 0x01 => { new := b }
  | 0x02 => { new := b }
  | 0x03 => if a = c then { new := b } else { new := a, done := false }
  | 0x04 => if isFloat type then atomicFloat type (addVal (decodeVal type a) (decodeVal type b))
    else let r := intAdd type a b; { new := r.1, fl := r.2 }
  | 0x05 => if isFloat type then atomicFloat type (minNumber (decodeVal type a) (decodeVal type b))
    else { new := if intVal type b < intVal type a then b else a }
  | 0x06 => if isFloat type then atomicFloat type (maxNumber (decodeVal type a) (decodeVal type b))
    else { new := if intVal type a < intVal type b then b else a }
  | 0x07 => { new := a &&& b }
  | 0x08 => { new := a ||| b }
  | 0x09 => { new := a ^^^ b }
  | _ =>
    if intVal type a + intVal type b ≤ intVal type c then let r := intAdd type a b; { new := r.1, fl := r.2 }
    else { new := a, done := false }

/-- A unit group keeps the 64 lines it used most recently (R88). -/
def ffuUse (group line : Nat) (s : State) : State :=
  { s with atw := { s.atw with ffu := tmod [] s.atw.ffu group (fun l => (line :: l.filter (fun x => x != line)).take 64) } }

/-- An AMO has its result (R184): the old value in RD and RD + 1, STATUS in GS, the flags in FLAGS; or the exception that stands for the
outcome. -/
def amoResult (c code old : Nat) (fl : Fl) (line : Nat) (s : State) : State :=
  match (coreOf s c).amoWait with
  | none => s
  | some (rd, gs) =>
    let free := modCore c (fun k => { k with amoWait := none }) s
    let s1 :=
      if code = 0x13 then raiseExc c 7 0 (line % 4294967296) (line / 4294967296 % 2048) free
      else if code = 0x15 then raiseExc c 9 0 0 0 free
      else complete c (nextPc (coreOf s c)) (modCore c (fun k => orFlags fl.word (setG gs (BitVec.ofNat 32 code)
        (setG (rd + 1) (BitVec.ofNat 32 (old / 4294967296)) (setG rd (BitVec.ofNat 32 old) k)))) free)
    match jobOfCore s1 c with
    | some ref => tryEnd ref s1
    | none => s1

/-- Post what a home execution came to. -/
def postHome (r : Req) (code old : Nat) (fl : Fl) (s : State) : State :=
  match r.src with
  | .atw ld slot => postAtw ld slot code (if code = 2 then fl.word else 0) old s
  | .amo c => amoResult c code old fl r.line s
  | _ => s

/-- The waiting requests of a line go on after its home execution, and its tile may be demoted again. -/
def afterHome (r : Req) (s : State) : State := settleTile (tileOfLine r.line) s

/-- Carry out a home execution whose recalls are answered (R88): read, modify and write in one step. A poisoned operand line or a
failed residue check leaves the line unchanged (R91). -/
def runHome (r : Req) (checkOk : Bool) (s0 : State) : State :=
  let s := { s0 with mf := { s0.mf with ready := dropFirst (fun q => q == r) s0.mf.ready } }
  match r.kind with
  | .window op type addr op1 op2 _ =>
    let home := homeOf s (tileOfLine r.line)
    let n := atwSize type
    let off := addr % 64
    let old := leNat (((nearLine s r.line).drop off).take n)
    if nearPoisoned s r.line then afterHome r (postHome r 0x13 0 {} s)
    else if !checkOk then afterHome r (postHome r 0x15 0 {} (bucketEvent 0x90 home 1 (some r.line) 0 s))
    else
      let res := atomicOp op type old op1 op2
      let s1 := ffuUse home r.line s
      if !res.done then afterHome r (postHome r 3 old {} s1)
      else
        let data := (List.range 64).map (fun i => if off ≤ i ∧ i < off + n then (natLE n res.new).getD (i - off) 0 else 0)
        let mask := (List.range 64).map (fun i => decide (off ≤ i) && decide (i < off + n))
        let s2 := (mirrorWrite r.line (writeLine r.line data mask false (panelOfSrc r.src) s1)).1
        afterHome r (postHome r 2 old res.fl s2)
  | _ => s

/-- HOME_EXECUTION: the first home execution of the line that is ready (R88). Its tile is brought resident first: a ZERO tile takes a
frame, and a FAR one is promoted while the execution waits. `checkOk` is what the residue check of the arithmetic finds. -/
def execHomeExecution (line : Nat) (checkOk : Bool) (s : State) : Answer :=
  match s.mf.ready.find? (fun r => r.line == line) with
  | none => .next s
  | some r =>
    let t := tileOfLine line
    let g := tagOf s t
    let chunk := lineIdx line / 64
    if 3 ≤ g.st ∨ (g.st = 2 ∧ mapBit g.valid (lineIdx line) = true) then .next (runHome r checkOk s)
    else if g.st = 2 then .next (demandPromotion t chunk s)
    else if (farOf s t).kind = 1 then
      match startPromotion t 0 chunk s with
      | some s1 => .next s1
      | none => .next s
    else match zeroToNear t s with
      | some s1 => .next (runHome r checkOk s1)
      | none => .next s

end Sys2Proof.Machine
end

