-- ==== Sys2Proof/Machine/Jobs.lean ====
section
/-! DEFINITION. Jobs (chapter 9): submission and admission, placement, pre-emption, saving and restoring, time limits and cancels. -/

namespace Sys2Proof.Machine

/-! ## Admission (R200 to R204) -/

/-- A CRC-32C over the first `n` bytes of a list equals the four bytes that follow them. -/
def crcHolds (bs : List Byte) (n : Nat) : Bool := crc32c (bs.take n) == leAt bs n 4

/-- Panels in service of a berth. -/
def berthPanels (s : State) (b : Nat) : List Nat :=
  (List.range 60).filter (fun p => let q := panelOf s p; q.berth == b && !q.lent && q.st != 4 && !q.retireDue)

/-- A job descriptor is valid (Table 09.3, R203): JCRC, reserved bits, KIND, PANELS and count; a secure job comes from a secure
landing (R411). -/
def descValid (s : State) (ld : Nat) (d : List Byte) : Bool :=
  let w := leAt d 0 8
  let kind := bits w 0 2
  let panels := bits w 6 6
  let arg := leAt d 16 8
  crcHolds d 60 && decide (kind ≤ 1) && decide (bits w 12 20 = 0)
    && decide (leAt d 8 8 < 2 ^ 49) && decide (leAt d 8 8 % 64 = 0)
    && decide (leAt d 24 8 < 2 ^ 49) && decide (leAt d 24 8 % 64 = 0) && decide (leAt d 40 20 = 0)
    && (if kind = 0 then decide (panels = 0) && decide (arg < 2 ^ 49)
        else decide (1 ≤ panels) && decide (panels ≤ 60) && decide (1 ≤ arg) && decide (arg ≤ 65536))
    && (!bit w 5 || ldWorld s ld)

/-- The areas a descriptor names can be reached by the berth: what is read and the result area. -/
def areasReachable (s : State) (b : Nat) (d : List Byte) : Bool :=
  let w := leAt d 0 8
  let world := bit w 5
  let arg := leAt d 16 8
  if bits w 0 2 = 0 then
    devMayRange s b world (leAt d 8 8) 64 false && devMayRange s b world arg 1 false && devMayRange s b world (leAt d 24 8) 64 true
  else devMayRange s b world (leAt d 8 8) (64 * arg) false && devMayRange s b world (leAt d 24 8) (64 + 16 * arg) true

/-- Jobs that wait in a berth's queue. -/
def queuedOf (s : State) (b : Nat) : List Nat :=
  (s.jobs.jobs.filter (fun p => match p.2 with
    | some j => j.berth == b && j.ending.isNone && j.step == 0 && (j.code == 1 || j.code == 3)
    | none => false)).map (·.1)

/-- The next JOBREF that no job holds (R204). -/
def newRef (s : State) : Nat :=
  match (List.range 65536).find? (fun k => (jobOf s ((s.jobs.nextRef + k) % 65536)).isNone) with
  | some k => (s.jobs.nextRef + k) % 65536
  | none => s.jobs.nextRef

/-- Admit a job: it receives a JOBREF and shows QUEUED. -/
def queueJob (ld slot : Nat) (d : List Byte) (pw ph size : Nat) (s : State) : State :=
  let b := (ldOf s ld).berth
  let ref := newRef s
  let w := leAt d 0 8
  let x := jslotOf s ld slot
  let tl := bits w 32 32
  let j : Job := {
    kind := bits w 0 2, prio := bits w 2 2, restart := bit w 4, world := bit w 5, panels := bits w 6 6
    tlimit := if tl = 0 then rget Obj.JOB_TLIMIT_DEFAULT b s else tl
    image := leAt d 8 8, arg := leAt d 16 8, result := leAt d 24 8, user := leAt d 32 8
    ld := ld, slot := slot, slotSeq := x.seq, colour := x.colour, berth := b, code := 1, reason := 0, step := 0
    pw := pw, ph := ph, bound := [], order := s.jobs.nextOrder, tSubmit := now s, tStart := 0, tLast := now s, ran := 0
    preempts := 0, descDone := [], descNotOk := 0, cause := none, causeCore := 0, saved := [], size := size }
  let s1 := setJob ref (some j) { s with jobs := { s.jobs with nextRef := (ref + 1) % 65536, nextOrder := s.jobs.nextOrder + 1 } }
  modJslot ld slot (fun x => { x with code := 1, ref := ref }) s1

/-- The last checks of an admission: the footprint fits the berth's panels and its lend limit (0xA1), and its queue has room
(0xA0). -/
def admitSize (ld slot : Nat) (d : List Byte) (pw ph size : Nat) (s : State) : State :=
  let b := (ldOf s ld).berth
  let n := if bits (leAt d 0 8) 0 2 = 0 then pw * ph else bits (leAt d 0 8) 6 6
  if (berthPanels s b).length + rget Obj.JOB_LEND_LIMIT b s < n then endSlot ld slot 0x21 0xA1 s
  else if rget Obj.JOB_QUEUE_LIMIT b s ≤ (queuedOf s b).length then endSlot ld slot 0x21 0xA0 s
  else queueJob ld slot d pw ph size (dropServed (unitHead ld slot) (dropServed (unitDesc ld slot) s))

/-- Step 3 of R204 for an image job: its header is read. A footprint that lies in no grid is refused like one that is too large; a
header that is poison is an invalid image. -/
def admitImage (ld slot : Nat) (d : List Byte) (s : State) : State :=
  let b := (ldOf s ld).berth
  let lines := linesOf (leAt d 8 8) 64
  let s1 := askLines (unitHead ld slot) b lines s
  match gotLines s1 (unitHead ld slot) lines with
  | none => s1
  | some (h, poison) =>
    let pw := bits (leAt h 0 8) 16 4
    let ph := bits (leAt h 0 8) 20 4
    let size := leAt h 20 4
    if poison then endSlot ld slot 0x31 0x81 s1
    else if !devMayRange s1 b (bit (leAt d 0 8) 5) (leAt d 8 8) (min size 67108864) false then endSlot ld slot 0x31 0x82 s1
    else if pw = 0 ∨ 10 < pw ∨ ph = 0 ∨ 6 < ph then endSlot ld slot 0x21 0xA1 s1
    else admitSize ld slot d pw ph size s1

/-- Step 3 of R204: the descriptor is read and checked. -/
def takeIn (ld slot : Nat) (s : State) : State :=
  let b := (ldOf s ld).berth
  let x := jslotOf s ld slot
  if rget Obj.FW_STATE 0 s = 2 then endSlot ld slot 0x31 0x81 s
  else if !devMayRange s b (ldWorld s ld) x.addr 64 false then endSlot ld slot 0x31 0x82 (permRefused b s)
  else
    let lines := linesOf x.addr 64
    let s1 := askLines (unitDesc ld slot) b lines s
    match gotLines s1 (unitDesc ld slot) lines with
    | none => s1
    | some (d, poison) =>
      if poison || !descValid s1 ld d then endSlot ld slot 0x31 0x80 s1
      else if !areasReachable s1 b d then endSlot ld slot 0x31 0x82 (permRefused b s1)
      else if bits (leAt d 0 8) 0 2 = 0 then admitImage ld slot d s1
      else admitSize ld slot d 0 0 0 s1

/-- A yellow submission that its meter lets through goes on. -/
def releaseJob (ld slot : Nat) (s : State) : State :=
  takeIn ld slot (modJslot ld slot (fun x => { x with code := 0 }) s)

/-- Meter a submission: cost 1, kind JOB (R374, step 2 of R204). -/
def meterJob (ld slot : Nat) (s : State) : State :=
  let b := (ldOf s ld).berth
  let ms := [berthMeter b 3]
  let h := linkOfLd s ld
  let c := colourReq ms h 1 none s
  let s1 := modJslot ld slot (fun x => { x with colour := c.colour }) (countColour ms c.colour c.st)
  if c.colour = 0 then takeIn ld slot s1
  else if c.colour = 2 then endSlot ld slot 0x20 0 s1
  else rinc Obj.JOBS_DELAYED_YELLOW b (modJslot ld slot (fun x => { x with code := 4 }) { s1 with meters := { s1.meters with
    held := s1.meters.held ++ [⟨.job ld slot, 3, h, 1, now s1, 1, ms, c.yellowOn, c.redOn⟩] } })

/-- A host write of bytes 0 to 7 of a slot that starts a submission (R201, R204). -/
def startSubmit (r : JobReq) (action : Nat) (s : State) : State :=
  let s1 := modJslot r.ld r.slot (fun x => { x with
    addr := r.addr, code := 0, colour := 0, seq := (x.seq + 1) % 65536, ref := 0, reason := 0, busy := true }) s
  if r.rsvd ≠ 0 ∨ r.addr % 64 ≠ 0 ∨ action ≠ 0 then endSlot r.ld r.slot 0x31 0x85 s1
  else meterJob r.ld r.slot s1

/-- A write of SUBMIT that the slot takes no submission from is discarded and counted (R201). -/
def dropSubmit (ld : Nat) (s : State) : State := rinc Obj.JOB_SLOT_BUSY_DROPS ld s

/-- JOB_SUBMIT (R201, R204): a SUBMIT word with ACTION 0, or 2 or 3, which are invalid. -/
def execJobSubmit (r : JobReq) (action : Nat) (s : State) : Answer :=
  if !linkAccepts s r.ld then .next s
  else match accept r.ld s with
    | (none, s1) => .next s1
    | (some _, s1) =>
      if !r.full || (jslotOf s1 r.ld r.slot).busy then .next (dropSubmit r.ld s1) else .next (startSubmit r action s1)

/-- End a job with a code: one on panels is stopped first (R209), one in a queue ends at once (R212). -/
def endOrStop (ref code reason : Nat) (s : State) : State :=
  match jobOf s ref with
  | none => s
  | some j => if j.step = 0 ∧ j.code ≠ 2 then endJob ref code reason s else stopJob ref code reason s

/-- JOB_CANCEL (R201, R212): accepted on a busy slot only when it names the same descriptor. On a slot whose job has ended the write
starts a submission whose ACTION submits nothing, so it is invalid (DEDUCED from R201 and Table 09.6). -/
def execJobCancel (r : JobReq) (s : State) : Answer :=
  if !linkAccepts s r.ld then .next s
  else match accept r.ld s with
    | (none, s1) => .next s1
    | (some _, s1) =>
      let x := jslotOf s1 r.ld r.slot
      if !r.full then .next (dropSubmit r.ld s1)
      else if !x.busy then .next (startSubmit r 1 s1)
      else if r.addr ≠ x.addr ∨ r.rsvd ≠ 0 then .next (dropSubmit r.ld s1)
      else if x.code = 0 ∨ x.code = 4 then
        .next (endSlot r.ld r.slot 0x32 0xC0 { s1 with meters := { s1.meters with
          held := s1.meters.held.filter (fun h => h.what != .job r.ld r.slot) } })
      else .next (endOrStop x.ref 0x32 0xC0 s1)

/-! ## Placement (R198, R205) -/

/-- Effective priority (R205). -/
def effPrio (s : State) (j : Job) : Nat := min j.prio (rget Obj.JOB_PRIO_CAP j.berth s)

/-- A panel a job could take once it is free: in service, of the job's berth and world, or lendable (in no berth). -/
def ownPanel (s : State) (j : Job) (p : Nat) : Bool :=
  let q := panelOf s p
  q.st != 4 && !q.retireDue && q.berth == j.berth && !q.lent && q.world == j.world
def lendable (s : State) (p : Nat) : Bool :=
  let q := panelOf s p
  q.st != 4 && !q.retireDue && q.berth == 0xFF && !q.lent

/-- A panel with no job; a running pattern test gives way (Table 09.10). -/
def panelFree (s : State) (p : Nat) : Bool := (panelOf s p).job == 0 && ((panelOf s p).st == 0 || (panelOf s p).st == 3)

/-- Panels lent to a berth now. -/
def lentTo (s : State) (b : Nat) : Nat :=
  ((List.range 60).filter (fun p => (panelOf s p).berth == b && (panelOf s p).lent)).length

/-- The panels of the rectangle with origin `o`. -/
def rectangle (o pw ph : Nat) : Option (List Nat) :=
  if o % 10 + pw ≤ 10 ∧ o / 10 + ph ≤ 6 then
    some ((List.range ph).flatMap (fun y => (List.range pw).map (fun x => o + y * 10 + x)))
  else none

/-- Every rectangle of a size, lowest origin first. -/
def rectangles (pw ph : Nat) : List (List Nat) := (List.range 60).filterMap (fun o => rectangle o pw ph)

/-- The berth may take these free panels: own ones, and lendable ones within its lend limit. -/
def mayTake (s : State) (j : Job) (ps : List Nat) : Bool :=
  ps.all (fun p => panelFree s p && (ownPanel s j p || lendable s p))
    && decide (lentTo s j.berth + (ps.filter (fun p => !ownPanel s j p)).length ≤ rget Obj.JOB_LEND_LIMIT j.berth s
               || (ps.all (ownPanel s j)))

/-- A list of panels without those beyond the berth's lend limit. -/
def withinLend (s : State) (j : Job) (ps : List Nat) : List Nat :=
  let mine (p : Nat) : Bool := ownPanel s j p || (panelOf s p).berth == j.berth
  let extra := (ps.filter (fun p => !mine p)).take (rget Obj.JOB_LEND_LIMIT j.berth s - lentTo s j.berth)
  ps.filter (fun p => mine p || extra.contains p)

/-- The panels a waiting job is placed on now (R198, R205). -/
def placement (s : State) (j : Job) : Option (List Nat) :=
  if j.code = 3 then (if mayTake s j j.bound then some j.bound else none)
  else if j.kind = 0 then
    match (rectangles j.pw j.ph).find? (fun r => r.all (ownPanel s j) && mayTake s j r) with
    | some r => some r
    | none => (rectangles j.pw j.ph).find? (mayTake s j)
  else
    let own := (List.range 60).filter (fun p => panelFree s p && ownPanel s j p)
    let all := withinLend s j ((List.range 60).filter (fun p => panelFree s p && (ownPanel s j p || lendable s p)))
    if j.panels ≤ own.length then some (own.take j.panels)
    else if j.panels ≤ all.length ∧ mayTake s j (all.take j.panels) then some (all.take j.panels)
    else none

/-- A panel is taken for a job; a lendable one belongs to the berth and takes the job's world while the job holds it (R205, R411). -/
def takePanel (ref : Nat) (j : Job) (p : Nat) (s : State) : State :=
  let lend := (panelOf s p).berth == 0xFF
  modPanel p (fun q => { q with st := 1, job := ref + 1, lent := lend, berth := j.berth, world := if lend then j.world else q.world }) s

/-- Place a job: a saved job's restore starts; a fresh one's panels are zeroed (R217), and its image is loaded, or its descriptors
run. -/
def placeJob (ref : Nat) (j : Job) (ps : List Nat) (s : State) : State :=
  let s1 := each ps (takePanel ref j) s
  if j.code = 3 then setJob ref (some { j with step := 3 }) s1
  else
    let s2 := each ps zeroPanel s1
    if j.kind = 0 then askLines (unitImage ref) j.berth (linesOf j.image j.size) (setJob ref (some { j with step := 1, bound := ps }) s2)
    else showJob ref 2 0 (setJob ref (some { j with
      code := 2, bound := ps, tLast := now s2, tStart := if j.started then j.tStart else now s2, started := true, ran := 0 }) s2)

/-- Order of a berth's queue: effective priority, a PREEMPTED job first, one returned to the head, arrival (R205, R219). -/
def aheadOf (s : State) (a b : Job) : Bool :=
  let pa := effPrio s a
  let pb := effPrio s b
  if pa ≠ pb then decide (pb < pa)
  else if a.code ≠ b.code then a.code == 3
  else if a.head ≠ b.head then decide (b.head < a.head)
  else decide (a.order < b.order)

/-- The head of a berth's queue. -/
def headOf (s : State) (b : Nat) : Option (Nat × Job) :=
  (queuedOf s b).foldl (fun best ref => match jobOf s ref, best with
    | none, _ => best
    | some j, none => some (ref, j)
    | some j, some k => if aheadOf s j k.2 then some (ref, j) else best) none

/-- Panels of a berth that run jobs. -/
def runningPanels (s : State) (b : Nat) : Nat :=
  ((List.range 60).filter (fun p => (panelOf s p).berth == b && (panelOf s p).job != 0)).length

/-- Queue heads in the order the scheduler takes them: priority, fewest running panels, berth number (R205). -/
def heads (s : State) : List (Nat × Job) :=
  let before (a b : Nat × Job) : Bool :=
    let pa := effPrio s a.2
    let pb := effPrio s b.2
    let ra := runningPanels s a.2.berth
    let rb := runningPanels s b.2.berth
    if pa ≠ pb then decide (pb < pa) else if ra ≠ rb then decide (ra < rb) else decide (a.2.berth < b.2.berth)
  ((List.range 64).filterMap (headOf s)).mergeSort before

/-! ## Pre-emption (R206, R207) -/

/-- The job that runs on a panel. -/
def jobOn (s : State) (p : Nat) : Option (Nat × Job) :=
  let q := panelOf s p
  if q.job = 0 then none else (jobOf s (q.job - 1)).map (fun j => (q.job - 1, j))

/-- A job may be pre-empted: it runs, and no panel it holds would then hold more saved jobs than it has slots (R207, R208). -/
def mayPreempt (s : State) (j : Job) : Bool :=
  j.code == 2 && j.step == 0 && j.ending.isNone && j.bound.all (fun p => decide ((savedOn s p).length < saveSlots s))

/-- What stands on a panel that a waiting job of priority `q` could get by priority pre-emption: nothing, a job that is leaving, or a
victim. `none`: it cannot get it. -/
def obstacle (s : State) (j : Job) (p : Nat) : Option (Option Nat) :=
  let k := panelOf s p
  if k.st = 4 || k.retireDue then none
  else if !(ownPanel s j p || lendable s p || k.lent) then none
  else if panelFree s p then some none
  else match jobOn s p with
    | none => none
    | some (ref, v) =>
      if v.step = 2 ∨ v.ending.isSome then some none
      else if effPrio s v < effPrio s j ∧ mayPreempt s v then some (some ref) else none

/-- The victims on a set of panels, if every one can be got and the lend limit allows it. -/
def victimsOn (s : State) (j : Job) (ps : List Nat) : Option (List Nat) :=
  let obs := ps.map (obstacle s j)
  if obs.any (·.isNone) then none
  else if rget Obj.JOB_LEND_LIMIT j.berth s < (ps.filter (fun p => !ownPanel s j p)).length
      + ((List.range 60).filter (fun p => (panelOf s p).berth == j.berth && (panelOf s p).lent && !ps.contains p)).length
      && !ps.all (ownPanel s j) then none
  else some ((obs.filterMap (fun o => o.bind id)).eraseDups)

/-- The highest effective priority among victims, plus one; 0 for none. -/
def worstVictim (s : State) (vs : List Nat) : Nat :=
  vs.foldl (fun m v => match jobOf s v with
    | some j => max m (effPrio s j + 1)
    | none => m) 0

/-- Panel sets a waiting job could be placed on: rectangles for an image job, its own panels for a saved one, and for a convert job the
panels in order of what stands on them. -/
def candidateSets (s : State) (j : Job) : List (List Nat) :=
  if j.code = 3 then [j.bound]
  else if j.kind = 0 then rectangles j.pw j.ph
  else
    let cost (p : Nat) : Nat := match obstacle s j p with
      | some (some v) => worstVictim s [v]
      | _ => 0
    let ok := withinLend s j (((List.range 60).filter (fun p => (obstacle s j p).isSome)).mergeSort (fun a b => decide (cost a ≤ cost b)))
    if j.panels ≤ ok.length then [ok.take j.panels] else []

/-- The victims of a priority pre-emption: the set whose highest victim priority is lowest, then with fewest victims, then the lowest
origin (R206). -/
def priorityVictims (s : State) (j : Job) : List Nat :=
  let best := (candidateSets s j).foldl (fun best ps => match victimsOn s j ps, best with
    | none, _ => best
    | some vs, none => some vs
    | some vs, some w =>
      if worstVictim s vs < worstVictim s w ∨ (worstVictim s vs = worstVictim s w ∧ vs.length < w.length) then some vs else best) none
  best.getD []

/-- Place queue heads until none fits; a head that cannot be placed pre-empts by priority (R205, R206). `skip`: berths whose head was
tried. -/
def placeHeads : Nat → List Nat → State → State
  | 0, _, s => s
  | n + 1, skip, s =>
    match (heads s).find? (fun h => !skip.contains h.2.berth) with
    | none => s
    | some (ref, j) => match placement s j with
      | some ps => placeHeads n skip (placeJob ref j ps s)
      | none => placeHeads n (j.berth :: skip) (each (priorityVictims s j) startSave s)

/-- Submissions whose descriptor or header the home slices have still to give. -/
def admitting (s : State) : List Nat := (s.jobs.slots.filter (fun p => p.2.busy && p.2.code == 0)).map (·.1)

/-- JOB_PLACE (R205): admissions that wait for the pool go on, then the scheduler places queue heads. -/
def execJobPlace (s : State) : Answer :=
  let s1 := each (admitting s) (fun k s => takeIn (k / 64) (k % 64) s) s
  .next (placeHeads (s1.jobs.jobs.length + 65) [] s1)

/-- TSX ticks of a number of milliseconds. -/
def msTicks (n : Nat) : Nat := n * 25000

/-- QUANTUM_EXPIRY (R206): a queue head that has waited longer than the quantum pre-empts the job of its berth and effective priority
that started longest ago and has run for the quantum. -/
def execQuantumExpiry (job : Nat) (s : State) : Answer :=
  match jobOf s job with
  | none => .next s
  | some j =>
    let q := msTicks (rget Obj.JOB_QUANTUM j.berth s)
    let cands := s.jobs.jobs.filterMap (fun p => match p.2 with
      | some v => if v.berth == j.berth && effPrio s v == effPrio s j && mayPreempt s v && decide (q ≤ ticksSince v.tLast (now s))
          then some (p.1, ticksSince v.tLast (now s)) else none
      | none => none)
    let victim := cands.foldl (fun best c => match best with
      | none => some c
      | some b => if b.2 < c.2 then some c else some b) none
    if (headOf s j.berth).map (·.1) ≠ some job ∨ ticksSince j.tLast (now s) ≤ q then .next s
    else match victim with
      | none => .next s
      | some v => .next (startSave v.1 s)

/-! ## Loading (R196, R197, R199) -/

/-- A task record: core position, first PC, its segments. -/
structure TaskRec where
  rx : Nat
  ry : Nat
  entry : Nat
  first : Nat
  n : Nat
  rsvd : Nat

/-- A segment record. -/
structure SegRec where
  offset : Nat
  lsaddr : Nat
  length : Nat
  zero : Bool
  rsvd : Nat

def taskRec (img : List Byte) (off : Nat) : TaskRec :=
  let w := leAt img off 4
  ⟨bits w 0 6, bits w 11 5, bits w 16 15, leAt img (off + 4) 4, leAt img (off + 8) 4, bits w 6 5 + bits w 31 1 + leAt img (off + 12) 4⟩

def segRec (img : List Byte) (off : Nat) : SegRec :=
  let w := leAt img (off + 12) 4
  ⟨leAt img off 4, leAt img (off + 4) 4, leAt img (off + 8) 4, bit w 0, w / 2⟩

/-- The task and segment records of an image. -/
def imageTasks (img : List Byte) : List TaskRec :=
  (List.range (bits (leAt img 0 8) 24 11)).map (fun k => taskRec img (leAt img 8 4 + 16 * k))
def imageSegs (img : List Byte) : List SegRec :=
  (List.range (leAt img 16 4)).map (fun k => segRec img (leAt img 12 4 + 16 * k))

/-- A GMC_IF the running grid microcode accepts: the same MAJOR, and a MINOR not above its own (R450). -/
def gmcAccepts (s : State) (v : Nat) : Bool :=
  let g := fwIf s 5
  bits v 24 8 == bits g 24 8 && decide (bits v 16 8 ≤ bits g 16 8)

/-- An image is valid (R197) for the footprint it was admitted with. -/
def imageValid (s : State) (j : Job) (img : List Byte) : Bool :=
  let w := leAt img 0 8
  let tasks := imageTasks img
  let segs := imageSegs img
  let size := leAt img 20 4
  decide (bits w 0 16 = 1) && bits w 16 4 == j.pw && bits w 20 4 == j.ph && decide (bits w 35 29 = 0)
    && decide (leAt img 28 32 = 0) && size == j.size && decide (64 ≤ size) && decide (size ≤ 67108864)
    && decide (1 ≤ bits w 24 11) && decide (bits w 24 11 ≤ 1200)
    && decide (leAt img 8 4 + 16 * bits w 24 11 ≤ size) && decide (leAt img 12 4 + 16 * leAt img 16 4 ≤ size)
    && gmcAccepts s (leAt img 24 4)
    && crc32c (img.take 60 ++ List.replicate 4 0 ++ (img.take size).drop 64) == leAt img 60 4
    && tasks.all (fun t => decide (t.rx < 4 * j.pw) && decide (t.ry < 5 * j.ph) && decide (t.first + t.n ≤ segs.length)
        && decide (t.rsvd = 0))
    && decide ((tasks.map (fun t => (t.rx, t.ry))).eraseDups.length = tasks.length)
    && segs.all (fun g => (g.zero || decide (g.offset + g.length ≤ size)) && decide (g.lsaddr + g.length ≤ lsBytes)
        && decide (g.lsaddr % 4 = 0) && decide (g.length % 4 = 0) && decide (g.rsvd = 0))

/-- The core of a footprint position (R198). -/
def footprintCore (origin rx ry : Nat) : Nat := (5 * (origin / 10) + ry) * 40 + 4 * (origin % 10) + rx

/-- Start a task on its core (R199). The core and its local store are zero already. -/
def startTask (img : List Byte) (segs : List SegRec) (j : Job) (t : TaskRec) (s : State) : State :=
  let c := footprintCore (j.bound.headD 0) t.rx t.ry
  let s1 := each ((segs.drop t.first).take t.n) (fun g s =>
    lsStore c g.lsaddr (if g.zero then List.replicate g.length 0 else (img.drop g.offset).take g.length) s) s
  modCore c (fun k => setG 2 (BitVec.ofNat 32 j.arg) (setG 3 (BitVec.ofNat 32 (j.arg / 2 ^ 32)) { k with pc := t.entry, task := 1 })) s1

/-- A panel of the job is to leave service. -/
def losesPanel (s : State) (j : Job) : Bool := j.bound.any (fun p => (panelOf s p).retireDue || (panelOf s p).st == 4)

/-- IMAGE_LOADED (R199, R204): the image is checked whole; its tasks start, or the job ends with FAULT_CHECK 0x81. A panel of the job
that is to leave service takes the job off its panels again (R219). -/
def execImageLoaded (job : Nat) (s : State) : Answer :=
  match jobOf s job with
  | none => .next s
  | some j =>
    if j.step ≠ 1 then .next s
    else
      let lines := linesOf j.image j.size
      let s1 := askLines (unitImage job) j.berth lines s
      match gotLines s1 (unitImage job) lines with
      | none => .next s1
      | some (img, poison) =>
        let s2 := dropServed (unitImage job) s1
        if losesPanel s2 j then .next (loseJob job 0x84 s2)
        else if poison || !imageValid s2 j img then .next (endJob job 0x31 0x81 s2)
        else .next (showJob job 2 0 (setJob job (some { j with
          code := 2, step := 0, tLast := now s2, tStart := if j.started then j.tStart else now s2, started := true, ran := 0 })
          (each (imageTasks img) (startTask img (imageSegs img) j) s2)))

/-! ## Save and restore (R213 to R219) -/

/-- The entries of a table at several ranges. -/
def tpick {α : Type} (t : Tab α) (cs : List Nat) (n : Nat) : Tab α :=
  t.filter (fun p => cs.contains (p.1 / n))

/-- The saved image of a panel (Table 09.8). -/
def savePanel (s : State) (p : Nat) : SavedPanel :=
  let q := panelOf s p
  let cs := coresOfPanel p
  ⟨p, q.watches, q.bars, q.outbound, tpick s.grid.cores cs 1, tpick s.mem.ls cs 131072, tpick s.mem.lsPoison cs 2048, now s⟩

/-- A panel gets back what was saved of it. -/
def restorePanel (v : SavedPanel) (s : State) : State :=
  let s1 := zeroPanel v.panel s
  let s2 := modPanel v.panel (fun q => { q with watches := v.watches, bars := v.bars, outbound := v.outbound }) s1
  { s2 with
    grid := { s2.grid with cores := v.cores.foldl (fun t c => tput {} t c.1 c.2) s2.grid.cores }
    mem := { s2.mem with ls := v.ls.foldl (fun t c => tput 0 t c.1 c.2) s2.mem.ls
                         lsPoison := v.lsPoison.foldl (fun t c => tput false t c.1 c.2) s2.mem.lsPoison } }

/-- A saved panel is let go; what stood in its queues is in the save area. -/
def releaseSaved (p : Nat) (s : State) : State :=
  freePanel p (each (coresOfPanel p) (fun c s => modCore c (fun k => { k with queues := [] }) s) s)

/-- GRID_SAVE_ALL has its result once no save runs any more (R218). -/
def endSaveAll (s : State) : State :=
  if s.jobs.jobs.any (fun p => match p.2 with
      | some j => j.step == 2
      | none => false) then s
  else each s.jobs.saveAll (fun path s => setWord Obj.GRID_SAVE_ALL path 0 s) { s with jobs := { s.jobs with saveAll := [] } }

/-- SAVE_COMPLETE (R213, R216, R219): with every transfer ended, the job's panels are saved and freed and it shows PREEMPTED. With no
save slots nothing is saved, and a job whose panels cannot be used again, or were withdrawn, loses its state. -/
def execSaveComplete (job : Nat) (s : State) : Answer :=
  match jobOf s job with
  | none => .next s
  | some j =>
    if j.step ≠ 2 ∨ !jobQuiet s j then .next s
    else if j.ending.isSome then .next (endSaveAll (tryEnd job s))
    else if saveSlots s = 0 then .next (endSaveAll (loseJob job (j.lost.getD 0x84) s))
    else
      let took := ticksSince j.tLast (now s)
      let s1 := rinc Obj.JOBS_PREEMPTIONS j.berth (rmax Obj.JOB_SAVE_MAX 0 took s)
      let lost := if losesPanel s j ∧ j.lost = none then some 0x84 else j.lost
      let j1 := { j with code := 3, step := 0, tLast := now s, preempts := j.preempts + 1, saved := j.bound.map (savePanel s) }
      let s2 := setJob job (some j1) (each j.bound releaseSaved s1)
      .next (endSaveAll (match lost with
        | some r => loseJob job r s2
        | none => showJob job 3 0 s2))

/-- RESTORE_COMPLETE (R214, R216): the panels hold what was saved and their cores go on, or the save area fails its checksum. -/
def execRestoreComplete (job : Nat) (scrcOk : Bool) (s : State) : Answer :=
  match jobOf s job with
  | none => .next s
  | some j =>
    if j.step ≠ 3 then .next s
    else if losesPanel s j then .next (loseJob job 0x84 s)
    else if !scrcOk then .next (endJob job 0x31 0x86 s)
    else .next (showJob job 2 0 (setJob job (some { j with code := 2, step := 0, saved := [], tLast := now s })
      (each j.saved restorePanel s)))

/-- The saved jobs of a panel beyond the slots there now, those saved last, lose their state (R208). -/
def trimSaves (s : State) : State :=
  let excess (p : Nat) : List Nat :=
    let l := (savedOn s p).filterMap (fun ref => (jobOf s ref).map (fun j => (ref, j.tLast)))
    ((l.mergeSort (fun a b => decide (a.2 ≤ b.2))).drop (saveSlots s)).map (·.1)
  each ((List.range 60).flatMap excess).eraseDups (loseJob · 0x84) s

/-- TLIMIT_CHECK (R212): a job that has spent its limit RUNNING is stopped with FAULT_CHECK 0x83. -/
def execTlimitCheck (job : Nat) (s : State) : Answer :=
  match jobOf s job with
  | none => .next s
  | some j =>
    if j.code = 2 ∧ j.step = 0 ∧ msTicks j.tlimit ≤ j.ran + ticksSince j.tLast (now s) then .next (stopJob job 0x31 0x83 s)
    else .next s

/-- GRID_SAVE_ALL (R207, R208, R218): every running job is pre-empted, or the command is refused while a panel has every slot full. -/
def execGridSaveAll (w : Who) (s : State) : Answer :=
  command Obj.GRID_SAVE_ALL w (fun s =>
    if (List.range 60).any (fun p => decide (saveSlots s ≤ (savedOn s p).length)) then setWord Obj.GRID_SAVE_ALL w.path 1 s
    else endSaveAll (each (tkeys s.jobs.jobs) startSave { s with jobs := { s.jobs with saveAll := s.jobs.saveAll ++ [w.path] } })) s

end Sys2Proof.Machine
end

