-- ==== Sys2Proof/Machine/Held.lean ====
section
/-! DEFINITION. Held requests and shapers (R376 to R382): releases, bounds, tests of the red queue, records and rebalancing. -/

namespace Sys2Proof.Machine

/-! ## Releases (R379 to R382) -/

/-- A held request is let through. A window operation or a hint of a dead agent ends FENCED (R92). -/
def letIn (h : Held) (s : State) : State :=
  match h.what with
  | .mem _ => enterMem h s
  | .atw ld slot =>
    if agentDead s (ldOf s ld).agent then postAtw ld slot 0x14 0 0 (unhold h s)
    else enterAtw ld slot (atwOf s ld slot).txn (unhold h s)
  | .hint ld slot =>
    if agentDead s (ldOf s ld).agent then endHint (hintKey ld slot) 0x14 (unhold h s)
    else startHint (hintKey ld slot) (unhold h s)
  | .job ld slot => releaseJob ld slot (unhold h s)

/-- The oldest held request of a kind and colour on a link. -/
def oldestHeld (s : State) (kind link colour : Nat) : Option Held :=
  s.meters.held.find? (fun h => h.kind == kind && h.link == link && h.colour == colour)

/-- A hold ended by its bound is counted on the berth meter that the request passes, and for MEM on its port. -/
def countBound (h : Held) (s : State) : State :=
  each h.meters (fun m s =>
    if m < 256 then rinc Obj.BMETER_BOUND_RELEASES m s else rinc Obj.PMETER_BOUND_RELEASES (m - 256) s) s

/-- YELLOW_HOLD_RELEASE: a MEM request leaves the low-priority queue while no green one waits for weave credit; another kind once
every meter that coloured it yellow holds its cost in Tc, which it then takes (Table 16.3). -/
def execYellowHoldRelease (kind link : Nat) (s : State) : Answer :=
  match oldestHeld s kind link 1 with
  | none => .next s
  | some h =>
    if kind = 0 then .next (letIn h s)
    else
      let port := link / 2
      let s1 := each h.yellowOn (fun m s => setInst m port (refilled (instOf s m port) (now s)) s) s
      if h.yellowOn.all (fun m => decide (h.cost * 65536 ≤ (instOf s1 m port).tc)) then
        .next (letIn h (each h.yellowOn (fun m s =>
          let i := instOf s m port
          setInst m port { i with tc := i.tc - h.cost * 65536 } s) s1))
      else .next s

/-- A yellow hold has reached its bound. -/
def execHoldYellowExpiry (kind link : Nat) (s : State) : Answer :=
  match oldestHeld s kind link 1 with
  | none => .next s
  | some h => .next (letIn h (countBound h s))

/-- A red MEM request has waited HOLD_RED_MEM: it enters the fabric and takes no tokens. -/
def execHoldRedMemExpiry (link : Nat) (s : State) : Answer :=
  match oldestHeld s 0 link 2 with
  | none => .next s
  | some h => .next (letIn h (countBound h s))

/-- The oldest red request of a link is metered again (R380): green it enters, yellow it joins the low-priority queue with its
acceptance time, red it stays. -/
def execRedQueueRetest (link : Nat) (s : State) : Answer :=
  match oldestHeld s 0 link 2 with
  | none => .next s
  | some h =>
    let c := colourReq h.meters link h.cost (some h) s
    if c.colour = 0 then .next (letIn h c.st)
    else
      let h' : Held := { h with colour := c.colour, yellowOn := c.yellowOn, redOn := c.redOn }
      .next { c.st with meters := { c.st.meters with held := modFirst (fun x => x == h) (fun _ => h') c.st.meters.held } }

/-- A link goes down or its agent dies: every request that `p` picks is released at once, in arrival order, with no tokens (R382). -/
def releaseHeld (p : Held → Bool) (s : State) : State := each (s.meters.held.filter p) letIn s

/-- The logical device a held request came from. -/
def heldLd (h : Held) : Nat :=
  match h.what with
  | .mem r => (match r.src with
    | .host ld _ => ld
    | _ => 0)
  | .atw ld _ | .hint ld _ | .job ld _ => ld

/-- A host agent is declared dead, and its held requests are released at once (R65, R382). -/
def declareDead (agent cause : Nat) (s : State) : State :=
  if (agentOf s agent).st ≠ 1 then s
  else releaseHeld (fun h => (ldOf s (heldLd h)).agent == agent) (killAgent agent cause s)

/-- A BISnp was not answered within BISNP_TIMEOUT: its agent is dead (R61, R65). -/
def execBisnpTimeout (agent line : Nat) (s : State) : Answer :=
  if owesAnswer (entryOf s line) agent then .next (declareDead agent 2 s) else .next s

/-! ## Shapers (R376, R377) -/

/-- A record is valid (R376): with MODE 1, 0 < CIR ≤ PIR and 0 < CBS ≤ PBS, and CBS at least 64 for MEM and port meters. -/
def shaperValid (m : Nat) (a : ShaperArg) : Bool :=
  a.rsvd == 0 && (!a.mode || (decide (0 < a.cir) && decide (a.cir ≤ a.pir) && decide (0 < a.cbs) && decide (a.cbs ≤ a.pbs)
    && (decide (64 ≤ a.cbs) || (decide (m < 256) && m % 4 != 0))))

/-- Apply a record at every landing that has an instance of the meter: tokens full, or zero with RESET; MODE 0 releases what the meter
holds. -/
def applyShaper (m : Nat) (a : ShaperArg) (s : State) : State :=
  let s1 := { s with meters := { s.meters with shapers := tput {} s.meters.shapers m ⟨a.mode, a.reset, a.cir, a.pir, a.cbs, a.pbs⟩ } }
  let s2 := shareOut m (some (!a.reset)) s1
  if a.mode then s2 else releaseHeld (fun h => h.yellowOn.contains m || h.redOn.contains m) s2

/-- BMETER_SHAPER_SET on the meter that the path's BMETER_BERTH and BMETER_KIND name; only an ACTIVE berth takes a record (R412). -/
def execBmeterShaperSet (w : Who) (rec : ShaperArg) (s : State) : Answer :=
  command Obj.BMETER_SHAPER_SET w (fun s =>
    let b := rget Obj.BMETER_BERTH w.path s
    let m := berthMeter b (rget Obj.BMETER_KIND w.path s)
    if !shaperValid m rec then setWord Obj.BMETER_SHAPER_SET w.path 1 s
    else if (berthOf s b).st ≠ 1 then setWord Obj.BMETER_SHAPER_SET w.path 2 s
    else if !w.secure && s.regions.any (fun p => p.2.st != 0 && p.2.owner == b && p.2.world) then
      setWord Obj.BMETER_SHAPER_SET w.path 3 s
    else postResult Obj.BMETER_SHAPER_SET w.path 0 none (applyShaper m rec s)) s

/-- PMETER_SHAPER_SET on the port that the path's PMETER_PORT names. -/
def execPmeterShaperSet (w : Who) (rec : ShaperArg) (s : State) : Answer :=
  command Obj.PMETER_SHAPER_SET w (fun s =>
    let m := portMeter (rget Obj.PMETER_PORT w.path s)
    if !shaperValid m rec then setWord Obj.PMETER_SHAPER_SET w.path 1 s
    else postResult Obj.PMETER_SHAPER_SET w.path 0 none (applyShaper m rec s)) s

/-! ## Rebalancing (R378) -/

/-- The ports whose share of the tokens taken lies below 1/(4k), as the shares of the others are scaled to what those leave. -/
def flooredPorts (took : List (Nat × Nat)) : Nat → List Nat → List Nat
  | 0, f => f
  | n + 1, f =>
    let k := took.length
    let others := took.filter (fun p => !f.contains p.1)
    let total := (others.map (·.2)).sum
    let low := others.filter (fun p => decide (p.2 * (4 * k - f.length) < total))
    if low.isEmpty then f else flooredPorts took n (f ++ low.map (·.1))

/-- Shares of a whole for each port: 1/(4k) for a floored one, else in proportion; what rounding leaves goes to the first. -/
def propShares (took : List (Nat × Nat)) (whole : Nat) : List Nat :=
  let f := flooredPorts took 8 []
  let k := took.length
  let total := ((took.filter (fun p => !f.contains p.1)).map (·.2)).sum
  let least := (whole + 4 * k - 1) / (4 * k)
  let raw := took.map (fun p => if f.contains p.1 then least else (whole - f.length * least) * p.2 / total)
  match raw with
  | [] => []
  | x :: r => (x + (whole - raw.sum)) :: r

/-- Rebalance one meter: shares in proportion to the Tp tokens each instance took in the last interval; tokens kept, within the new
bucket sizes. With none taken the shares stay. -/
def rebalance (m : Nat) (s : State) : State :=
  let ports := meterPorts s m
  let sh := shaperOf s m
  let took := ports.map (fun p => (p, (instOf s m p).took))
  if !sh.mode ∨ ports.length < 2 ∨ (took.map (·.2)).sum = 0 then
    each ports (fun p s => if (instOf s m p).took = 0 then s else setInst m p { instOf s m p with took := 0 } s) s
  else
    let share (whole : Nat) (i : Nat) : Nat := (propShares took whole).getD i 0
    each ports.zipIdx (fun pi s =>
      let i := refilled (instOf s m pi.1) (now s)
      let cbs := share sh.cbs pi.2
      let pbs := share sh.pbs pi.2
      setInst m pi.1 ⟨share sh.cir pi.2, share sh.pir pi.2, cbs, pbs, min i.tc (cbs * 65536), min i.tp (pbs * 65536), now s, 0⟩ s) s

/-- METER_REBALANCE: every berth meter of more than one instance. -/
def execMeterRebalance (s : State) : Answer := .next (each ((tkeys s.meters.shapers).filter (· < 256)) rebalance s)

end Sys2Proof.Machine
end

