-- ==== Sys2Proof/Machine/Planes.lean ====
section
/-! DEFINITION. The manifest planes (R342 to R354), the continuous self-test and the health report (R355 to R358). -/

namespace Sys2Proof.Machine

/-! ## Plane states (R344) -/

/-- State of plane `p`: 0 A, 1 B. -/
def planeState (s : State) (p : Nat) : Nat := if p = 0 then s.red.stA else s.red.stB

/-- Set the state of a plane. -/
def setPlane (p st : Nat) (s : State) : State :=
  { s with red := if p = 0 then { s.red with stA := st } else { s.red with stB := st } }

/-- Set the claim of a plane. -/
def setClaim (p c : Nat) (s : State) : State :=
  { s with red := if p = 0 then { s.red with claimA := c } else { s.red with claimB := c } }

/-- MF_MODE: 0 TANDEM, 1 FENCED with A, 2 FENCED with B, 3 REJOINING. -/
def mfMode (s : State) : Nat :=
  if s.red.stA = 3 ∨ s.red.stB = 3 then 3
  else if tandemMode s then 0
  else if s.red.stA = 2 then 2 else 1

/-- A plane or pair role change event (TYPE 0x66). -/
def roleEvent (s : State) : State := raiseEvent 80 false 0x66 (.roles (mfMode s) s.pair.role s.pair.claim) s

/-- Every open merge entry closes on its first answer and held follower commands are dropped (R353). -/
def closeMerges (s : State) : State := { s with red := { s.red with merges := [], held := [], done := [] } }

/-- A plane is retired (R351 to R353), for the cause `source` of its event. The last serving plane is not: the same error resets the
device. A retired leader's held commands wait for the follower's TAKEOVER. -/
def retirePlane (source p : Nat) (s : State) : State :=
  let me := planeState s p
  let other := planeState s (1 - p)
  if me = 2 then s
  else if me = 3 then
    roleEvent (retireEvent source p 1 (retireEvent source p 0 (setPlane p 2 { s with red := { s.red with copied := [] } })))
  else if other = 0 ∨ other = 1 then
    let s1 := retireEvent source p 0 (setPlane p 2 s)
    if me = 0 then { s1 with red := { s1.red with merges := [] } }
    else roleEvent (retireEvent source p 1 (closeMerges s1))
  else containReset 2 source (if source = 0xAC then 0 else p) none 0 s

/-- A control-structure error of one plane (Table 17.4): the plane is retired, or the device resets. -/
def planeError (p : Nat) (s : State) : State := retirePlane 0xAC p s

/-! ## Divergence (R347 to R349) -/

/-- A divergence is raised; its line is resolved at the resolve marker. -/
def raiseDivergence (kind charged tag step line : Nat) (s : State) : State :=
  rinc Obj.DIVERGENCES 0 { s with
    hlt := { s.hlt with divLast := now s }
    red := { s.red with resolving := s.red.resolving ++ [(line, kind, charged, tag, step)] } }

/-- Charge planes (bit 0 A, bit 1 B): each charge feeds its bucket, and a trip retires the plane, the follower when both trip. -/
def chargePlanes (mask : Nat) (s : State) : State :=
  let one (p : Nat) (s : State) : State := if bit mask p then bucketEvent 0x50 p 0 none 0 s else s
  let s1 := one 1 (one 0 s)
  let trips (p : Nat) : Bool := (bucketOf s1 0x50 p).held && !(bucketOf s 0x50 p).held
  if trips 0 && trips 1 then retirePlane 0x50 (if leaderIsA s1 then 1 else 0) s1
  else if trips 0 then retirePlane 0x50 0 s1
  else if trips 1 then retirePlane 0x50 1 s1
  else s1

/-- Planes charged for a divergence: a CHECK names its plane; another kind those whose entries fail the recheck, or both. -/
def chargedFor (kind charged failed : Nat) : Nat := if kind = 5 then charged else if failed = 0 then 3 else failed

/-- The agents an entry names. -/
def agentsOf (e : MfEntry) : BitVec 64 :=
  match e.st with
  | .free => 0
  | .o | .ro => withAgent 0 e.owner
  | .s | .rs => e.sharers

/-- A resolve marker reaches its place in the slice's order (R348): agents named by either plane are recalled, or the line is freed at
once when there are none. `failed` is what the recheck of the set's entries found: bit 0 plane A, bit 1 plane B. -/
def execResolveMarker (line failed : Nat) (s : State) : Answer :=
  match s.red.resolving.find? (fun d => d.1 == line) with
  | none => .next s
  | some (_, kind, charged0, tag, step) =>
    if lineBusy s line then .next s
    else
      let charged := chargedFor kind charged0 failed
      let union := agentsOf (tget {} s.mf.planeA.entries line) ||| agentsOf (tget {} s.mf.planeB.entries line)
      let before := s.red.stA + 4 * s.red.stB
      let s1 := chargePlanes charged { s with red := { s.red with resolving := dropFirst (fun d => d.1 == line) s.red.resolving } }
      let retired := b2n (s1.red.stA + 4 * s1.red.stB != before)
      if s1.boot.held ≠ 0 ∨ rget Obj.BOOT_STEP 0 s1 ≠ rget Obj.BOOT_STEP 0 s then .next s1
      else
        let live := (agentsIn union).filter (fun a => !agentDead s1 a)
        let lost := (agentsIn union).filter (agentDead s1)
        let s2 := each lost (fun a s => logDead line a s) s1
        if live.isEmpty then
          .next (wake (endResolve line kind charged retired tag step [] (if lost.isEmpty then s2 else poisonLine line s2)))
        else
          let e : MfEntry := { entryOf s2 line with st := .s, owner := 0, sharers := live.foldl withAgent 0 }
          .next (startRecall line live .inv (.resolve kind charged retired tag step []) false false (setEntry line e s2))

/-! ## Answers and commands of the planes (R345, R346) -/

/-- Merge entries of a 27-bit tag (R305). -/
def mergeOf (tag : Nat) (m : MergeEntry) : Bool := m.link / 2 == tag / 16777216 && m.seq == tag % 16777216

/-- Completion codes of an answer: 0 Cmp, 1 Cmp-S, 2 Cmp-E. -/
def cmpCode : Cmp → Nat
  | .cmp => 0
  | .cmpS => 1
  | .cmpE => 2

/-- The second plane's answer for a tag: compared with the one passed on, and discarded; the merge entry closes (R346). `same` says
whether MetaValue and the recall set agree. -/
def execPlaneAnswer (tag cmp : Nat) (same : Bool) (s : State) : Answer :=
  match s.red.merges.find? (mergeOf tag) with
  | none => .next s
  | some m =>
    let s1 := { s with red := { s.red with merges := dropFirst (mergeOf tag) s.red.merges } }
    .next (if cmp = cmpCode m.cmp ∧ same = true then s1 else raiseDivergence 1 0 tag 0 m.line s1)

/-- Two commands have the same output stage and CID. -/
def sameCid (a b : PlaneCmd) : Bool := a.stage == b.stage && a.tag == b.tag && a.step == b.step

/-- A command is compared with the one of the same CID that the stage has. -/
def compareCmd (a b : PlaneCmd) (s : State) : State :=
  if a.line = b.line ∧ a.what = b.what then s else raiseDivergence 2 0 a.tag a.step b.line s

/-- A plane command reaches an output stage (R345, R352): one with the current claim, or the old one in the dual-issue window, is the
command executed; the follower's is held and compared; an old claim is refused and counted. -/
def execPlaneCommand (plane stage tag step line what claim : Nat) (s : State) : Answer :=
  let c : PlaneCmd := ⟨stage, tag, step, line, what⟩
  let open_ := claim == s.red.claimNow || s.red.claimOld == some claim
  match s.red.done.find? (sameCid c), s.red.held.find? (sameCid c) with
  | some d, _ =>
    if open_ || planeState s plane == 1 then
      .next (compareCmd c d { s with red := { s.red with done := dropFirst (sameCid c) s.red.done } })
    else .next (rinc Obj.PLANE_STALE_REFUSED 0 s)
  | none, some h =>
    if open_ then .next (compareCmd c h { s with red := { s.red with held := dropFirst (sameCid c) s.red.held } })
    else if planeState s plane = 1 then .next s
    else .next (rinc Obj.PLANE_STALE_REFUSED 0 s)
  | none, none =>
    if open_ then
      if tandemMode s || s.red.claimOld.isSome then .next { s with red := { s.red with done := s.red.done ++ [c] } } else .next s
    else if planeState s plane = 1 then .next { s with red := { s.red with held := s.red.held ++ [c] } }
    else .next (rinc Obj.PLANE_STALE_REFUSED 0 s)

/-- The merge window of a tag has ended (R345, R346): what has not come is LATE, a second answer, the leader's command for a held one, and
in tandem the follower's for an executed one (Table 15.2). -/
def execMergeWindowExpiry (tag : Nat) (s : State) : Answer :=
  let late := (s.red.merges.filter (mergeOf tag)).map (fun m => (m.line, 0))
    ++ (s.red.held.filter (fun c => c.tag == tag)).map (fun c => (c.line, c.step))
    ++ (if tandemMode s then (s.red.done.filter (fun c => c.tag == tag)).map (fun c => (c.line, c.step)) else [])
  .next (each late (fun l s => raiseDivergence 3 0 tag l.2 l.1 s) { s with red := { s.red with
    merges := s.red.merges.filter (fun m => !mergeOf tag m)
    held := s.red.held.filter (fun c => c.tag != tag)
    done := s.red.done.filter (fun c => c.tag != tag) } })

/-! ## Heartbeats and takeover (R350 to R353) -/

/-- Bit of the silent paths of a plane: path 0 weave, 1 sideband. -/
def pathBit (plane path : Nat) : Nat := plane * 2 + path

/-- A plane's heartbeat arrives on a path: the path is no longer silent. -/
def execPlaneHeartbeat (plane path : Nat) (s : State) : Answer :=
  if bit s.red.silent (pathBit plane path) then
    .next { s with red := { s.red with silent := s.red.silent - 2 ^ pathBit plane path } }
  else .next s

/-- A path from a plane has been silent for 100 ticks: both silent, the plane has failed; one alone is a path fault. -/
def execPlaneSilence (plane path : Nat) (s : State) : Answer :=
  if 1 < plane ∨ 1 < path ∨ planeState s plane = 2 ∨ bit s.red.silent (pathBit plane path) then .next s
  else
    let s1 := { s with red := { s.red with silent := s.red.silent + 2 ^ pathBit plane path } }
    if bit s1.red.silent (pathBit plane (1 - path)) then
      let (v, s2) := fresh s1
      .next (retirePlane (v % 256) plane s2)
    else .next s1

/-- A TAKEOVER cell reaches the output stages (R352): only a higher claim of a plane is accepted. The follower of a retired leader
becomes the leader, and its held commands are executed; the dual-issue window opens. -/
def execTakeover (plane claim : Nat) (s : State) : Answer :=
  if claim ≤ s.red.claimNow ∨ 1 < plane ∨ planeState s plane = 2 ∨ planeState s plane = 3 then .next s
  else
    let s1 := { s with red := { s.red with
      claimOld := some s.red.claimNow, claimNow := claim, done := s.red.done ++ s.red.held, held := [] } }
    if planeState s plane = 1 ∧ planeState s (1 - plane) = 2 then
      let (v, s2) := fresh s1
      .next (roleEvent (retireEvent (v % 256) (1 - plane) 1 (rinc Obj.PLANE_TAKEOVERS 0 (setClaim plane claim
        (setPlane plane 0 { s2 with red := { s2.red with claimHeld := 0 } })))))
    else .next s1

/-- The dual-issue window ends (R352). -/
def execDualIssueWindowEnd (s : State) : Answer :=
  .next { s with red := { s.red with claimOld := none, done := if tandemMode s then s.red.done else [] } }

/-- A plane's letter: 0x41 A, 0x42 B. -/
def planeLetter (arg : Nat) : Bool := arg == 0x41 || arg == 0x42

/-- PLANE_RETIRE (R351). -/
def execPlaneRetire (w : Who) (arg : Nat) (s : State) : Answer :=
  commandIf (planeLetter arg) Obj.PLANE_RETIRE w (fun s =>
    let p := arg - 0x41
    let other := planeState s (1 - p)
    if planeState s p = 2 ∨ planeState s p = 3 ∨ other = 0 ∨ other = 1 then
      setWord Obj.PLANE_RETIRE w.path 0 (retirePlane 0xB2 p s)
    else setWord Obj.PLANE_RETIRE w.path 1 s) s

/-- PLANE_REJOIN (R354): three plane claims are issued, and the plane applies requests to each set once it is copied. -/
def execPlaneRejoin (w : Who) (arg : Nat) (s : State) : Answer :=
  commandIf (planeLetter arg) Obj.PLANE_REJOIN w (fun s =>
    let p := arg - 0x41
    if !(inService s).any (fun c => c % 2 == p) then setWord Obj.PLANE_REJOIN w.path 1 s
    else if planeState s p ≠ 2 then setWord Obj.PLANE_REJOIN w.path 2 s
    else
      let n := s.red.planeCtr
      let s1 := setPlane p 3 (setClaim p (n + 1) (setClaim (1 - p) (n + 2)
        { s with red := { s.red with planeCtr := n + 3, claimHeld := n + 3, copied := [] } }))
      let s2 := { s1 with mf := if p = 0 then { s1.mf with planeA := {} } else { s1.mf with planeB := {} } }
      setWord Obj.PLANE_REJOIN w.path 0 (roleEvent s2)) s

/-- The plane that is rejoining. -/
def rejoining (s : State) : Option Nat := if s.red.stA = 3 then some 0 else if s.red.stB = 3 then some 1 else none

/-- The number of manifest sets of a plane (R51, R52). -/
def setCount (s : State) : Nat := 2097152 * s.mf.setK

/-- A copy marker passes a set (R354 step 3): the leader's entries and history records of the set are installed. After the last set
the plane is FOLLOWER. -/
def execCopyMarker (set : Nat) (s : State) : Answer :=
  match rejoining s with
  | none => .next s
  | some p =>
    if s.red.copied.contains set ∨ setCount s ≤ set then .next s
    else
      let lead := leadPlane s
      let old := if p = 0 then s.mf.planeA else s.mf.planeB
      let inSet (l : Nat) : Bool := setOf s l == set
      let new : Plane := {
        entries := (lead.entries.filter (fun e => inSet e.1)).foldl (fun t e => tput {} t e.1 e.2) (old.entries.filter (fun e => !inSet e.1))
        aht := (lead.aht.filter (fun e => inSet e.1)).foldl (fun t e => tput {} t e.1 e.2) (old.aht.filter (fun e => !inSet e.1)) }
      let s1 := { s with
        mf := if p = 0 then { s.mf with planeA := new } else { s.mf with planeB := new }
        red := { s.red with copied := set :: s.red.copied } }
      if s1.red.copied.length = setCount s then
        .next (roleEvent (setBucket 0x50 p {} (setPlane p 1 { s1 with red := { s1.red with copied := [] } })))
      else .next s1

/-! ## Self-test (R355 to R357) -/

/-- A scrub marker passes a set (R355). `failA` and `failB` are lines whose entry fails CHK in plane A or B alone, `differ` lines whose
entries differ though both pass. -/
def execMfScrubMarker (set : Nat) (failA failB differ : List Nat) (s : State) : Answer :=
  let inSet (l : Nat) : Bool := setOf s l == set
  let s1 := each (failB.filter inSet) (fun l s => raiseDivergence 5 2 0 0 l s)
    (each (failA.filter inSet) (fun l s => raiseDivergence 5 1 0 0 l s) s)
  let d := if tandemMode s then differ.filter inSet else []
  let s2 := if d.isEmpty then s1 else
    each d (fun l s => raiseDivergence 4 0 0 0 l s)
      { s1 with hlt := { s1.hlt with scrubMisses := (s1.hlt.scrubMisses + 1) % 4294967296, stickyHealth := s1.hlt.stickyHealth ||| 16 } }
  let n := s2.hlt.scrubbed + 1
  if n = setCount s then
    .next { s2 with hlt := { s2.hlt with scrubbed := 0, scrubEnd := now s, scrubPasses := (s2.hlt.scrubPasses + 1) % 4294967296 } }
  else .next { s2 with hlt := { s2.hlt with scrubbed := n } }

/-- The panel test of an idle panel that belongs to no berth (R356): the next of its 32 local store windows is marched, and a failure
feeds its bucket. In limp mode every panel holds idle (R167). -/
def execPanelTest (panel : Nat) (ok : Bool) (s : State) : Answer :=
  let q := panelOf s panel
  if 60 ≤ panel ∨ q.st ≠ 0 ∨ q.berth ≠ 0xFF ∨ q.job ≠ 0 ∨ rget Obj.FW_STATE 0 s = 2 then .next s
  else
    let s1 := modPanel panel (fun q => { q with stale := true }) { s with hlt := { s.hlt with
      panelTests := (s.hlt.panelTests + 1) % 4294967296
      testWindow := tmod 0 s.hlt.testWindow panel (fun w => (w + 1) % 32) } }
    if ok then .next s1
    else .next (bucketEvent 0x44 panel 1 none 0 { s1 with hlt := { s1.hlt with
      panelFails := (s1.hlt.panelFails + 1) % 4294967296, stickyHealth := s1.hlt.stickyHealth ||| 32 } })

/-! ## Health report (R358) -/

/-- Health summary (Table 15.6). -/
def healthSummary (s : State) : Nat :=
  let on (n : Nat) (b : Bool) : Nat := if b then 2 ^ n else 0
  let r := s.pair.role
  on 0 (s.red.stA ≤ 1) + on 1 (s.red.stB ≤ 1)
  + on 2 (bit s.red.silent 0 || bit s.red.silent 2) + on 3 (bit s.red.silent 1 || bit s.red.silent 3)
  + bits s.hlt.stickyHealth 4 3 * 16
  + on 7 (pathSilent s s.pair.heardMgmt) + on 8 (pathSilent s s.pair.heardSeam)
  + on 9 (r == 1 || r == 2 || r == 4 || r == 5)
  + on 10 (rget Obj.FW_STATE 0 s == 2)
  + on 11 (pairConfigured s && s.pair.partnerSeen && !fwMatches s)
  + on 12 ((List.range 24).any (fun c => (chanOf s c).st == 5 || (chanOf s c).st == 6))
  + on 13 ((List.range 32).any (fun c => (flashOf s c).st == 5 || (flashOf s c).st == 6))
  + on 14 (s.dram.degraded != 0)

/-- The health report now (Table 15.5). -/
def healthReport (s : State) : List Byte :=
  let h := s.hlt
  let body := natLE 4 (healthSummary s) ++ natLE 6 (now s) ++ natLE 6 h.scrubEnd ++ natLE 4 h.scrubPasses ++ natLE 4 h.scrubMisses
    ++ natLE 4 h.panelTests ++ natLE 4 h.panelFails ++ natLE 4 h.echoes ++ natLE 4 h.echoFails
    ++ natLE 4 (rget Obj.DIVERGENCES 0 s) ++ natLE 4 h.verifies ++ natLE 4 (rget Obj.PAIR_VERIFY_FAILS 0 s)
    ++ natLE 6 h.divLast ++ natLE 2 0
  body ++ natLE 4 (crc32c body)

/-- The report is refreshed every 1 ms; a change of its summary is an event (Table 17.7). -/
def execHealthRefresh (s : State) : Answer :=
  let s1 := { s with hlt := { s.hlt with health := healthReport s } }
  .next (if s.hlt.health.take 4 = s1.hlt.health.take 4 then s1 else raiseEvent 80 false 0x67 (.health s1.hlt.health) s1)

/-- HEALTH_CLEAR clears summary bits 4 to 6. -/
def execHealthClear (w : Who) (s : State) : Answer :=
  command Obj.HEALTH_CLEAR w (fun s => setUnstated Obj.HEALTH_CLEAR w.path { s with hlt := { s.hlt with stickyHealth := 0 } }) s

/-- DIV_LOG_CLEAR empties the divergence log. -/
def execDivLogClear (w : Who) (s : State) : Answer :=
  command Obj.DIV_LOG_CLEAR w (fun s => setUnstated Obj.DIV_LOG_CLEAR w.path { s with red := { s.red with divLog := [] } }) s

end Sys2Proof.Machine
end

