-- ==== Sys2Proof/Machine/Weave.lean ====
section
/-! DEFINITION. The weave (chapter 10) and its reply timers (R398): the states of endpoints, route changes, acknowledgements,
credits, dead-endpoint answers and timeouts. -/

namespace Sys2Proof.Machine

/-! ## Endpoints (R224, R236) -/

/-- A block's kind of service at its endpoint: 0 absent, 1 live, 2 dead. -/
def chanEndpoint (s : State) (c : Nat) : Nat :=
  let st := (chanOf s c).st
  if st = 0 then 0 else if st = 3 ∨ st = 4 then 1 else 2

/-- A manifest plane's ports serve: the plane is LEADER, FOLLOWER or REJOINING. -/
def planeServes (st : Nat) : Bool := st == 0 || st == 1 || st == 3

/-- WEAVE_EP_STATE of an endpoint number: 0 absent, 1 live, 2 dead. -/
def epState (s : State) (e : Nat) : Nat :=
  if e < 60 then (if (panelOf s e).st = 4 then 2 else 1)
  else if 0x40 ≤ e ∧ e < 0x48 then (if rget Obj.HP_ENABLE (e - 0x40) s = 1 then 1 else 2)
  else if e = 0x48 ∨ e = 0x49 then (if portUp s (e - 0x48) then 1 else 2)
  else if e = 0x4F then 1
  else if 0x50 ≤ e ∧ e < 0x68 then chanEndpoint s (e - 0x50)
  else if 0x70 ≤ e ∧ e < 0x88 then (if chanEndpoint s (e - 0x70) = 1 ∧ !planeServes s.red.stA then 2 else chanEndpoint s (e - 0x70))
  else if 0x90 ≤ e ∧ e < 0xA8 then (if chanEndpoint s (e - 0x90) = 1 ∧ !planeServes s.red.stB then 2 else chanEndpoint s (e - 0x90))
  else if 0xB0 ≤ e ∧ e < 0xC8 then chanEndpoint s (e - 0xB0)
  else if 0xD0 ≤ e ∧ e < 0xD8 then (if s.ferry.lanesOut.contains (e - 0xD0) then 2 else 1)
  else if e = 0xD8 then 1
  else 0

/-- The endpoints that a route table marks dead or absent now. -/
def deadEndpoints (s : State) : List Nat := (List.range 0xD9).filter (fun e => epState s e != 1)

/-! ## Route changes (R240, R241) -/

/-- The Pilot writes the inactive bank and flips the epoch (steps 1 and 2 of Table 10.10). A change is made when an endpoint's state
is not that of the active bank, or when one is due for its own sake; one at a time. -/
def execRouteChange (s : State) : Answer :=
  if s.weave.st ≠ 0 ∨ (deadEndpoints s = s.weave.bank ∧ s.weave.due = false) then .next s
  else .next (rset Obj.WEAVE_ROUTE_EPOCH 0 (b2n (!s.weave.epoch)) (rset Obj.WEAVE_ROUTE_STATE 0 2
    { s with weave := { s.weave with
        epoch := !s.weave.epoch, st := 2, other := s.weave.bank, bank := deadEndpoints s, due := false, flipped := now s } }))

/-- No packet of the old epoch is left: the change is complete (step 4). -/
def execRouteDrainComplete (s : State) : Answer :=
  if s.weave.st ≠ 2 then .next s
  else
    let took := ticksSince s.weave.flipped (now s)
    .next (rinc Obj.WEAVE_ROUTE_CHANGES 0 (rmax Obj.WEAVE_DRAIN_MAX 0 took (rset Obj.WEAVE_DRAIN_LAST 0 took
      (rset Obj.WEAVE_ROUTE_STATE 0 0 { s with weave := { s.weave with st := 0 } }))))

/-! ## Ending one access (R236, R398) -/

/-- Apply a change to every request on its way. -/
def mapReqs (f : Req → Req) (s : State) : State :=
  { s with
    mf := { s.mf with
      waits := s.mf.waits.map (fun w => { w with req := f w.req })
      ready := s.mf.ready.map f
      recalls := s.mf.recalls.map (fun p => (p.1, p.2.map (fun rc => match rc.why with
        | .request r => { rc with why := .request (f r) }
        | _ => rc))) }
    ferry := { s.ferry with misses := s.ferry.misses.map f } }

/-- Every request on its way. -/
def openReqs (s : State) : List Req :=
  s.mf.waits.map (·.req) ++ s.mf.ready ++ s.ferry.misses ++ s.mf.recalls.filterMap (fun p => match p.2 with
    | some rc => (match rc.why with
        | .request r => some r
        | _ => none)
    | none => none)

/-- The reference of a request in its source endpoint's packets: SEQ at a landing, the transfer's tag at a panel. -/
def reqRef (r : Req) : Option (Nat × Nat) :=
  match r.src with
  | .host _ _ | .atw _ _ => some (0x40 + r.link / 2, r.seq)
  | .core c id => some (panelOfCore c, xferTag c id)
  | .amo c => some (panelOfCore c, panelIndex c * 512 + 511)
  | .dev _ => none

/-- Requests of one reference. -/
def reqsOf (s : State) (src ref : Nat) : List Req := (openReqs s).filter (fun r => reqRef r == some (src, ref))

/-- The access of a reference has ended at its requester as an uncorrectable error of that one access: a read gets poison, an
atomic POISON, a write is done. What the destination still answers comes too late. -/
def failAccess (src ref : Nat) (s : State) : State :=
  let mine := reqsOf s src ref
  let s1 := mapReqs (fun r => if reqRef r == some (src, ref) then { r with src := .dev 0xFFFD } else r) s
  let s2 := each mine (fun r s => match r.src with
    | .host ld tag => toHost ld tag .cmp (if readsData r.kind then some (List.replicate 64 0) else none) (readsData r.kind) s
    | .atw ld slot => postAtw ld slot 0x13 0 0 s
    | .core _ _ => { s with mf := { s.mf with served := s.mf.served ++ [⟨r.src, r.line, List.replicate 64 0, true⟩] } }
    | .amo c => amoResult c 0x13 0 {} r.line s
    | .dev _ => s) s1
  { s2 with weave := { s2.weave with
      longs := s2.weave.longs.filter (fun l => !(l.1 == src && l.2.1 == ref))
      timers := tput 0 s2.weave.timers (src * 16777216 + ref) 0 } }

/-- A TYPE 0x4F cell reaches a requester, from the dead or absent endpoint that absorbed its request (R236). -/
def execDeadEndpointAnswer (src ref endpoint : Nat) (s : State) : Answer :=
  .next (failAccess src ref (rinc Obj.WEAVE_EP_SUNK endpoint s))

/-- The endpoints that the SUNK bits of a mask packet name: panels, and the landings of a group that are not live (R234, R235). -/
def sunkEndpoints (s : State) (sunk : Nat) : List Nat :=
  (List.range 60).filter (bit sunk) ++
    ((List.range 4).filter (fun g => bit sunk (60 + g))).flatMap (fun g =>
      [0x40 + 2 * g, 0x41 + 2 * g].filter (fun e => epState s e != 1))

/-- A TYPE 0x58 cell (R233, R235): the long packet is no longer unacknowledged; one that a dead endpoint absorbed has failed. The
acknowledgement of a mask packet of the Pilot or a slice leaves nothing else to do. Each endpoint that absorbed the packet counts it;
that of a unicast packet is the acknowledgement's own source. -/
def execAcknowledgement (src ref refkind delivered sunk endpoint : Nat) (s0 : State) : Answer :=
  let s := each (if refkind ≠ 0 then sunkEndpoints s0 sunk else if bit sunk 0 then [endpoint] else [])
    (fun e s => rinc Obj.WEAVE_EP_SUNK e s) s0
  let s1 := { s with weave := { s.weave with longs := s.weave.longs.filter (fun l => !(l.1 == src && l.2.1 == ref)) } }
  if refkind ≠ 0 then .next s
  else if bit sunk 0 && !bit delivered 0 then .next (failAccess src ref s1)
  else .next s1

/-- Send BISnps that waited for a credit, as far as credits reach. -/
def pumpSnps : List (Nat × Nat × Snp) → State → State
  | [], s => s
  | (a, line, k) :: r, s =>
    let p := portOfAgent s a
    let used := tget 0 s.weave.snpUsed p
    if used < 512 then pumpSnps r (emit (.bisnp a line k) { s with weave := { s.weave with
      snpUsed := tput 0 s.weave.snpUsed p (used + 1), snpWait := dropFirst (fun w => w == (a, line, k)) s.weave.snpWait } })
    else pumpSnps r s

/-- Credits return on A CH2 (R226): `kind` 0 is a landing's BISnp credits, from landing endpoint `src`. Event credits and chunk grants
are never short in this model, whose events and chunk writes are taken at once. -/
def execCreditReturn (kind src dst n : Nat) (s : State) : Answer :=
  let _ := dst
  if kind ≠ 0 ∨ src < 0x40 ∨ 0x47 < src then .next s
  else
    let p := src - 0x40
    let s1 := { s with weave := { s.weave with snpUsed := tput 0 s.weave.snpUsed p (tget 0 s.weave.snpUsed p - n) } }
    .next (pumpSnps s1.weave.snpWait s1)

/-! ## Reply timers (R398) -/

/-- A wait notice re-arms the requester's timer. -/
def execWaitNotice (src ref : Nat) (s : State) : Answer :=
  .next { s with weave := { s.weave with timers := tput 0 s.weave.timers (src * 16777216 + ref) (now s + 1) } }

/-- Every 10 µs of a wait that another rule bounds, its destination sends another wait notice. -/
def execWaitNoticeInterval (src ref : Nat) (s : State) : Answer :=
  if (reqsOf s src ref).isEmpty then .next s else .next (emit (.waitNotice src ref) s)

/-- The timer expires: an unacknowledged long packet is sent once more with the same TAG; any other request, or a second failure, is
treated as answered by TYPE 0x4F, with a record. The record's class 3 is DESIGN CHOICE. -/
def execReplyTimeout (src ref : Nat) (s : State) : Answer :=
  let long := s.weave.longs.find? (fun l => l.1 == src && l.2.1 == ref)
  match long, (reqsOf s src ref).head? with
  | some (_, _, 1), _ => .next { s with weave := { s.weave with
      longs := s.weave.longs.map (fun l => if l.1 == src && l.2.1 == ref then (src, ref, 2) else l) } }
  | none, none => .next s
  | _, r => .next (logError 0xA2 0 3 (r.map (·.line)) 0 (failAccess src ref s))

end Sys2Proof.Machine
end

