-- ==== Sys2Proof/Machine/Dram.lean ====
section
/-! DEFINITION. DRAM channels (chapter 11): line reads and what ECC finds, refresh, replays, the DRAM log, graceful retirement and
sudden loss. -/

namespace Sys2Proof.Machine

/-! ## Addresses and records (R248, R263) -/

/-- Field of an organisation: x8 devices, two ranks (Table 11.10 DRAM_ORG). -/
def orgX8 (org : Nat) : Bool := bit org 2
def orgTwoRanks (org : Nat) : Bool := bit org 3

/-- Where a line address of a channel lies (Table 11.3). -/
structure DramAddr where
  subch : Nat
  bg : Nat
  ba : Nat
  column : Nat
  rank : Nat
  row : Nat

/-- Table 11.3. -/
def dramAddr (org l : Nat) : DramAddr :=
  let c := if orgX8 org then 6 else 7
  let r := b2n (orgTwoRanks org)
  let row := l / 2 ^ (6 + c + r)
  ⟨l % 2, bits l 1 3 ^^^ row % 8, bits l 4 2 ^^^ bits row 3 2, bits l 6 c, if r = 1 then bits l (6 + c) 1 else 0, row⟩

/-- Number of a bank in the open-row table. -/
def bankNo (a : DramAddr) : Nat := a.rank * 64 + a.subch * 32 + a.bg * 4 + a.ba

/-- Line address of a resident pool line in its channel: its frame's lines follow one another (R97). -/
def lineAddr (s : State) (line : Nat) : Nat := frameOf s (tileOfLine line) * 1024 + lineIdx line

/-- The channel holds a frame of the line: its home, or the partner half of a mirrored-near tile. -/
def chanHas (s : State) (chan line : Nat) : Bool :=
  let t := tileOfLine line
  (tagOf s t).st != 0 && (homeOf s t == chan || (match regionAtTile s t with
    | some r => (regionOf s r).cls == 1 && homeOf s t % 12 == chan % 12
    | none => false))

/-- A DRAM record of a pool line. -/
def dramRec (s : State) (chan line nibble kind count : Nat) : DramRec :=
  let a := dramAddr (chanOf s chan).org (lineAddr s line)
  let r := regionAtLine s line
  ⟨chan, a.subch, a.rank, a.bg, a.ba, a.row, a.column, nibble, kind, r.getD 0x1FFF, now s, count, line,
    (r.map (fun n => (regionOf s n).owner)).getD 0⟩

/-- A DRAM record that names no line of the pool. -/
def chanRec (s : State) (chan kind count : Nat) : DramRec := ⟨chan, 0, 0, 0, 0, 0, 0, 15, kind, 0x1FFF, now s, count, 0, 0⟩

/-- Write a DRAM record: in the log while it has room, else counted as lost; pushed with its channel's unit (R263, R400). -/
def logDram (r : DramRec) (s : State) : State :=
  let s1 := raiseEvent r.chan false 0x60 (.dram r) s
  if s1.dram.log.length < 4096 then { s1 with dram := { s1.dram with log := s1.dram.log ++ [r] } }
  else rinc Obj.DRAM_LOG_LOST 0 s1

/-! ## Reads (R251, R257, R258) -/

/-- An access leaves its row open in the bank, or closes it when the page idle time is 0 (R251). -/
def openRow (chan line : Nat) (s : State) : State :=
  let a := dramAddr (chanOf s chan).org (lineAddr s line)
  modChan chan (fun c => { c with rows := tput 0 c.rows (bankNo a) (if rget Obj.DRAM_PAGE_IDLE 0 s = 0 then 0 else a.row + 1) }) s

/-- The line's bytes can be had from a current far copy: the line is not DIRTY and the tile's copy is good (R258 source 2). One that can
be neither read nor rebuilt, or whose key is gone, passes on to the next source (R289, R434). -/
def farHas (s : State) (line : Nat) : Bool :=
  let t := tileOfLine line
  let f := farOf s t
  f.kind == 1 && !f.stale && !mapBit (tagOf s t).dirty (lineIdx line) && !keyMismatch s t f.hdr.kslot f.hdr.kgen
    && ((flashOf s f.chan).st == 3 || (flashOf s f.chan).st == 4 || rowRebuilds s f.slot)

/-- A line is repaired from another copy (class 5). -/
def repaired (chan line kind : Nat) (s : State) : State :=
  logDram (dramRec s chan line 15 kind 1) (bucketEvent 0x02 chan 5 (some line) 0 (rinc Obj.DRAM_REPAIRED chan s))

/-- A line with no repair source: poison, or the containment reset (R258 source 4, R391). -/
def unrepaired (chan line : Nat) (s : State) : State :=
  if containsByReset s chan line then containReset 1 0x02 chan (some line) 0 s
  else logDram (dramRec s chan line 15 5 1) (bucketEvent 0x02 chan 3 (some line) 0
    (rinc Obj.DRAM_POISONED chan (poisonInPlace line s)))

/-- The repair of an uncorrectable line, the first source that applies (R258). -/
def repairLine (chan line : Nat) (otherHalfOk : Bool) (s : State) : State :=
  let mirrored := match regionAtLine s line with
    | some r => (regionOf s r).cls == 1
    | none => false
  let bothHalves := chanWorks s (chan % 12) && chanWorks s (chan % 12 + 12)
  if mirrored && bothHalves && otherHalfOk then repaired chan line 2 s
  else if farHas s line then
    repaired chan line 3 (restoreLine line (loadBytes s.mem.far (line * 64) 64) (tget false s.mem.farPoison line) s)
  else if canFetch s line && mapBit (tagOf s (tileOfLine line)).dirty (lineIdx line) then
    startFetch line 1 [line] .repair s
  else unrepaired chan line s

/-- What ECC found when a line was read (R257, R258). -/
def eccLine (chan line : Nat) (o : EccOutcome) (s : State) : State :=
  match o with
  | .clean => s
  | .corrected nibble =>
    let s1 := bucketEvent 0x01 chan 0 (some line) 0 (rinc Obj.DRAM_CORRECTED chan s)
    if rget Obj.DRAM_LOG_CORRECTED 0 s = 1 then logDram (dramRec s chan line nibble 0 1) s1 else s1
  | .rereadOk =>
    logDram (dramRec s chan line 15 1 1) (logError 0x02 chan 1 (some line) 0 (rinc Obj.DRAM_REREAD_OK chan s))
  | .uncorrectable other => repairLine chan line other s

/-- DRAM_LINE_READ: a resident line is read for a requester (R253, R256 to R258). -/
def execDramLineRead (chan line : Nat) (o : EccOutcome) (s : State) : Answer :=
  if 24 ≤ chan ∨ !chanWorks s chan ∨ !chanHas s chan line then .next s
  else .next (eccLine chan line o (openRow chan line s))

/-- A channel's tag store is shadowed: its mirror-class partner is in service with the same organisation (R262), or still in graceful
evacuation, which ends the shadow with its last step (Table 11.8). -/
def shadowed (s : State) (c : Nat) : Bool :=
  let p := (c + 12) % 24
  chanWorks s p && (chanOf s p).org == (chanOf s c).org

/-- A tag entry rebuilt from the shadow: VALID equals DIRTY; other lines come from the far copy on demand, or read as zero (R262). -/
def rebuildTag (t : Nat) (s : State) : State :=
  let g := tagOf s t
  if g.st = 0 ∨ (crossingOf s t).isSome then s
  else if (farOf s t).kind = 1 ∧ (farOf s t).stale = false then
    addCrossing t .promote 0 (sourceFlash s t) (homeOf s t) 0
      (modTag t (fun g => { g with st := 2, valid := g.dirty, zb := false }) s)
  else modTag t (fun g => { g with valid := g.dirty, zb := true }) s

/-- A device-area line that stays uncorrectable (R259, Table 17.4): `area` 1 tag store or headers, 2 manifest backing store, 3 save
area, else the log map and shadow. -/
def deviceLine (chan area line : Nat) (s : State) : State :=
  let s1 := logDram (chanRec s chan 9 1) s
  let note (cls : Nat) (s : State) : State := bucketEvent 0x02 chan cls none 0 s
  match area with
  | 1 => if shadowed s chan then rebuildTag (tileOfLine line) (note 5 s1) else containReset 2 0xAC 0 none 0 s1
  | 2 => planeError (chan % 2) (note 5 s1)
  | 3 => note 3 s1
  | _ => if shadowed s chan then note 5 s1 else containReset 2 0xAC 0 none 0 s1

/-- DRAM_SCRUB_READ (R259): a line of a frame (`area` 0) or of the device area is read in the background. -/
def execDramScrubRead (chan area line : Nat) (o : EccOutcome) (s : State) : Answer :=
  if 24 ≤ chan ∨ (chanOf s chan).st ≠ 3 then .next s
  else if area = 0 then
    if chanHas s chan line then .next (eccLine chan line o (openRow chan line s)) else .next s
  else match o with
    | .clean => .next s
    | .corrected nibble =>
      let s1 := bucketEvent 0x01 chan 0 none 0 (rinc Obj.DRAM_CORRECTED chan s)
      .next (if rget Obj.DRAM_LOG_CORRECTED 0 s = 1 then logDram { chanRec s chan 0 1 with nibble := nibble } s1 else s1)
    | .rereadOk => .next (logDram (chanRec s chan 1 1) (logError 0x02 chan 1 none 0 (rinc Obj.DRAM_REREAD_OK chan s)))
    | .uncorrectable _ => .next (deviceLine chan area line s)

/-! ## Refresh and temperature (R251, R254, R255, R506) -/

/-- ALL_BANK_REFRESH: a rank is refreshed with its rows closed; a drift beyond the trained range feeds its bucket. -/
def execAllBankRefresh (chan rank : Nat) (drift : Bool) (s : State) : Answer :=
  if 24 ≤ chan ∨ !chanWorks s chan ∨ 1 < rank ∨ (rank = 1 ∧ orgTwoRanks (chanOf s chan).org = false) then .next s
  else
    let s1 := rinc Obj.DRAM_REFRESHES chan (modChan chan (fun c => { c with rows := tclear c.rows (rank * 64) 64 }) s)
    .next (if drift then bucketEvent 0x05 chan 1 none 0 s1 else s1)

/-- PAGE_IDLE_PRECHARGE: a bank has been idle for DRAM_PAGE_IDLE and its row is closed (R251). -/
def execPageIdlePrecharge (chan bank : Nat) (s : State) : Answer :=
  if 24 ≤ chan ∨ 128 ≤ bank then .next s else .next (modChan chan (fun c => { c with rows := tput 0 c.rows bank 0 }) s)

/-- A thermal record of SOURCE 0xA8, counted in THERM_EVENTS (R504). -/
def thermRecord (inst : Nat) (temp : Int) (s : State) : State :=
  logError 0xA8 inst 1 none (codeOf 32 temp) (rinc Obj.THERM_EVENTS 0 s)

/-- One channel's sensor reading: tREFI doubles its rate above 85 °C until below 83 °C (R254); above DRAM_TEMP_LIMIT one event, until
2 °C below it (R506). -/
def sampleTemp (chan : Nat) (temp : Int) (s : State) : State :=
  let c := chanOf s chan
  if c.st ≠ 3 ∧ c.st ≠ 4 then s
  else
    let limit : Int := (rget Obj.DRAM_TEMP_LIMIT 0 s : Nat)
    let fast := if 85 < temp then true else if temp < 83 then false else c.fast
    let hot := if limit < temp then true else if temp ≤ limit - 2 then false else c.hot
    let s1 := modChan chan (fun c => { c with temp := temp, fast := fast, hot := hot }) s
    if hot && !c.hot then thermRecord (32 + chan) temp s1 else s1

/-- DIMM_TEMP_SAMPLE: every DIMM's sensor is read (R254, R532); reading `k` of the list is channel `k`'s. -/
def execDimmTempSample (temps : List Int) (s : State) : Answer :=
  .next (each (temps.zipIdx.take 24) (fun p s => sampleTemp p.2 p.1 s) s)

/-! ## What a change of channels does (R267 to R270, R272) -/

/-- CHMAP with every entry that names `c` naming the (j mod N′)-th remaining channel instead (Table 11.8 step 3). -/
def moveChmap (c : Nat) (s : State) : State :=
  let left := (inService s).filter (fun k => k != c)
  let entry (j : Nat) : Option (Nat × Nat) :=
    let v := chmapAt s j
    let v' := if v = c then left.getD (j % left.length) 0 else v
    if v' = chmapDflt s j then none else some (j, v')
  if left.isEmpty then s else { s with ferry := { s.ferry with chmap := (List.range 4096).filterMap entry } }

/-- The channel that replaces `c` in a pinned-near list: the in-service one with the most free pool frames, the lowest on ties (R269). -/
def replacement (s : State) (c : Nat) : Option Nat :=
  ((inService s).filter (fun k => k != c)).foldl (fun best k => match best with
    | none => some k
    | some b => if freeFrames s b < freeFrames s k then some k else some b) none

/-- Pinned-near tiles of a region whose list entry is `c`. -/
def listTiles (g : Region) (c : Nat) : List Nat :=
  if g.chans.isEmpty then []
  else ((List.range (g.size * tilesPerGib)).filter (fun i => g.chans.getD (i % g.chans.length) 0 == c && !g.displaced.contains (g.base * tilesPerGib + i))).map
    (· + g.base * tilesPerGib)

/-- A clean cached tile of a channel leaves to make room. -/
def dropOne (c : Nat) (s : State) : Option State :=
  match (sweepOrder s c).find? (fun p => mayEvict s p && p.2.st == 3 && !heldNow s p.1 && !(farOf s p.1).stale) with
  | none => none
  | some p => some (dropTile p.1 s)

/-- Make room in a channel that holds more tiles than frames: clean tiles leave, at most `n`. -/
def makeRoom (c : Nat) : Nat → State → State
  | 0, s => s
  | n + 1, s =>
    if (cachedIn s c).length ≤ poolFrames s c then s
    else match dropOne c s with
      | none => s
      | some s1 => makeRoom c n s1

/-- A pinned-near tile that finds no frame is demoted and marked displaced (R269). It keeps its old frame until the demotion ends. -/
def displaceTile (n t from_ : Nat) (s : State) : State :=
  let g := tagOf s t
  let s1 := rinc Obj.DRAM_RSV_DISPLACED 0 (modRegion n (fun r => { r with displaced := r.displaced ++ [t] }) s)
  let frame := newFrame s from_
  let s2 := setTag t (if g.st = 0 ∨ (g.dirty = 0 ∧ (farOf s t).kind = 0) then {}
    else { g with rsv := false, home := from_, frame := frame }) s1
  evictTile t 1 s2

/-- One region's list entry moves from `c` to a new channel (R269). -/
def moveList (n c dest : Nat) (s : State) : State :=
  let tiles := listTiles (regionOf s n) c
  let s1 := modRegion n (fun g => { g with chans := g.chans.map (fun k => if k = c then dest else k) }) s
  let s2 := makeRoom dest tiles.length s1
  let excess := (cachedIn s2 dest).length + reservedFrames s2 dest - usableFrames s2 dest
  each (tiles.drop (tiles.length - excess)) (fun t s => displaceTile n t c s) s2

/-- Every pinned-near list replaces `c` (R269). -/
def moveLists (c : Nat) (s : State) : State :=
  each s.regions (fun p s =>
    if p.2.cls = 3 ∧ p.2.st ≠ 0 ∧ p.2.chans.contains c then
      match replacement s c with
      | some dest => moveList p.1 c dest s
      | none => s
    else s) s

/-- The pair of a channel that retires or is lost is degraded (R270). -/
def degrade (c : Nat) (s : State) : State :=
  { s with dram := { s.dram with degraded := s.dram.degraded ||| 2 ^ (c % 12) } }

/-- A parity has no channel left: the plane of that parity cannot run (R52, R266). -/
def parityGone (c source : Nat) (s : State) : State :=
  if (inService s).any (fun k => k % 2 == c % 2) then s else retirePlane source (c % 2) s

/-! ## Graceful retirement (R266, R267) -/

/-- DRAM_RETIRE: status 0 started, 1 not in service, 2 last in-service channel, 3 queued. -/
def execDramRetire (w : Who) (arg : Nat) (s : State) : Answer :=
  command Obj.DRAM_RETIRE w (fun s =>
    let st := if (chanOf s arg).st ≠ 3 ∨ 24 ≤ arg then 1
      else if (inService s).length ≤ 1 then 2
      else if s.dram.retiring.isSome ∨ s.dram.queue ≠ [] then 3 else 0
    setWord Obj.DRAM_RETIRE w.path st (if st = 0 ∨ st = 3 then queueDramRetire 0xB0 arg s
      else if st = 2 then serviceEvent 0xB0 arg s else s)) s

/-- The sweep of a retiring channel: clean unkept tiles are freed, the others relocated (Table 11.8 step 4). -/
def sweepChannel (c : Nat) (s : State) : State :=
  each (cachedIn s c) (fun p s =>
    let g := tagOf s p.1
    if g.st = 3 ∧ !g.pin ∧ !g.stage ∧ !heldNow s p.1 ∧ !(farOf s p.1).stale ∧ (crossingOf s p.1).isNone then dropTile p.1 s
    else relocate p.1 s) s

/-- The next retirement starts, unless its channel has left service or is the last one, which raises a service event. One that a warm restart
broke off starts again from its step 1 (R521). -/
def startRetirement (s : State) : State :=
  match s.dram.queue with
  | [] => s
  | (c, src) :: rest =>
    let s1 := { s with dram := { s.dram with queue := rest } }
    if (chanOf s c).st ≠ 3 ∧ (chanOf s c).st ≠ 4 then s1
    else if (chanOf s c).st = 3 ∧ (inService s).length ≤ 1 then serviceEvent src c s1
    else retireEvent src c 0 (modChan c (fun k => { k with st := 4 }) { s1 with dram := { s1.dram with retiring := some (c, src), step := 1 } })

/-- DRAM_RETIREMENT_STEP: the next step of Table 11.8 whose condition holds, or the start of the next retirement. -/
def execDramRetirementStep (s : State) : Answer :=
  match s.dram.retiring with
  | none => .next (startRetirement s)
  | some (c, src) =>
    let changes := rget Obj.WEAVE_ROUTE_CHANGES 0 s
    let dest (n : Nat) (s : State) : State := { s with dram := { s.dram with step := n } }
    match s.dram.step with
    | 1 => .next (startRemap (dest 2 s))
    | 2 =>
      if s.mf.newK ≠ s.mf.setK then .next s
      else
        let s1 := moveLists c (moveChmap c (dest 3 s))
        .next { s1 with weave := { s1.weave with due := true }, dram := { s1.dram with waitRoute := (changes + 1) % 4294967296 } }
    | 3 => if changes = s.dram.waitRoute then .next (dest 4 s) else .next s
    | 4 =>
      let s1 := serveMisses (sweepChannel c s)
      let s2 := rset Obj.DRAM_RETIRE_PROGRESS 0 (retireLeft s1 c) s1
      .next (wake (if retireLeft s2 c = 0 then trimSaves (dest 5 s2) else s2))
    | _ =>
      .next (parityGone c src (degrade c (retireEvent src c 1 (modChan c (fun k => { k with st := 5 })
        { s with dram := { s.dram with retiring := none, step := 0 } }))))

/-! ## Sudden loss (R271, R272) -/

/-- Lines of a tile that a host holds in O. -/
def ownedLine (s : State) (line : Nat) : Bool := (entryOf s line).st == .o || (entryOf s line).st == .ro

/-- Record the lines a tile lost: one record of KIND 8, and the count. -/
def lostRecord (chan t n : Nat) (s : State) : State :=
  if n = 0 then s
  else radd Obj.DRAM_LOST_LINES 0 n (logDram { dramRec s chan (t * 1024) 15 8 n with count := n } s)

/-- Lines of a lost tile are written as poison; those that a host owns keep their owner and are not counted. -/
def loseLines (chan t : Nat) (lines : List Nat) (s : State) : State :=
  let s1 := each lines (fun l s => putNear l (List.replicate 64 0) fullMask true s) s
  lostRecord chan t (lines.filter (fun l => !ownedLine s l)).length s1

/-- The lines of a tile whose bits a map sets. -/
def linesIn (t : Nat) (m : BitVec 1024) : List Nat := ((List.range 1024).filter (mapBit m)).map (· + t * 1024)

/-- A cached tile of a lost channel at its new home (Table 11.9, R272): lines that are not DIRTY come from the far copy or read as
zero; DIRTY lines come from the partner unit or are lost. -/
def resolveTile (chan t : Nat) (s : State) : State :=
  let g := tagOf s t
  let dirty := linesIn t (match crossingOf s t with
    | some c => if c.kind = .clean then g.dirty ||| c.snapDirty else g.dirty
    | none => g.dirty)
  let s0 := dropCrossing t s
  let clear (s : State) : State := { s with
    ferry := { s.ferry with tags := tput (tagDflt s t) s.ferry.tags t {} }
    mem := { s.mem with near := tclear s.mem.near (t * 65536) 65536, nearPoison := tclear s.mem.nearPoison (t * 1024) 1024 } }
  if dirty.isEmpty ∧ g.pin = false ∧ g.stage = false then clear s0
  else
    let kept := dirty.map (fun l => (l, nearLine s l))
    let dest := placeOf s0 t
    let dirtyMap := dirty.foldl (fun m l => mapSet m (lineIdx l)) 0
    let s1 := clear s0
    let frame := newFrame s1 dest
    let far := (farOf s1 t).kind == 1
    let g' : Tag := keyTag (keyFor s t) { g with st := if far then 2 else 4, home := dest, frame := frame, valid := dirtyMap, dirty := dirtyMap, zb := !far }
    let s2 := setTag t g' s1
    let s3 := if far then addCrossing t .promote 1 (sourceFlash s2 t) dest 0 s2 else s2
    if canFetch s (t * 1024) then
      fetchLines dirty .lost (each kept (fun p s => restoreLine p.1 p.2 false s) s3)
    else loseLines chan t dirty s3

/-- A pinned-near tile of a lost channel gets a frame whose every line is poison, except lines held in O (R272). -/
def losePinned (chan t : Nat) (s : State) : State :=
  let g := tagOf s t
  let s1 := dropCrossing t s
  let s2 := setTag t { keyTag (keyFor s t) g with st := 4, rsv := true, frame := 0, valid := BitVec.allOnes 1024, dirty := BitVec.allOnes 1024, zb := false } s1
  loseLines chan t (linesIn t (BitVec.allOnes 1024)) s2

/-- A DRAM channel is lost (R271, Table 11.9). Without a shadow, with both channels of a pair lost, or with no channel left, the
device resets. `cause` goes into the record's DETAIL. -/
def loseChannel (c cause : Nat) (s : State) : State :=
  if (chanOf s c).st ≠ 3 ∧ (chanOf s c).st ≠ 4 then s
  else if !shadowed s c || (inService s).all (· == c) then containReset 2 0xAC 0 none cause (modChan c (fun k => { k with st := 6 }) s)
  else
    let before := rget Obj.DRAM_LOST_LINES 0 s
    let tiles := (cachedIn s c).map (·.1)
    let pinned := s.regions.flatMap (fun p => if p.2.cls = 3 ∧ p.2.st ≠ 0 then listTiles p.2 c else [])
    let crossed := (s.ferry.crossings.filter (fun k => k.dram == c && k.kind != .promote)).map (fun k => (k.tile, k.kind))
    let s1 := each crossed (fun k s => if k.2 = .evict then abortEvict k.1 s else abortClean k.1 s) s
    let mine := (s1.dram.retiring.map (·.1)) == some c
    let d : Dram := { s1.dram with
      queue := s1.dram.queue.filter (fun q => q.1 != c)
      retiring := if mine then none else s1.dram.retiring
      step := if mine then 0 else s1.dram.step }
    let s2 := degrade c (modChan c (fun k => { k with st := 6, rows := [] }) { s1 with dram := d })
    let s3' := moveLists c (moveChmap c s2)
    let s3 := each (s3'.ferry.crossings.filter (fun k => k.dram == c && k.kind == .promote && (tagOf s3' k.tile).rsv))
      (fun k s => modCrossing k.tile (fun k => { k with dram := homeOf s k.tile, placed := 0 }) s) s3'
    let s4 := each tiles (resolveTile c) { s3 with weave := { s3.weave with due := true } }
    let s5 := each pinned (fun t s => if (tagOf s t).rsv then losePinned c t s else s) s4
    let saved := (s5.jobs.jobs.filter (fun p => match p.2 with
      | some j => !j.saved.isEmpty
      | none => false)).map (·.1)
    let s6 := trimSaves (each saved (loseJob · 0x86) s5)
    let s7 := logErrorAt c 0xA0 (if rget Obj.DRAM_LOST_LINES 0 s6 = before then 5 else 3) none cause s6
    wake (serveMisses (startRemap (planeError (c % 2) s7)))

/-- DRAM_CHANNEL_LOST: a channel stops answering commands within 10 µs (R271). -/
def execDramChannelLost (chan cause : Nat) (s : State) : Answer := .next (loseChannel chan cause s)

/-- Replays of a command (R260): each is counted and the alert feeds its bucket; after three that fail, the channel is lost. -/
def replay (o : Obj) (source kind chan replays : Nat) (failed : Bool) (s : State) : State :=
  if 24 ≤ chan ∨ !chanWorks s chan then s
  else
    let n := if failed then 3 else min 3 (max 1 replays)
    let s1 := bucketEvent source chan (if failed then 2 else 1) none n (radd o chan n s)
    let s2 := logDram (chanRec s1 chan kind 1) s1
    if failed then loseChannel chan 1 s2 else s2

/-- CA_PARITY_ALERT (R260). -/
def execCaParityAlert (chan replays : Nat) (failed : Bool) (s : State) : Answer :=
  .next (replay Obj.DRAM_CA_REPLAYS 0x03 6 chan replays failed s)

/-- WRITE_CRC_ALERT (R260). -/
def execWriteCrcAlert (chan replays : Nat) (failed : Bool) (s : State) : Answer :=
  .next (replay Obj.DRAM_WCRC_REPLAYS 0x04 7 chan replays failed s)

/-- DRAM_LOG_CLEAR empties the log (R263). -/
def execDramLogClear (w : Who) (s : State) : Answer :=
  command Obj.DRAM_LOG_CLEAR w (fun s => setUnstated Obj.DRAM_LOG_CLEAR w.path { s with dram := { s.dram with log := [] } }) s

end Sys2Proof.Machine
end

