-- ==== Sys2Proof/Machine/PairBase.lean ====
section
/-! DEFINITION. What the rules of a crossing pair do to this unit (R359 to R368): roles, claims, stepping down, taking over,
suspending mirroring and taking it up again. -/

namespace Sys2Proof.Machine

/-- Take a role of Table 15.7; a change is an event (Table 17.7). -/
def setRole (r : Nat) (s : State) : State :=
  if s.pair.role = r then s else roleEvent { s with pair := { s.pair with role := r } }

/-- The next unit claim: one more than the larger of the own counter and the partner's last known claim (R342). None is left at
2³² (R343). -/
def takeClaim (s : State) : Option State :=
  let c := 1 + max s.red.unitCtr s.pair.partnerClaim
  if c < 4294967296 then some { s with red := { s.red with unitCtr := c }, pair := { s.pair with claim := c } } else none

/-- Regions of class tandem that are LIVE. -/
def tandemRegions (s : State) : List Nat := (s.regions.filter (fun p => p.2.st == 2 && p.2.cls == 2)).map (·.1)

/-- Offer every tandem region (R366). -/
def offerTandem (s : State) : State := each (tandemRegions s) offerRegion s

/-- Withdraw every tandem extent at once (R360). -/
def withdrawTandem (s : State) : State :=
  each (tandemRegions s) (fun n s => each (List.range 128) (fun ld s => withdrawNow ld n s) s) s

/-! ## Host writes that wait for a MACK (R361, R362) -/

/-- Complete the host writes that `p` picks. -/
def completeWrites (p : Nat × Nat × Option Req → Bool) (s : State) : State :=
  each (s.pair.unmacked.filter p) (fun u s => match u.2.2 with
      | some r => answer r none false s
      | none => s)
    { s with pair := { s.pair with unmacked := s.pair.unmacked.filter (fun u => !p u) } }

/-- The open tandem writes of a unit that steps down end with their responses discarded (R362, R317): those that wait for a MACK, and
those that still waited at their landings. Waiting reads go on with the unit's own copy, and waiting window operations end outside
every extent. -/
def discardWrites (s : State) : State :=
  let drop (r : Req) (s : State) : State := rinc Obj.HL_RESP_DISCARDS r.link s
  let s1 := each s.pair.unmacked (fun u s => match u.2.2 with
      | some r => drop r s
      | none => s) { s with pair := { s.pair with unmacked := [], waiting := [] } }
  each s.pair.waiting (fun w s => match w.2.src with
    | .atw ld slot => postAtw ld slot 0x12 0 0 s
    | _ => if (writeMask w.2.kind).isSome then drop w.2 s else meterMem w.1 w.2 s) s1

/-! ## Mirroring (R367) -/

/-- Suspend mirroring: writes complete locally, with their spans marked. -/
def suspendMirror (s : State) : State :=
  let spans := (s.pair.unmacked.filterMap (fun u => u.2.2.map (fun r => spanOf r.line))).eraseDups
  let s1 := { s with pair := { s.pair with mirror := 1 }, seam := { s.seam with claims := [] } }
  completeWrites (fun _ => true) (each spans markSpan (if s1.pair.role = 1 then setRole 4 s1 else s1))

/-- Mirroring may run: the unit serves, a port is up to a matched partner that does not serve. -/
def mirrorReady (s : State) : Bool :=
  servesTandem s && pairConfigured s && pairMatched s && (portUp s 0 || portUp s 1)
    && (s.pair.partnerRole == 2 || s.pair.partnerRole == 3)

/-- Take mirroring up: active with the resync map empty, which makes the unit PRIMARY, else resynchronising. -/
def startMirror (s : State) : State :=
  if !mirrorReady s then s
  else if s.pair.resync.isEmpty then setRole 1 { s with pair := { s.pair with mirror := 0 } }
  else setRole 4 { s with pair := { s.pair with mirror := 2 } }

/-- What the partner last told may call for suspending mirroring (R442, R462). -/
def checkMirror (s : State) : State :=
  if (s.pair.mirror = 0 ∨ s.pair.mirror = 2) ∧ servesTandem s = true ∧ pairMatched s = false then suspendMirror s else s

/-! ## Stepping down (R362) -/

/-- Runs of consecutive numbers of a rising list: first and count. -/
def runsOf : List Nat → List (Nat × Nat)
  | [] => []
  | x :: r =>
    match runsOf r with
    | (y, n) :: q => if x + 1 = y then (x, n + 1) :: q else (x, 1) :: (y, n) :: q
    | [] => [(x, 1)]

/-- Step down to STALE: extents withdrawn, responses of open tandem writes discarded, and the spans of the resync map sent to the
partner and counted as conflict spans. -/
def stepDown (s : State) : State :=
  let spans := s.pair.resync.mergeSort (fun a b => decide (a ≤ b))
  let s1 := setRole 3 { s with
    pair := { s.pair with mirror := 1, halted := false, handover := 0, overlapUntil := 0, verify := none, resync := [] }
    seam := { s.seam with claims := [] } }
  let s2 := discardWrites (withdrawTandem s1)
  let runs := if spans.isEmpty then [(0, 0)] else runsOf spans
  radd Obj.PAIR_CONFLICT_SPANS 0 spans.length (each runs (fun r s => pairReq 5 0 r.1 r.2 true s) s2)

/-- A serving or taking unit learns of a partner claim and steps down if it beats its own (R362). -/
def learnClaim (claim unit : Nat) (s : State) : State :=
  if unit ≠ partnerUnit s then s
  else
    let s1 := { s with pair := { s.pair with partnerClaim := claim } }
    if (s.pair.role = 1 ∨ s.pair.role = 4 ∨ s.pair.role = 5) ∧ beats claim unit s.pair.claim (ownUnit s) = true then stepDown s1 else s1

/-! ## Taking over (R364 to R366) -/

/-- Take a new claim and enter TAKING; in overlap mode the unit serves from now on. With no claim left it never takes the role. -/
def takeover (s : State) : State :=
  match takeClaim s with
  | none => s
  | some s1 =>
    let overlap := rget Obj.PAIR_MODE 0 s1 == 1
    let s2 := setRole 5 { s1 with pair := { s1.pair with
      takeStart := now s1, overlapUntil := if overlap then now s1 + usTicks 50 else 0, halted := false, handover := 0, mirror := 1 } }
    releaseTandem (pairReq 4 0 0 0 true (rinc Obj.PAIR_TAKEOVERS 0 s2))

/-- TAKING ends: PRIMARY or SOLO, tandem extents offered, and the requests that waited let on (step 4 of Table 15.9). -/
def serveNow (s : State) : State := releaseTandem (offerTandem (startMirror (setRole 4 s)))

/-! ## Forming the pair (R359, R368) -/

/-- Send JOIN: the key check value and the firmware set identifier (R441, R462). -/
def sendJoin (s : State) : State := pairReq 1 0 (pairKeyCheck s) (fwSetId s) true s

/-- A unit that has no former role becomes PRIMARY, or SOLO while mirroring does not run. -/
def becomePrimary (s : State) : State :=
  match takeClaim s with
  | none => setRole 3 { s with pair := { s.pair with mirror := 1 } }
  | some s1 => offerTandem (startMirror (setRole 4 { s1 with pair := { s1.pair with mirror := 1 } }))

/-- Roles when two units meet (R359): who serves stays primary, of two the higher claim; of none, with one that has no role yet, the
higher UNIT becomes primary. -/
def formRoles (role unit : Nat) (s : State) : State :=
  let serves (r : Nat) : Bool := r == 1 || r == 4 || r == 5
  if s.pair.role ≠ 0 ∧ role ≠ 0 then s
  else if serves s.pair.role then s
  else if serves role then setRole 3 { s with pair := { s.pair with mirror := 1 } }
  else if unit < ownUnit s then becomePrimary s
  else setRole 3 { s with pair := { s.pair with mirror := 1 } }

/-- What a pair message tells of its sender: role, claim and UNIT. A unit that does not serve is STANDBY while the partner is PRIMARY
and STALE while it is SOLO (Table 15.7, R367); one that serves takes mirroring up when it can. -/
def notePartner (role claim unit : Nat) (s : State) : State :=
  let s1 := learnClaim claim unit { s with pair := { s.pair with partnerRole := role, partnerSeen := true } }
  if !beats claim unit s1.pair.claim (ownUnit s1) then startMirror s1
  else if s1.pair.role = 3 ∧ role = 1 then setRole 2 { s1 with pair := { s1.pair with mirror := 0 } }
  else if s1.pair.role = 2 ∧ role = 4 then setRole 3 { s1 with pair := { s1.pair with mirror := 1 } }
  else s1

/-- Anything has arrived from the partner on a path: it is not silent, and a primary that HALT stopped goes on (R363, R366). -/
def heardPartner (seam : Bool) (s : State) : State :=
  releaseTandem { s with pair := { s.pair with
    heardSeam := if seam then now s + 1 else s.pair.heardSeam, heardMgmt := if seam then s.pair.heardMgmt else now s + 1
    partnerSilent := false, halted := false } }

end Sys2Proof.Machine
end

