-- ==== Sys2Proof/Machine/SeamBase.lean ====
section
/-! DEFINITION. A Seam port from the frame up (R319 to R339): sending CTRL frames, receiving frames, acknowledgement and replay, the
delivery of messages, spare lanes, and what follows when a port goes down. -/

namespace Sys2Proof.Machine

/-! ## CTRL frames (R327, R330, R331) -/

/-- Send a CTRL frame. `ack` sets ACKV, which acknowledges what has arrived; `nak` asks for a replay. -/
def sendCtrl (p : Nat) (b : CtrlBody) (ack nak : Bool) (s : State) : State :=
  let q := seamOf s p
  let s1 := if ack then modSeam p (fun q => { q with unacked := 0 }) s else s
  rinc Obj.SEAM_FRAMES_TX p (emit (.seamCtrl p b (ackSeq q) ack nak) s1)

/-- Return credits: the cumulative counts of frames freed. -/
def returnCredits (p : Nat) (ack : Bool) (s : State) : State :=
  sendCtrl p { credit := some (seamOf s p).freed } ack false (modSeam p (fun q => { q with toReturn := [0, 0, 0, 0] }) s)

/-- Free `n` frames of a VC's receive buffer; sixteen since the last return send a CTRL frame (R327). -/
def freeBuf (p vc n : Nat) (s : State) : State :=
  if n = 0 then s
  else
    let s1 := modSeam p (fun q => { q with
      freed := put4 q.freed vc ((at4 q.freed vc + n) % 4096), toReturn := put4 q.toReturn vc (at4 q.toReturn vc + n) }) s
    if 16 ≤ at4 (seamOf s1 p).toReturn vc then returnCredits p false s1 else s1

/-! ## A port goes down (R338, R339) -/

/-- A fetch that gets no data (R336, R338): the line or tile has no copy at the partner. -/
def fetchFails (f : Fetch) (s : State) : State :=
  match f.why with
  | .repair => wake (each f.want (fun l s => unrepaired (homeOf s (tileOfLine l)) l s) s)
  | .lost => wake (loseLines (homeOf s (tileOfLine f.line)) (tileOfLine f.line) f.want s)
  | .seal =>
    let l := modFirst (fun g => g.tag == f.tag) (fun g => { g with got := some [] }) s.seam.fetches
    sealFetched (tileOfLine f.line) { s with seam := { s.seam with fetches := l } }

/-- Drop the record of a fetch that has its answer; one of a checksum failure stays until every fetch of its tile has. -/
def closeFetch (f : Fetch) (s : State) : State :=
  if f.why = .seal then s else { s with seam := { s.seam with fetches := dropFirst (fun g => g.tag == f.tag) s.seam.fetches } }

/-- Messages are returned to their issuers as failed: no port is up to the partner. Fetches get no data, claims end, and what was not
written at the partner is marked in the resync map; mirroring is suspended while the management path still shows the partner. -/
def failMessages (lost : List SeamMsg) (s : State) : State :=
  let writes := (lost.filter (fun m => m.mtype == 1 || m.mtype == 2)).flatMap (fun m => [spanOf m.line, spanOf (m.line + m.n - 1)])
  let s1 := each writes.eraseDups markSpan { s with seam := { s.seam with claims := [], claimWaits := [], answered := [], applying := [] } }
  let fetches := s1.seam.fetches.filter (fun f => f.got.isNone)
  let s2 := each fetches (fun f s => fetchFails f (closeFetch f s)) s1
  if servesTandem s2 ∧ (s2.pair.mirror = 0 ∨ s2.pair.mirror = 2) ∧ mgmtShows s2 = true then suspendMirror s2 else s2

/-- A port stops carrying frames and takes state `st`: its messages without replies are sent again on the other port in order if that one
is up, keeping their TAGs, and then those that had waited for room; else they fail. -/
def closePort (p st cause : Nat) (s : State) : State :=
  let q := seamOf s p
  let s1 := modSeam p (fun q => { st := st, cause := cause, partner := q.partner, flight := q.flight, rxBad := q.rxBad, txBad := q.txBad
                                  nextTag := q.nextTag, hseq := q.hseq, prbs := q.prbs }) s
  if !(q.st == 3 || q.st == 4) then s1
  else if portUp s1 (1 - p) then
    each q.outbox (putMsg (1 - p)) (each q.unanswered (fun m s => putMsg (1 - p) m (rinc Obj.SEAM_MSG_RESENT 0 s))
      { s1 with seam := { s1.seam with applying := s1.seam.applying.filter (fun a => a.1 != p) } })
  else failMessages (q.unanswered ++ q.outbox) s1

/-- A port enters DOWN (Table 14.2). -/
def linkGoesDown (p cause : Nat) (s : State) : State := closePort p 5 cause (rinc Obj.SEAM_RETRAINS p s)

/-! ## Lanes (R332 to R335) -/

/-- The event of one physical receive lane feeds its bucket. -/
def laneEvent (p lane : Nat) (s : State) : State :=
  bucketEvent 0x30 (p * 36 + lane) 1 none 0 (rinc Obj.SEAM_LANE_ERRORS (p * 18 + lane) s)

/-- A spare of the receive direction that is good: 0 and 1 stand at 16 and 17 of the lane map. An x8 link has none (R335). -/
def goodSpare (q : SeamPort) : Option Nat :=
  if q.st ≠ 3 then none
  else [0, 1].find? (fun k => decide (q.rxMap.getD (16 + k) 31 < 18) && !q.rxBad.contains (q.rxMap.getD (16 + k) 31))

/-- Send the message of a spare replacement: OP 1 REQ, 2 CONF, 3 DONE. -/
def sendSpare (p lane spare op sseq : Nat) (s : State) : State :=
  sendCtrl p { spare := some (lane, spare, op, sseq) } false false s

/-- Act on lanes past their threshold: a spare is marked failed; a logical lane is replaced, one at a time in a port, or the link goes
down for want of a spare. -/
def settleLanes (s : State) : State :=
  each s.seam.spareDue (fun inst s =>
    let p := inst / 36
    let lane := inst % 36
    let q := seamOf s p
    let done (s : State) : State := { s with seam := { s.seam with spareDue := s.seam.spareDue.erase inst } }
    if 18 ≤ lane ∨ !portUp s p then done s
    else
      let k := q.rxMap.idxOf lane
      if 16 ≤ k then done (modSeam p (fun q => { q with rxBad := lane :: q.rxBad }) s)
      else if q.width = 8 ∧ 8 ≤ k then done s
      else match goodSpare q with
        | none => linkGoesDown p 4 (done s)
        | some sp =>
          match q.swap with
          | some w =>
            if w.confirmed then
              let n := (q.sseq + 1) % 256
              done (sendSpare p k sp 1 n (modSeam p (fun q => { q with sseq := n, swap := some ⟨k, sp, n, false⟩ }) s))
            else s
          | none =>
            let n := (q.sseq + 1) % 256
            done (sendSpare p k sp 1 n (modSeam p (fun q => { q with sseq := n, swap := some ⟨k, sp, n, false⟩ }) s))) s

/-! ## Receiving frames (R326, R329, R330, R332) -/

/-- A received frame's header (Table 14.3). -/
structure FrameHead where
  kind : Nat
  vc : Nat
  fseq : Nat
  ackseq : Nat
  ackv : Bool
  nak : Bool
  sop : Bool
  eop : Bool
  used : Nat
  ncell : Nat

def frameHead (f : List Byte) : FrameHead :=
  let h := leNat (f.take 8)
  ⟨bits h 0 4, bits h 4 2, bits h 6 12, bits h 18 12, bit h 30, bit h 31, bit h 32, bit h 33, bits h 34 8, bits h 42 3⟩

/-- FCRC, KIND and the field combination hold: a CELL frame carries 1 to 5 cells of VC 0 or 1 with USED to match, a DATA frame 1 to 240
bytes of VC 2 or 3. -/
def frameGood (f : List Byte) : Bool :=
  let h := frameHead f
  f.length == 256 && leNat (f.drop 248) == crc64 (f.take 248) &&
    (match h.kind with
     | 0 | 3 => true
     | 1 => decide (1 ≤ h.ncell) && decide (h.ncell ≤ 5) && h.used == 48 * h.ncell && decide (h.vc ≤ 1)
     | 2 => decide (1 ≤ h.used) && decide (h.used ≤ 240) && decide (2 ≤ h.vc)
     | _ => false)

/-- Ask for a replay, once until the expected frame comes (R330). -/
def askReplay (p : Nat) (s : State) : State :=
  if (seamOf s p).nakOut then s
  else rinc Obj.SEAM_NAKS_SENT p (sendCtrl p {} true true (modSeam p (fun q => { q with nakOut := true }) s))

/-- Replay every unacknowledged frame in order. A frame that has been replayed 4 times already takes the link down. -/
def replayAll (p : Nat) (s : State) : State :=
  let q := seamOf s p
  if q.replay.any (fun r => decide (4 ≤ r.2)) then linkGoesDown p 3 s
  else each q.replay (fun r s => rinc Obj.SEAM_FRAMES_TX p (rinc Obj.SEAM_REPLAYS p
      (emit (.seamFrame p r.1 (ackSeq (seamOf s p)) false false) s)))
    (modSeam p (fun q => { q with replay := q.replay.map (fun r => (r.1, r.2 + 1)) }) s)

/-- Drop the frames up to and including ACKSEQ from the replay buffer. -/
def ackFrames (p ackseq : Nat) (s : State) : State :=
  let q := seamOf s p
  if q.replay.any (fun r => r.1.fseq == ackseq) then
    pump p (modSeam p (fun q => { q with replay := (q.replay.dropWhile (fun r => r.1.fseq != ackseq)).drop 1 }) s)
  else s

/-- The acknowledgement fields of a header. A NAK asks for the frames after ACKSEQ, so it acknowledges the rest. -/
def takeAck (p : Nat) (h : FrameHead) (s : State) : State :=
  let s1 := if h.ackv || h.nak then ackFrames p h.ackseq s else s
  if h.nak then replayAll p s1 else s1

/-- The physical receive lane of frame byte `b` (R326). -/
def laneOfByte (q : SeamPort) (b : Nat) : Nat := q.rxMap.getD (b % (if q.width = 8 then 8 else 16)) 31

/-- A byte that a replay leaves as it was: not the acknowledgement fields of the header, nor FCRC, which covers them. -/
def keptByte (b : Nat) : Bool := b != 2 && b != 3 && decide (b < 248)

/-- A spoiled frame and a later one are copies: KIND, VC and FSEQ agree, or all after the header does. -/
def sameFrame (a b : List Byte) : Bool := (a.take 2 == b.take 2) || (a.drop 8).take 240 == (b.drop 8).take 240

/-- The replayed copy of the frame discarded for FCRC has passed: lanes whose bytes differ are blamed (R332). -/
def blameLanes (p : Nat) (good : List Byte) (s : State) : State :=
  match (seamOf s p).spoiled with
  | none => s
  | some (_, bad) =>
    let s1 := modSeam p (fun q => { q with spoiled := none }) s
    if !sameFrame bad good then s1
    else
      let q := seamOf s p
      let lanes := ((List.range 248).filter (fun b => keptByte b && bad[b]? != good[b]?)).map (laneOfByte q)
      each (lanes.eraseDups.filter (· < 18)) (fun l s => laneEvent p l s) s1

/-- The VC a message type travels on (Table 14.8). -/
def msgVc (mtype : Nat) : Option Nat :=
  match mtype with
  | 1 | 2 => some 2
  | 3 | 6 | 8 | 10 => some 1
  | 4 | 7 | 9 => some 0
  | 5 => some 3
  | _ => none

/-- A message may be delivered: an assigned type on its VC, and with no pair configured only pair messages (R325, R336). -/
def msgTakes (s : State) (mtype vc : Nat) : Bool := msgVc mtype == some vc && (pairConfigured s || mtype == 9 || mtype == 10)

/-- Put a received message in the port's inbox, or discard and count it; its frames are freed when it is taken. -/
def deliver (p : Nat) (m : SeamMsg) (frames : Nat) (s : State) : State :=
  if msgTakes s m.mtype m.vc then modSeam p (fun q => { q with inbox := q.inbox ++ [(m, frames)] }) s
  else freeBuf p m.vc frames (rinc Obj.SEAM_MSG_REFUSED 0 s)

/-- The cells of a CELL frame; the frame is freed with its last cell. -/
def deliverCells (p vc : Nat) : Nat → List Byte → State → State
  | 0, _, s => s
  | n + 1, bs, s =>
    let h := leNat (bs.take 8)
    deliverCells p vc n (bs.drop 48)
      (deliver p ⟨bits h 0 5, vc, bits h 5 16, 0, 0, 0, (bs.drop 8).take 40⟩ (if n = 0 then 1 else 0) s)

/-- A long message whose last frame has come (Table 14.7). Its length must be the one its header gives. -/
def deliverLong (p vc : Nat) (bs : List Byte) (s : State) : State :=
  let h := leNat (bs.take 16)
  let mtype := bits h 0 5
  let lenm1 := bits h 21 12
  let n := if mtype = 2 then lenm1 + 1 else (lenm1 + 1) / 64
  let body := bs.drop 16
  let frames := (bs.length + 239) / 240
  if 16 ≤ bs.length ∧ body.length = (if mtype = 2 then 0 else 64 * n) ∧ (mtype = 2 ∨ (lenm1 + 1) % 64 = 0) then
    deliver p ⟨mtype, vc, bits h 5 16, bits h 48 43, n, bits h 96 32, body⟩ frames s
  else freeBuf p vc frames (rinc Obj.SEAM_MSG_REFUSED 0 s)

/-- What an accepted sequenced frame carries. -/
def unpack (p : Nat) (h : FrameHead) (f : List Byte) (s : State) : State :=
  let body := (f.drop 8).take h.used
  if h.kind = 1 then deliverCells p h.vc h.ncell body s
  else
    let part := if h.sop then body else tget [] (seamOf s p).part h.vc ++ body
    let keep (l : List Byte) (s : State) : State := modSeam p (fun q => { q with part := tput [] q.part h.vc l }) s
    if h.eop then deliverLong p h.vc part (keep [] s) else keep part s

/-- A sequenced frame: the one expected is accepted, acknowledged after SEAM_ACK_COALESCE of them; another one is discarded. -/
def acceptFrame (p : Nat) (h : FrameHead) (f : List Byte) (s : State) : State :=
  if h.fseq ≠ (seamOf s p).rxNext then askReplay p s
  else
    let s1 := rinc Obj.SEAM_FRAMES_RX p (modSeam p (fun q => { q with
      rxNext := (q.rxNext + 1) % 4096, unacked := q.unacked + 1, nakOut := false }) s)
    let s2 := unpack p h f (blameLanes p f s1)
    if rget Obj.SEAM_ACK_COALESCE p s2 ≤ (seamOf s2 p).unacked then sendCtrl p {} true false s2 else s2

/-- A frame arrives (R326): a bad one is discarded whole, counted, kept for comparison and asked for again. A good one's header
acknowledges, and what it carries is accepted by `take`. Anything that passes shows the partner alive (R363). -/
def receiveFrame (p kind : Nat) (f : List Byte) (take : FrameHead → State → State) (s : State) : State :=
  if !portUp s p then s
  else if !frameGood f then
    settleLanes (askReplay p (modSeam p (fun q => { q with spoiled := some (q.rxNext, f) }) (rinc Obj.SEAM_CRC_ERRORS p s)))
  else
    let h := frameHead f
    if h.kind ≠ kind then s
    else
      let s1 := takeAck p h (if pairConfigured s then heardPartner true s else s)
      if portUp s1 p then settleLanes (take h s1) else s1

/-! ## Taking messages -/

/-- The oldest message of a port's inbox that `p` picks, and the state without it, its frames freed. -/
def takeSeam (port : Nat) (p : SeamMsg → Bool) (s : State) : Option (SeamMsg × State) :=
  match (seamOf s port).inbox.find? (fun m => p m.1) with
  | none => none
  | some (m, n) =>
    some (m, freeBuf port m.vc n (modSeam port (fun q => { q with inbox := dropFirst (fun x => p x.1) q.inbox }) s))

/-- The request of a TAG that has no reply yet, on the port it was sent on. -/
def requestOf (s : State) (tag : Nat) : Option (Nat × SeamMsg) :=
  match (seamOf s 0).unanswered.find? (fun m => m.tag == tag) with
  | some m => some (0, m)
  | none => ((seamOf s 1).unanswered.find? (fun m => m.tag == tag)).map (fun m => (1, m))

/-- The request of a TAG has its reply: it is dropped and a waiting message takes its room. -/
def settleRequest (tag : Nat) (s : State) : State :=
  let one (p : Nat) (s : State) : State :=
    drainOutbox 2048 p (modSeam p (fun q => { q with unanswered := q.unanswered.filter (fun m => m.tag != tag) }) s)
  one 1 (one 0 s)

end Sys2Proof.Machine
end

