-- ==== Sys2Proof/Machine/SeamMsgs.lean ====
section
/-! DEFINITION. Messages of the Seam link (R336 to R339, R361, R362, R367): mirror writes, fetches and claims. -/

namespace Sys2Proof.Machine

/-! ## Claims (R339) -/

/-- CLAIM payload (Table 14.9). -/
def claimPayload (s : State) (first count : Nat) : List Byte :=
  natLE 4 s.pair.claim ++ natLE 8 (ownUnit s) ++ natLE 8 first ++ natLE 8 count

/-- CLAIM_ACK payload. -/
def claimAckPayload (status wclaim wunit wtag first count : Nat) : List Byte :=
  natLE 4 status ++ natLE 4 wclaim ++ natLE 8 wunit ++ natLE 4 wtag ++ natLE 8 first ++ natLE 8 count

/-- Two tile ranges share a tile. -/
def overlaps (f1 c1 f2 c2 : Nat) : Bool := decide (f1 < f2 + c2) && decide (f2 < f1 + c1)

/-- A mirror write or transfer write of the range has no MACK yet. -/
def writesOpen (s : State) (first count : Nat) : Bool :=
  [0, 1].any (fun p => ((seamOf s p).unanswered ++ (seamOf s p).outbox).any (fun m =>
    (m.mtype == 1 || m.mtype == 2) && decide (first ≤ tileOfLine m.line) && decide (tileOfLine m.line < first + count)))

/-- Every tile of a range lies in a tandem region. -/
def rangeTandem (s : State) (first count : Nat) : Bool :=
  decide (0 < count) && (List.range ((first + count - 1) / tilesPerGib + 1 - first / tilesPerGib)).all (fun g =>
    match regionAtGib s (g + first / tilesPerGib) with
    | none => false
    | some r => (regionOf s r).cls == 2)

/-- Send a claim that waits, once no earlier write of its range is without its MACK. -/
def sendClaim (i : Nat) (s : State) : State :=
  match s.seam.claims[i]?, lowPort s with
  | some c, some p =>
    if c.st = 0 ∧ writesOpen s c.first c.count = false then
      let tag := tagOnPort s p
      rinc Obj.SEAM_CLAIMS_SENT 0 (sendMsg p ⟨7, 0, 0, 0, 0, 0, claimPayload s c.first c.count⟩
        { s with seam := { s.seam with claims := s.seam.claims.set i { c with tag := tag, st := 1 } } })
    else s
  | _, _ => s

/-- Send one line of a transfer, as MWRITE or MPOISON. -/
def sendLine (p line : Nat) (s : State) : State :=
  let d := lineNow s line
  sendMsg p (if d.2 then ⟨2, 2, 0, line, 1, s.pair.claim, []⟩ else ⟨1, 2, 0, line, 1, s.pair.claim, d.1⟩) s

/-- Send one chunk of a transfer: one MWRITE, or line by line when it holds poison. -/
def sendChunk (p line : Nat) (s : State) : State :=
  let lines := (List.range 64).map (· + line)
  if lines.any (fun l => (lineNow s l).2) then each lines (sendLine p) s
  else sendMsg p ⟨1, 2, 0, line, 64, s.pair.claim, lines.flatMap (fun l => (lineNow s l).1)⟩ s

/-- The transfer of a granted claim: every chunk of its tiles, each on its tile's port. -/
def sendTransfer (first count : Nat) (s : State) : State :=
  each (List.range (count * 16)) (fun k s =>
    match portOfTile s (first + k / 16) with
    | some p => sendChunk p (first * 1024 + k * 64) s
    | none => s) s

/-- Answer a claim, and keep the answer for a duplicate. -/
def answerClaim (p tag unit : Nat) (payload : List Byte) (s : State) : State :=
  putMsg p ⟨8, 1, tag, 0, 0, 0, payload⟩
    { s with seam := { s.seam with answered := (tag, unit, payload) :: s.seam.answered } }

/-- A claim is granted: the claimant's range is written by its transfer. -/
def grantClaim (p tag unit claim first count : Nat) (s : State) : State :=
  let s1 := if s.pair.role = 3 then { s with pair := { s.pair with mirror := 2 } } else s
  answerClaim p tag unit (claimAckPayload 0 claim unit tag first count) s1

/-- A transfer has ended when every write of its range has its MACK: its spans leave the resync map, claims that waited for it are
granted, and with the map empty mirroring becomes active (R367). -/
def endTransfers (s : State) : State :=
  each (s.seam.claims.filter (fun c => c.st == 2 && !writesOpen s c.first c.count)) (fun c s =>
    let inRange (sp : Nat) : Bool := decide (c.first ≤ sp * 1024) && decide ((sp + 1) * 1024 ≤ c.first + c.count)
    let s1 := { s with
      pair := { s.pair with resync := s.pair.resync.filter (fun sp => !inRange sp) }
      seam := { s.seam with claims := dropFirst (fun x => x.tag == c.tag && x.st == 2) s.seam.claims } }
    let due := s1.seam.claimWaits.filter (fun w => overlaps c.first c.count w.2.2.2.2.1 w.2.2.2.2.2)
    let s2 := each due (fun w s => grantClaim w.1 w.2.1 w.2.2.1 w.2.2.2.1 w.2.2.2.2.1 w.2.2.2.2.2 s)
      { s1 with seam := { s1.seam with claimWaits := s1.seam.claimWaits.filter (fun w => !due.contains w) } }
    if s2.pair.mirror = 2 then startMirror s2 else s2) s

/-- A handover waits for every MACK and then asks the partner (R366). -/
def handOn (s : State) : State :=
  if s.pair.handover = 1 ∧ s.pair.unmacked = [] ∧ !([0, 1].any (fun p => ((seamOf s p).unanswered ++ (seamOf s p).outbox).any (fun m =>
      m.mtype == 1 || m.mtype == 2))) then
    pairReq 3 0 0 0 true { s with pair := { s.pair with handover := 2 } }
  else s

/-- What the end of a mirror write lets go on. -/
def afterMack (s : State) : State :=
  let s1 := handOn (endTransfers s)
  each (List.range s1.seam.claims.length) sendClaim s1

/-- RESYNC_CLAIM: the unit claims a marked span (R367). A span that a claim already covers is not claimed again. -/
def execResyncClaim (span : Nat) (s : State) : Answer :=
  if servesTandem s && s.pair.mirror == 2 && s.pair.resync.contains span
      && !s.seam.claims.any (fun c => overlaps c.first c.count (span * 1024) 1024) then
    .next (sendClaim s.seam.claims.length { s with seam := { s.seam with claims := s.seam.claims ++ [⟨65536, span * 1024, 1024, 0⟩] } })
  else .next s

/-- CLAIM arrives: the answer of Table 14.10, and what the receiver then does. A duplicate gets the same answer again. -/
def takeClaimMsg (p : Nat) (m : SeamMsg) (s : State) : State :=
  let claim := leNat (m.bytes.take 4)
  let unit := leNat ((m.bytes.drop 4).take 8)
  let first := bits (leNat ((m.bytes.drop 12).take 5)) 0 33
  let count := leNat ((m.bytes.drop 20).take 5)
  match s.seam.answered.find? (fun a => a.1 == m.tag && a.2.1 == unit) with
  | some a => putMsg p ⟨8, 1, m.tag, 0, 0, 0, a.2.2⟩ s
  | none =>
    if !rangeTandem s first count || !pairMatched s then answerClaim p m.tag unit (claimAckPayload 2 claim unit m.tag first count) s
    else match s.seam.claims.find? (fun c => overlaps c.first c.count first count && c.st != 0 && c.st != 3) with
      | none => grantClaim p m.tag unit claim first count s
      | some c =>
        if c.st = 2 then { s with seam := { s.seam with claimWaits := s.seam.claimWaits ++ [(p, m.tag, unit, claim, first, count)] } }
        else if beats claim unit s.pair.claim (ownUnit s) then
          let l := s.seam.claims.map (fun x => if x.st = 1 ∧ overlaps x.first x.count first count = true then { x with st := 3 } else x)
          grantClaim p m.tag unit claim first count { s with seam := { s.seam with claims := l } }
        else
          let f := min first c.first
          let n := max (first + count) (c.first + c.count) - f
          let l := s.seam.claims.map (fun x => if x.tag = c.tag then { x with first := f, count := n } else x)
          answerClaim p m.tag unit (claimAckPayload 1 s.pair.claim (ownUnit s) c.tag f n)
            (rinc Obj.SEAM_CLAIMS_WON 0 { s with seam := { s.seam with claims := l } })

/-- CLAIM. -/
def execClaim (port : Nat) (s : State) : Answer :=
  match takeSeam port (fun m => m.mtype == 7) s with
  | none => .next s
  | some (m, s1) => .next (takeClaimMsg port m s1)

/-- CLAIM_ACK: a granted claim's transfer starts; FOLDED ends the claim; REFUSED leaves its range to be claimed again, and mirroring
suspended. The winning claim is the partner's when FOLDED (R362). -/
def execClaimAck (port : Nat) (s : State) : Answer :=
  match takeSeam port (fun m => m.mtype == 8) s with
  | none => .next s
  | some (m, s1) =>
    let status := leNat (m.bytes.take 1)
    let s2 := settleRequest m.tag s1
    match s2.seam.claims.find? (fun c => c.tag == m.tag && (c.st == 1 || c.st == 3)) with
    | none => .next s2
    | some c =>
      let s3 := { s2 with seam := { s2.seam with claims := dropFirst (fun x => x.tag == m.tag) s2.seam.claims } }
      if status = 0 ∧ c.st = 1 then
        .next (afterMack (sendTransfer c.first c.count
          { s3 with seam := { s3.seam with claims := s3.seam.claims ++ [{ c with st := 2 }] } }))
      else if status = 1 then
        .next (learnClaim (leNat ((m.bytes.drop 4).take 4)) (leNat ((m.bytes.drop 8).take 8)) (rinc Obj.SEAM_CLAIMS_FOLDED 0 s3))
      else if status = 2 then .next (suspendMirror s3)
      else .next s3

/-! ## Mirror writes (R336, R361, R362, R461) -/

/-- This unit executes a partner's write: the sender's claim beats its own, or the overlap window is open (R362, R365). -/
def takesWrites (claim : Nat) (s : State) : Bool :=
  beats claim (partnerUnit s) s.pair.claim (ownUnit s) || decide (now s < s.pair.overlapUntil)

/-- MACK status of a received MWRITE or MPOISON: 2 outside every tandem region, 1 refused for claim, 3 mirroring suspended, in limp
mode or while keys differ; 0 it is applied. -/
def writeStatus (m : SeamMsg) (s : State) : Nat :=
  if (msgLines m).any (fun l => !tandemLine s l) then 2
  else if !takesWrites m.claim s then 1
  else if rget Obj.FW_STATE 0 s = 2 ∨ rget Obj.PAIR_KEY_MATCH 0 s = 0 then 3
  else 0

/-- Apply a received write line by line as device writes; its MACK leaves when every line is in its home slice's write queue. -/
def applyWrite (p : Nat) (m : SeamMsg) (s : State) : State :=
  let u := seamBase + m.tag * 2 + p
  let req (k : Nat) : Req := ⟨.dev u, none, m.line + k,
    .devWrite (if m.mtype = 2 then List.replicate 64 0 else (m.bytes.drop (k * 64)).take 64) fullMask (m.mtype == 2), 0xFF, 0, false, 0, 0, now s, .cmp⟩
  each (List.range m.n) (fun k s => homeRequest (req k) s)
    { s with seam := { s.seam with applying := s.seam.applying ++ [(p, m.tag, m.n)] } }

/-- A received write: applied, or answered at once with its status. Its sender's claim is the partner's last known one. -/
def takeWrite (port mtype : Nat) (s : State) : State :=
  match takeSeam port (fun m => m.mtype == mtype) s with
  | none => s
  | some (m, s1) =>
    let st := writeStatus m s1
    if st = 0 then applyWrite port m s1 else sendMack port m.tag st s1

/-- MWRITE. -/
def execMwrite (port : Nat) (s : State) : Answer := .next (takeWrite port 1 s)

/-- MPOISON. -/
def execMpoison (port : Nat) (s : State) : Answer := .next (takeWrite port 2 s)

/-- MACK: status 0 completes the host write that waits for it; 1 tells a higher claim; 2 and 3 suspend mirroring, with the message's
spans marked. The claim it carries is learnt last, so that a write applied in the overlap window completes before the unit steps
down (R362, R365). -/
def execMack (port : Nat) (s : State) : Answer :=
  match takeSeam port (fun m => m.mtype == 3) s with
  | none => .next s
  | some (m, s1) =>
    let status := leNat (m.bytes.take 1)
    let spans := match requestOf s1 m.tag with
      | some r => [spanOf r.2.line, spanOf (r.2.line + r.2.n - 1)]
      | none => []
    let mine (u : Nat × Nat × Option Req) : Bool := u.2.1 == m.tag
    let s2 := if status = 0 then completeWrites mine (settleRequest m.tag s1)
      else if status = 1 then settleRequest m.tag s1
      else suspendMirror (each spans.eraseDups markSpan (settleRequest m.tag s1))
    let s3 := learnClaim (leNat ((m.bytes.drop 4).take 4)) (partnerUnit s2) s2
    .next (afterMack (if status = 1 ∧ servesTandem s3 = true then suspendMirror (each spans.eraseDups markSpan s3) else s3))

/-! ## Fetches (R336) -/

/-- What answers a FETCH: FNAK status 2 outside a tandem region, 1 with a copy that is not current or for a partner whose claim does
not beat the own one (R362), 0 with poison; else none. -/
def fetchRefusal (s : State) (line n : Nat) : Option Nat :=
  let lines := (List.range n).map (· + line)
  if n = 0 ∨ 64 < n ∨ line / 64 ≠ (line + n - 1) / 64 ∨ lines.any (fun l => !tandemLine s l) = true then some 2
  else if s.pair.role = 0 ∨ s.pair.role = 3 ∨ beats s.pair.partnerClaim (partnerUnit s) s.pair.claim (ownUnit s) = false then some 1
  else if lines.any (fun l => (lineNow s l).2) then some 0
  else none

/-- FETCH: answered by FDATA with the lines, or by FNAK. -/
def execFetch (port : Nat) (s : State) : Answer :=
  match takeSeam port (fun m => m.mtype == 4) s with
  | none => .next s
  | some (m, s1) =>
    let line := bits (leNat (m.bytes.take 8)) 0 43
    let n := leNat ((m.bytes.drop 8).take 2)
    match fetchRefusal s1 line n with
    | some why => .next (putMsg port ⟨6, 1, m.tag, 0, 0, 0, natLE 1 why⟩ s1)
    | none => .next (putMsg port ⟨5, 3, m.tag, line, n, 0, ((List.range n).map (· + line)).flatMap (fun l => (lineNow s1 l).1)⟩ s1)

/-- The data of line `l` in a fetch's answer. -/
def fetchedLine (f : Fetch) (bytes : List Byte) (l : Nat) : List Byte := (bytes.drop ((l - f.line) * 64)).take 64

/-- FDATA: lines are repaired from the partner (R258 source 3), put in place at a lost tile's new home, or kept for a checksum failure
until the whole tile has come. -/
def execFdata (port : Nat) (s : State) : Answer :=
  match takeSeam port (fun m => m.mtype == 5) s with
  | none => .next s
  | some (m, s1) =>
    let s2 := settleRequest m.tag s1
    match s2.seam.fetches.find? (fun f => f.tag == m.tag) with
    | none => .next s2
    | some f =>
      let s3 := closeFetch f s2
      let put (l : Nat) (s : State) : State := restoreLine l (fetchedLine f m.bytes l) false s
      match f.why with
      | .repair => .next (wake (each f.want (fun l s => repaired (homeOf s (tileOfLine l)) l 4 (put l s)) s3))
      | .lost => .next (wake (each f.want put s3))
      | .seal =>
        let l := modFirst (fun g => g.tag == m.tag) (fun g => { g with got := some m.bytes }) s3.seam.fetches
        .next (sealFetched (tileOfLine f.line) { s3 with seam := { s3.seam with fetches := l } })

/-- FNAK: the fetch gets no data. -/
def execFnak (port : Nat) (s : State) : Answer :=
  match takeSeam port (fun m => m.mtype == 6) s with
  | none => .next s
  | some (m, s1) =>
    let s2 := settleRequest m.tag s1
    match s2.seam.fetches.find? (fun f => f.tag == m.tag) with
    | none => .next s2
    | some f => .next (fetchFails f (closeFetch f s2))

end Sys2Proof.Machine
end

