-- ==== Sys2Proof/Machine/Pair.lean ====
section
/-! DEFINITION. The crossing pair's messages, timers and commands (R359 to R370, R441, R442, R462). -/

namespace Sys2Proof.Machine

/-! ## Pair messages (R370) -/

/-- A pair message (Table 15.10), without its UNIT's own path. -/
structure PairMsg where
  op : Nat
  role : Nat
  status : Nat
  claim : Nat
  unit : Nat
  time : Nat
  arg1 : Nat
  arg2 : Nat

/-- Read the 40 bytes of Table 15.10. -/
def pairMsg (b : List Byte) : PairMsg :=
  let f (at_ n : Nat) : Nat := leNat ((b.drop at_).take n)
  ⟨f 0 1, f 1 1, f 2 1, f 4 4, f 8 8, f 16 6, f 24 8, f 32 8⟩

/-- Answer a pair request on the path it came on: a Seam port and TAG, or the management path. -/
def pairAnswer (via : Option (Nat × Nat)) (op status time arg1 arg2 : Nat) (s : State) : State :=
  let bytes := pairPayload s op status time arg1 arg2
  match via with
  | some (p, tag) => putMsg p ⟨10, 1, tag, 0, 0, 0, bytes⟩ s
  | none => if mgmtOpen s then emit (.pairMgmtRsp bytes) s else s

/-- Send the record of every tandem region to the partner (R360). -/
def sendRegions (s : State) : State :=
  if servesTandem s then
    each (tandemRegions s) (fun n s =>
      let g := regionOf s n
      pairReq 6 0 (g.size + g.base * 2 ^ 19 + 2 * 2 ^ 38 + g.owner * 2 ^ 40 + b2n g.world * 2 ^ 46 + b2n g.share * 2 ^ 47
        + g.privLd * 2 ^ 48) n false s) s
  else s

/-- JOIN (R359, R442, R462): the key check and firmware set of the partner, roles, and mirroring. -/
def pairJoin (m : PairMsg) (via : Option (Nat × Nat)) (s : State) : State :=
  let keyOk := rget Obj.PAIR_SECRET 0 s != 0 && m.arg1 == pairKeyCheck s
  let s1 := rset Obj.PAIR_KEY_MATCH 0 (b2n keyOk) (rset Obj.FW_PARTNER_SET_ID 0 m.arg2
    { s with pair := { s.pair with partnerSet := m.arg2, partnerClaim := m.claim } })
  let s2 := checkMirror (notePartner m.role m.claim m.unit (formRoles m.role m.unit s1))
  let s3 := pairAnswer via 1 (if keyOk then 0 else 2) 0 0 0 s2
  if keyOk then sendRegions s3 else s3

/-- LEASE (R364): a STANDBY or STALE unit with the lower claim echoes the time. A unit in TAKING sends no echo. -/
def pairLease (m : PairMsg) (via : Option (Nat × Nat)) (s : State) : State :=
  let s1 := notePartner m.role m.claim m.unit s
  if s1.pair.role = 5 then s1
  else if (s1.pair.role = 2 ∨ s1.pair.role = 3) ∧ beats m.claim m.unit s1.pair.claim (ownUnit s1) = true then
    pairAnswer via 2 0 m.time 0 0 { s1 with pair := { s1.pair with lastEcho := now s1 } }
  else pairAnswer via 2 1 m.time 0 0 s1

/-- HANDOVER (R366): a STANDBY unit takes a claim, answers, and becomes PRIMARY. -/
def pairHandover (m : PairMsg) (via : Option (Nat × Nat)) (s : State) : State :=
  let s1 := notePartner m.role m.claim m.unit s
  if !beats m.claim m.unit s1.pair.claim (ownUnit s1) then pairAnswer via 3 1 0 0 0 s1
  else if s1.pair.role ≠ 2 then pairAnswer via 3 2 0 0 0 s1
  else match takeClaim s1 with
    | none => pairAnswer via 3 2 0 0 0 s1
    | some s2 =>
      let s3 := setRole 1 { s2 with pair := { s2.pair with mirror := 0, partnerRole := 3 } }
      releaseTandem (offerTandem (pairAnswer via 3 0 0 0 0 s3))

/-- TAKEOVER (R366): the partner's new claim makes a serving unit step down. -/
def pairTakeover (m : PairMsg) (via : Option (Nat × Nat)) (s : State) : State :=
  pairAnswer via 4 0 0 0 0 (notePartner m.role m.claim m.unit s)

/-- STEPDOWN (R362, R364, R367): its spans are resynchronised, and a unit in TAKING begins to serve. -/
def pairStepdown (m : PairMsg) (via : Option (Nat × Nat)) (s : State) : State :=
  let serving := s.pair.role == 1 || s.pair.role == 4 || s.pair.role == 5
  let s1 := if serving then each ((List.range m.arg2).map (· + m.arg1)) markSpan s else s
  let s2 := notePartner m.role m.claim m.unit s1
  pairAnswer via 5 0 0 0 0 (if s2.pair.role = 5 then serveNow s2 else s2)

/-- REGION (R360): a tandem region is created on the partner under the same number, or with ARG1 0 removed. -/
def pairRegion (m : PairMsg) (via : Option (Nat × Nat)) (s : State) : State :=
  let s1 := notePartner m.role m.claim m.unit s
  let n := m.arg2
  let g := regionOf s1 n
  if m.arg1 = 0 then
    pairAnswer via 6 0 0 0 0 (if g.st = 2 ∧ g.cls = 2 ∧ servesTandem s1 = false then startRemoval n s1 else s1)
  else
    let a := createArg m.arg1
    if g.st ≠ 0 then pairAnswer via 6 (if g.base = a.base ∧ g.size = a.size ∧ g.cls = 2 then 0 else 2) 0 0 0 s1
    else if 8192 ≤ n ∨ a.cls ≠ 2 ∨ a.size = 0 ∨ !rangeFree s1 a.base a.size then pairAnswer via 6 2 0 0 0 s1
    else
      let g' : Region := { st := 2, base := a.base, size := a.size, cls := 2, owner := a.owner, world := a.world, share := a.share,
                           privLd := a.privLd, chans := inService s1 }
      pairAnswer via 6 0 0 0 0 (modRegion n (fun _ => g') s1)

/-- CRC-32C of a tile's bytes as memory holds them now. -/
def tileNowCrc (s : State) (t : Nat) : Nat :=
  crc32c ((List.range 1024).flatMap (fun k => (lineNow s (t * 1024 + k)).1))

/-- VERIFY (R369): the CRC-32C of the own copy. -/
def pairVerify (m : PairMsg) (via : Option (Nat × Nat)) (s : State) : State :=
  let s1 := notePartner m.role m.claim m.unit s
  pairAnswer via 7 0 0 m.arg1 (tileNowCrc s1 m.arg1) s1

/-- A pair request of the partner: each OP by its rule. One from a unit that is not the configured partner is refused. -/
def takePairReq (m : PairMsg) (via : Option (Nat × Nat)) (s : State) : State :=
  if !pairConfigured s || m.unit != partnerUnit s then pairAnswer via m.op 2 m.time 0 0 s
  else match m.op with
    | 1 => pairJoin m via s
    | 2 => pairLease m via s
    | 3 => pairHandover m via s
    | 4 => pairTakeover m via s
    | 5 => pairStepdown m via s
    | 6 => pairRegion m via s
    | 7 => pairVerify m via s
    | _ => pairAnswer via m.op 2 0 0 0 s

/-- The result of a verification (R369): void when a write reached the tile in between; a mismatch marks its span and feeds SOURCE 0x80. -/
def endVerify (tile crc : Nat) (s : State) : State :=
  match s.pair.verify with
  | none => s
  | some v =>
    if v.1 ≠ tile then s
    else
      let s1 := { s with pair := { s.pair with verify := none }, hlt := { s.hlt with verifies := (s.hlt.verifies + 1) % 4294967296 } }
      if v.2 = crc then s1
      else startMirror (bucketEvent 0x80 0 1 (some (tile * 1024)) 0
        (rinc Obj.PAIR_VERIFY_FAILS 0 (markSpan (spanOf (tile * 1024)) s1)))

/-- A pair response completes its request. -/
def takePairRsp (m : PairMsg) (s : State) : State :=
  if !pairConfigured s || m.unit != partnerUnit s then s
  else match m.op with
    | 1 =>
      let s1 := if m.status = 2 then rset Obj.PAIR_KEY_MATCH 0 0 s else s
      let s2 := checkMirror (notePartner m.role m.claim m.unit (formRoles m.role m.unit
        { s1 with pair := { s1.pair with partnerClaim := m.claim } }))
      if m.status = 0 then sendRegions s2 else s2
    | 2 =>
      let s1 := notePartner m.role m.claim m.unit s
      if m.status = 0 then releaseTandem { s1 with pair := { s1.pair with leaseEnd := max s1.pair.leaseEnd (m.time + usTicks 50) } }
      else s1
    | 3 =>
      if s.pair.handover ≠ 2 then notePartner m.role m.claim m.unit s
      else if m.status = 0 then notePartner m.role m.claim m.unit { s with pair := { s.pair with resync := [] } }
      else releaseTandem (notePartner m.role m.claim m.unit { s with pair := { s.pair with handover := 0 } })
    | 7 => endVerify m.arg1 m.arg2 (notePartner m.role m.claim m.unit s)
    | _ => notePartner m.role m.claim m.unit s

/-- The oldest pair request of an OP in a port's inbox is handled. -/
def seamPairReq (port op : Nat) (s : State) : Answer :=
  match takeSeam port (fun m => m.mtype == 9 && (pairMsg m.bytes).op == op) s with
  | none => .next s
  | some (m, s1) => .next (takePairReq (pairMsg m.bytes) (some (port, m.tag)) s1)

def execPairJoin (port : Nat) (s : State) : Answer := seamPairReq port 1 s
def execPairLease (port : Nat) (s : State) : Answer := seamPairReq port 2 s
def execPairHandover (port : Nat) (s : State) : Answer := seamPairReq port 3 s
def execPairTakeover (port : Nat) (s : State) : Answer := seamPairReq port 4 s
def execPairStepdown (port : Nat) (s : State) : Answer := seamPairReq port 5 s
def execPairRegion (port : Nat) (s : State) : Answer := seamPairReq port 6 s
def execPairVerify (port : Nat) (s : State) : Answer := seamPairReq port 7 s

/-- PAIR_RSP on the Seam. -/
def execPairRsp (port : Nat) (s : State) : Answer :=
  match takeSeam port (fun m => m.mtype == 10) s with
  | none => .next s
  | some (m, s1) => .next (takePairRsp (pairMsg m.bytes) (settleRequest m.tag s1))

/-! ## Heartbeats, leases and silence (R363 to R366) -/

/-- A heartbeat of the partner on either path: its claim and health. -/
def takeHeartbeat (seam : Bool) (claim unit health : Nat) (s : State) : State :=
  if !pairConfigured s || unit != partnerUnit s then s
  else checkMirror (learnClaim claim unit (heardPartner seam { s with pair := { s.pair with partnerHealth := health } }))

/-- SEAM_HEARTBEAT: the HEARTBEAT of a CTRL frame. -/
def execSeamHeartbeat (port _hseq claim unit _time health : Nat) (s : State) : Answer :=
  if portUp s port then .next (takeHeartbeat true claim unit health s) else .next s

/-- Every 10 µs a configured unit sends heartbeats on every up port and on the management path, and a serving unit in exclusive mode
its LEASE. -/
def execPairHeartbeatSend (s : State) : Answer :=
  if !pairConfigured s then .next s
  else
    let health := leNat (s.hlt.health.take 4)
    let beat (p : Nat) (s : State) : State :=
      let n := ((seamOf s p).hseq + 1) % 256
      sendCtrl p { heartbeat := some (n, s.pair.claim, ownUnit s, now s, health) } false false (modSeam p (fun q => { q with hseq := n }) s)
    let s1 := each ([0, 1].filter (portUp s)) beat s
    let n := (s1.pair.hbSeq + 1) % 256
    let s2 := if mgmtOpen s1 then emit (.pairHb n s1.pair.claim (ownUnit s1) (now s1) health) { s1 with pair := { s1.pair with hbSeq := n } }
              else s1
    .next (if servesTandem s2 && rget Obj.PAIR_MODE 0 s2 == 0 && s2.pair.partnerSeen then pairReq 2 (now s2) 0 0 true s2 else s2)

/-- Nothing has come from the partner on either path for PAIR_HB_LOSS: a STANDBY unit takes over; a serving one goes on alone as SOLO,
or by policy HALT holds tandem requests. -/
def execPartnerSilent (s : State) : Answer :=
  if !pathSilent s s.pair.heardMgmt || !pathSilent s s.pair.heardSeam || s.pair.partnerSilent then .next s
  else
    let s1 := { s with pair := { s.pair with partnerSilent := true } }
    if s.pair.role = 2 then .next (takeover s1)
    else if servesTandem s then
      if rget Obj.PAIR_SILENCE_POLICY 0 s = 1 then .next { s1 with pair := { s1.pair with halted := true } }
      else .next (releaseTandem (setRole 4 (suspendMirror s1)))
    else .next s1

/-- The lease has run out: tandem requests wait from now on, which `tandemOpen` sees from the time. -/
def execLeaseLapse (s : State) : Answer := .next s

/-- A TAKING unit begins to serve: in exclusive mode 52.5 µs after its last echo, in overlap mode from its claim on (Table 15.9). -/
def execTakingServeStart (s : State) : Answer :=
  if s.pair.role = 5 ∧ (rget Obj.PAIR_MODE 0 s = 1 ∨ s.pair.lastEcho + 1313 ≤ now s) then .next (serveNow s) else .next s

/-- The overlap window's 50 µs have passed (R365). -/
def execOverlapWindowEnd (s : State) : Answer :=
  if s.pair.overlapUntil ≤ now s then .next { s with pair := { s.pair with overlapUntil := 0 } } else .next s

/-! ## Verification (R369) -/

/-- The next tandem tile in pool-offset order from `t` on, wrapping, whose writes all have their MACK. -/
def nextVerify (s : State) (t : Nat) : Option Nat :=
  let ranges := (s.regions.filter (fun p => p.2.st == 2 && p.2.cls == 2)).map (fun p =>
    (p.2.base * tilesPerGib, (p.2.base + p.2.size) * tilesPerGib))
  let sorted := ranges.mergeSort (fun a b => decide (a.1 ≤ b.1))
  let free (x : Nat) : Bool := !owesTile s 0 x && !owesTile s 1 x
  let pick (from_ : Nat) : Option Nat := sorted.findSome? (fun r =>
    if r.2 ≤ from_ then none else (List.range (min 4097 (r.2 - max r.1 from_))).findSome? (fun k =>
      if free (max r.1 from_ + k) then some (max r.1 from_ + k) else none))
  match pick t with
  | some x => some x
  | none => pick 0

/-- Every PAIR_VERIFY_PERIOD the primary checks the next tandem tile against the partner. -/
def execPairVerifyPeriod (s : State) : Answer :=
  if s.pair.role ≠ 1 ∨ s.pair.mirror ≠ 0 then .next s
  else match nextVerify s s.pair.verifyNext with
    | none => .next s
    | some t => .next (pairReq 7 0 t 0 false
        { s with pair := { s.pair with verifyNext := t + 1, verify := some (t, tileNowCrc s t) } })

/-! ## Commands -/

/-- PAIR_HANDOVER: the primary stops admitting tandem requests and hands over once every MACK has come. -/
def execPairHandoverCmd (w : Who) (s : State) : Answer :=
  command Obj.PAIR_HANDOVER w (fun s => setUnstated Obj.PAIR_HANDOVER w.path
    (if s.pair.role = 1 ∧ s.pair.handover = 0 then handOn { s with pair := { s.pair with handover := 1 } } else s)) s

/-- PAIR_FORCE_PRIMARY: a STALE or STANDBY unit takes over at once and serves its copy as it stands; a primary that HALT stopped goes
on as SOLO. -/
def execPairForcePrimary (w : Who) (s : State) : Answer :=
  command Obj.PAIR_FORCE_PRIMARY w (fun s => setUnstated Obj.PAIR_FORCE_PRIMARY w.path
    (if s.pair.role = 2 ∨ s.pair.role = 3 then takeover s
     else if s.pair.halted then releaseTandem (setRole 4 (suspendMirror { s with pair := { s.pair with halted := false } }))
     else s)) s

/-- The pair configuration changes (R325, R359): 0 unpairs the unit, a former primary running as SOLO and a former standby moving its
tandem regions to RETIRING; another unit is a new partner, which every span is marked for. -/
def setPartner (unit : Nat) (s : State) : State :=
  let old := partnerUnit s
  let s0 := rset Obj.PAIR_PARTNER_UNIT 0 unit s
  let s1 := each [0, 1] (fun p s =>
    let q := seamOf s p
    if q.st = 6 then modSeam p (fun q => { q with st := 1 }) s
    else if portUp s p && unit != 0 && q.partner != unit then closePort p 6 0 s
    else s) s0
  if unit = old then s1
  else
    let clear (s : State) : State := { s with pair := { s.pair with
      partnerSeen := false, partnerRole := 0, partnerSet := 0, partnerClaim := 0, partnerHealth := 0, heardMgmt := 0, heardSeam := 0
      partnerSilent := false, halted := false, handover := 0, verify := none } }
    if unit = 0 then
      let serving := servesTandem s1 || s1.pair.role == 5
      let s2 := clear (suspendMirror s1)
      let s3 := { s2 with pair := { s2.pair with mirror := 3, resync := [] } }
      if serving then releaseTandem (setRole 4 s3)
      else each (tandemRegions s3) startRemoval (setRole 0 s3)
    else
      let s2 := markTandem (clear (if servesTandem s1 then suspendMirror s1 else s1))
      sendJoin { s2 with pair := { s2.pair with mirror := if servesTandem s2 then 1 else s2.pair.mirror } }

/-- A write of PAIR_PARTNER_UNIT. -/
def execPairPartnerUnit (w : Who) (unit : Nat) (s : State) : Answer :=
  setStored Obj.PAIR_PARTNER_UNIT w (decide (unit < 2 ^ 64)) (setPartner unit) s

end Sys2Proof.Machine
end

