-- ==== Sys2Proof/Machine/Keys.lean ====
section
/-! DEFINITION. Keys and the life-cycle (R430 to R447): key records, rotation and its sweep, the pair secret, and the life-cycle
transitions. Key values are random and never leave the device; what the rules say of a copy is its slot and generation. -/

namespace Sys2Proof.Machine

/-! ## Key records (R435, R436, R440) -/

/-- Replace a berth's key record. -/
def setKey (b : Nat) (k : KeyRec) (s : State) : State := { s with keys := { s.keys with recs := tput {} s.keys.recs b k } }

/-- The next generation, which is never issued again (R435). -/
def drawGen (s : State) : Nat × State := (s.keys.nextGen, { s with keys := { s.keys with nextGen := s.keys.nextGen + 1 } })

/-- Keys exist in the life-cycle states between BLANK and VOID (Table 19.6). -/
def keysServed (s : State) : Bool := 1 ≤ rget Obj.LC_STATE 0 s && rget Obj.LC_STATE 0 s ≤ 3

/-- Creating a berth draws a key into slot A and writes the record STEADY (R436). -/
def createKey (b : Nat) (s : State) : State :=
  if !keysServed s then s
  else
    let (g, s1) := drawGen s
    setKey b { st := 1, genA := g } s1

/-- A slot takes a generation, 0 EMPTY. -/
def setSlot (slot g : Nat) (k : KeyRec) : KeyRec := if slot = 0 then { k with genA := g } else { k with genB := g }

/-! ## The sweep (R438) -/

/-- The slot that the rotation of a berth leaves. -/
def oldSlot (k : KeyRec) : Nat := 1 - k.active

/-- Place of a tile in the sweep's order: ascending region number and tile number. -/
def sweepPlace (r t : Nat) : Nat := r * 17179869184 + t

/-- Some tile of region `r` from `lo` up to but not including `hi` has a copy that names a slot: a listed tag entry or far copy, or a tile
of a reserving region that no tag entry lists. -/
def namesSlot (s : State) (r lo hi slot : Nat) : Bool :=
  let g := regionOf s r
  let n := hi - lo
  let near := trange s.ferry.tags lo n
  let apart := g.displaced.filter (fun t => decide (lo ≤ t) && decide (t < hi))
  near.any (fun p => p.2.st != 0 && p.2.kslot == slot)
    || (trange s.ferry.far lo n).any (fun p => p.2.kind == 1 && p.2.hdr.kslot == slot)
    || (reserving g && (g.st == 2 || g.st == 3) && g.kslot == slot
        && decide ((near.map (·.1) ++ apart).eraseDups.length < n))

/-- First tile and end of a region. -/
def regionTiles (g : Region) : Nat × Nat := (g.base * tilesPerGib, (g.base + g.size) * tilesPerGib)

/-- Some tile that the sweep of a berth comes to from place `a` up to but not including `b` names a slot. -/
def sweepMeets (s : State) (berth a b slot : Nat) : Bool :=
  (regionsOf s berth).any (fun r =>
    let (lo, hi) := regionTiles (regionOf s r)
    namesSlot s r (max lo (a - r * 17179869184)) (min hi (b - r * 17179869184)) slot)

/-- Tiles of a berth's regions at or past a place of the sweep. -/
def tilesFrom (s : State) (berth a : Nat) : Nat :=
  ((regionsOf s berth).map (fun r =>
    let (lo, hi) := regionTiles (regionOf s r)
    hi - max lo (a - r * 17179869184))).sum

/-- REKEY_LEFT (R438): tiles the running sweep has not visited. -/
def rekeyLeft (s : State) (berth : Nat) : Nat :=
  let k := keyOf s berth
  if k.st = 3 then tilesFrom s berth k.pos else 0

/-- KEY_ROTATE (R437): steps 1 to 4 of Table 19.4 are one with the command, whose status 0 posts at step 7. -/
def execKeyRotate (w : Who) (s : State) : Answer :=
  command Obj.KEY_ROTATE w (fun s =>
    let b := rget Obj.KEY_BERTH_SELECT w.path s
    let k := keyOf s b
    if k.st ≠ 1 then setWord Obj.KEY_ROTATE w.path 1 s
    else if (berthOf s b).st ≠ 1 then setWord Obj.KEY_ROTATE w.path 2 s
    else if !w.secure && (regionsOf s b).any (fun r => (regionOf s r).world) then setWord Obj.KEY_ROTATE w.path 3 s
    else
      let (g, s1) := drawGen s
      let slot := 1 - k.active
      setKey b { setSlot slot g k with st := 3, active := slot, cursor := 0, pos := 0, passed := 0, path := w.path, start := now s } s1) s

/-- The far copy of a tile goes to a new log slot under a key, its payload unchanged (R438). `none` when no slot can be programmed. -/
def rekeyFar (t : Nat) (key : Nat × Nat) (s : State) : Option State :=
  let f := farOf s t
  match pickFlash s with
  | none => none
  | some ch =>
    if logFull s then none
    else match programLog ch s with
      | none => none
      | some (place, s1) =>
        some (modFar t (fun f => { f with
          chan := placeChan place, slot := place, wseq := s1.flash.wseq, hdr := keyHdr key f.hdr, inLog := true, stale := false })
          (radd Obj.FERRY_BYTES_FAR 0 (2 * (f.len + 64)) s1))

/-- The near copy of a tile goes to a free frame of its channel under a key; a mirrored tile needs one in both channels (R438). -/
def rekeyNear (t : Nat) (key : Nat × Nat) (s : State) : Option State :=
  let c := homeOf s t
  let both : Bool := match regionAtTile s t with
    | some r => (regionOf s r).cls == 1 && chanWorks s ((c + 12) % 24)
    | none => false
  if freeFrames s c = 0 ∨ (both = true ∧ freeFrames s ((c + 12) % 24) = 0) then none
  else
    let frame := newFrame s c
    some (modTag t (fun g => keyTag key { g with frame := if g.rsv then movedFrame c frame else frame }) s)

/-- The sweep has visited the tiles up to a place; CURSOR follows every 65,536 of them. -/
def sweepTo (b place : Nat) (s : State) : State :=
  let k := keyOf s b
  let n := k.passed + (tilesFrom s b k.pos - tilesFrom s b place)
  setKey b { k with pos := place, passed := n % 65536, cursor := if 65536 ≤ n then place else k.cursor } s

/-- REKEY_CROSSING (R438): the sweep visits the next tile with a copy under the old slot, and each such copy is put under the active one. It
waits while the tile crosses, while no slot or frame is free, and while the ladder holds back class 3 (R500). -/
def execRekeyCrossing (tile : Nat) (s : State) : Answer :=
  match regionAtTile s tile with
  | none => .next s
  | some r =>
    let b := (regionOf s r).owner
    let k := keyOf s b
    let place := sweepPlace r tile
    let old := oldSlot k
    if k.st ≠ 3 ∨ place < k.pos ∨ sweepMeets s b k.pos place old = true ∨ (crossingOf s tile).isSome = true
      ∨ 28 ≤ ladderPos s then .next s
    else
      let key := activeKey s b
      let f := farOf s tile
      let g := tagOf s tile
      match (if f.kind = 1 ∧ f.hdr.kslot = old then rekeyFar tile key s else some s) with
      | none => .next s
      | some s1 =>
        match (if g.st ≠ 0 ∧ g.kslot = old then rekeyNear tile key s1 else some s1) with
        | none => .next s
        | some s2 => .next (sweepTo b (place + 1) s2)

/-- REKEY_SWEEP_COMPLETE (R437, R438): every tile is visited and every crossing booked before the flip has ended; the record is STEADY, the
old slot is zeroed at every engine, and the command posts status 0. -/
def execRekeySweepComplete (berth : Nat) (s : State) : Answer :=
  let k := keyOf s berth
  let mine (t : Nat) : Bool := match regionAtTile s t with
    | some r => (regionOf s r).owner == berth
    | none => false
  if k.st ≠ 3 ∨ sweepMeets s berth 0 (8192 * 17179869184) (oldSlot k) = true
    ∨ s.ferry.crossings.any (fun c => mine c.tile && decide (c.start ≤ k.start)) = true then .next s
  else
    let s1 := setKey berth { setSlot (oldSlot k) 0 k with st := 1, cursor := 0, pos := 0, passed := 0, path := 0, start := 0 } s
    .next (if k.path = 0 then s1 else setWord Obj.KEY_ROTATE k.path 0 s1)

/-- A start restores the key slots (R439): a PREPARED record goes back to STEADY with its new slot zeroed, and a sweep resumes from
CURSOR. No path waits any more. -/
def restoreKeys (s : State) : State :=
  { s with keys := { s.keys with recs := s.keys.recs.map (fun p =>
      let k := p.2
      (p.1, if k.st = 2 then { setSlot (1 - k.active) 0 k with st := 1, path := 0 }
            else { k with pos := k.cursor, passed := 0, path := 0, start := 0 })) } }

/-! ## The pair secret (R441, R442) -/

/-- PAIR_SECRET: 48 bytes, the same on both units. The keys no longer match until the partner's next JOIN shows that they do. -/
def execPairSecret (w : Who) (secret : List Byte) (s : State) : Answer :=
  let st := accessStatus Obj.PAIR_SECRET w true s
  if !bookServed s then .next s
  else if st ≠ 0 then .next (emit (.book w.path st) s)
  else if secret.length ≠ 48 then .next (emit (.book w.path 0x07) s)
  else
    let s1 := rset Obj.PAIR_KEY_MATCH 0 0 (rset Obj.PAIR_SECRET 0 (leNat secret) s)
    .next (sendJoin (checkMirror (emit (.book w.path 0) s1)))

end Sys2Proof.Machine
end

