-- ==== Sys2Proof/Machine/Berths.lean ====
section
/-! DEFINITION. Berths and what they own (R410 to R415, R424 to R426): creating and deleting a berth, binding logical devices and
panels, the worlds of landings, and confidential mode. -/

namespace Sys2Proof.Machine

/-- BERTH_CREATE (R413): the berth starts at epoch 0 with nothing, and a key is drawn for it (R436). -/
def execBerthCreate (w : Who) (arg : Nat) (s : State) : Answer :=
  commandIf (decide (arg < 128)) Obj.BERTH_CREATE w (fun s =>
    let b := bits arg 0 6
    if (berthOf s b).st ≠ 0 then setWord Obj.BERTH_CREATE w.path 1 s
    else postResult Obj.BERTH_CREATE w.path 0 none
      (createKey b (modBerth b (fun x => { st := 1, conf := bit arg 6, created := x.created + 1 }) s))) s

/-! ## Panels (R415, R220) -/

/-- A job's panel is withdrawn: the job is pre-empted and then loses its state, with reason 0xC2. -/
def withdrawJob (ref : Nat) (s : State) : State :=
  match jobOf s ref with
  | none => s
  | some j =>
    if j.ending.isSome then s
    else if j.code = 2 ∧ j.step = 0 then
      (if saveSlots s = 0 then stopJob ref 0xFF 0xC2 s
       else startSave ref (setJob ref (some { j with lost := some 0xC2 }) s))
    else if j.step = 2 then setJob ref (some { j with lost := some 0xC2 }) s
    else loseJob ref 0xC2 s

/-- Withdraw a panel from its berth; it leaves when its jobs are saved or ended. -/
def withdrawPanel (p : Nat) (path : Option Nat) (s : State) : State :=
  let s1 := modPanel p (fun q => { q with leaving := true, leavePath := path }) s
  let saved := savedOn s1 p
  let q := panelOf s1 p
  let s2 := if q.job = 0 then s1 else withdrawJob (q.job - 1) s1
  let s3 := each saved (fun ref s => loseJob ref 0xC2 s) s2
  if (panelOf s3 p).leaving && (panelOf s3 p).job == 0 then leaveBerth p s3 else s3

/-- PANEL_ASSIGN (R415); the statuses are taken in their listed order (DESIGN CHOICE). -/
def execPanelAssign (w : Who) (arg : Nat) (s : State) : Answer :=
  let p := bits arg 0 6
  commandIf (decide (arg < 16384) && decide (p < 60)) Obj.PANEL_ASSIGN w (fun s =>
    let b := bits arg 6 6
    let release := bit arg 12
    let world := bit arg 13
    let q := panelOf s p
    let set (v : Nat) (s : State) : State := setWord Obj.PANEL_ASSIGN w.path v s
    if q.st = 4 then set 1 s
    else if release && q.berth == 0xFF then set 0 s
    else if (q.berth != 0xFF && (q.berth != b || q.lent)) || (!release && q.berth == b && q.world != world) || q.lent then set 2 s
    else if !release && (berthOf s b).st != 1 then set 3 s
    else if !release && world && !w.secure then set 4 s
    else if release then withdrawPanel p (some w.path) s
    else if q.berth = b then set 0 s
    else postResult Obj.PANEL_ASSIGN w.path 0 none (modPanel p (fun q => { q with berth := b, world := world, stale := true }) s)) s

/-! ## Logical devices and landings (R410, R411, R414) -/

/-- LD_BIND (R414). -/
def execLdBind (w : Who) (arg : Nat) (s : State) : Answer :=
  commandIf (!bit arg 7 && decide (arg < 16384)) Obj.LD_BIND w (fun s =>
    let ld := bits arg 0 7
    let b := bits arg 8 6
    if (ldOf s ld).enabled then setWord Obj.LD_BIND w.path 1 s
    else if (berthOf s b).st ≠ 1 then setWord Obj.LD_BIND w.path 2 s
    else postResult Obj.LD_BIND w.path 0 none (modLd ld (fun l => { l with berth := b }) s)) s

/-- WORLD_LANDING_SET (R410, R411): only while both links of the port are DISABLED; extents that the new world cannot reach are
withdrawn. -/
def execWorldLandingSet (w : Who) (arg : Nat) (s : State) : Answer :=
  commandIf (decide (arg < 16)) Obj.WORLD_LANDING_SET w (fun s =>
    let port := bits arg 0 3
    let on := bit arg 3
    if (linkOf s (2 * port)).st ≠ 0 ∨ (linkOf s (2 * port + 1)).st ≠ 0 then setWord Obj.WORLD_LANDING_SET w.path 1 s
    else
      let old := s.berths.landingWorld
      let v := old - b2n (bit old port) * 2 ^ port + b2n on * 2 ^ port
      let s1 := { s with berths := { s.berths with landingWorld := v } }
      let s2 := if on then s1 else
        each ((tkeys s1.lds).filter (fun ld => ld / 16 == port)) (fun ld s =>
          each ((tkeys s.regions).filter (fun n => (regionOf s n).world)) (fun n s => withdrawNow ld n s) s) s1
      postResult Obj.WORLD_LANDING_SET w.path 0 none s2) s

/-! ## Deleting a berth (R424) -/

/-- Start the deletion: its jobs end, its panels are withdrawn, its regions removed, the grants it holds taken away in one change, and
its meters set to MODE 0. -/
def startDeletion (b : Nat) (s : State) : State :=
  let s1 := modBerth b (fun x => { x with st := 2 }) s
  let jobs := (s1.jobs.jobs.filter (fun p => match p.2 with
    | some j => j.berth == b
    | none => false)).map (·.1)
  let s2 := each jobs (fun ref s => stopJob ref 0x32 0xC1 s) s1
  let panels := (s2.grid.panels.filter (fun p => p.2.berth == b && !p.2.lent)).map (·.1)
  let s3 := each panels (fun p s => withdrawPanel p none s) s2
  let s4 := each (regionsOf s3 b) (fun n s => if (regionOf s n).st = 3 then s else startRemoval n s) s3
  let s5 := (queueChange (.unbind b) s4).2
  finishBerths (each [0, 1, 2, 3] (fun k s => applyShaper (berthMeter b k) ⟨false, false, 0, 0, 0, 0, 0⟩ s) s5)

/-- BERTH_DELETE (R424); the statuses are taken in their listed order (DESIGN CHOICE). -/
def execBerthDelete (w : Who) (arg : Nat) (s : State) : Answer :=
  commandIf (decide (arg < 64)) Obj.BERTH_DELETE w (fun s =>
    if (berthOf s arg).st ≠ 1 then setWord Obj.BERTH_DELETE w.path 1 s
    else if s.lds.any (fun p => p.2.enabled && p.2.berth == arg) then setWord Obj.BERTH_DELETE w.path 2 s
    else if !w.secure && ((regionsOf s arg).any (fun n => (regionOf s n).world)
        || s.grid.panels.any (fun p => p.2.berth == arg && p.2.world)) then setWord Obj.BERTH_DELETE w.path 3 s
    else postResult Obj.BERTH_DELETE w.path 0 none (startDeletion arg s)) s

/-! ## Confidential mode (R425, R426) -/

/-- CONF_SET (R426): a bit can be cleared only while what it covers owns nothing. -/
def execConfSet (w : Who) (arg : Nat) (s : State) : Answer :=
  commandIf (decide (arg < 256)) Obj.CONF_SET w (fun s =>
    let b := bits arg 0 6
    let device := bit arg 6
    let v := bit arg 7
    let owns : Bool := if device then s.regions.any (fun p => p.2.st != 0)
      else !(regionsOf s b).isEmpty || s.grid.panels.any (fun p => p.2.berth == b)
    if !v && owns then setWord Obj.CONF_SET w.path 1 s
    else if !device && (berthOf s b).st != 1 then setWord Obj.CONF_SET w.path 3 s
    else postResult Obj.CONF_SET w.path 0 none
      (if device then { s with berths := { s.berths with confDevice := v } } else modBerth b (fun x => { x with conf := v }) s)) s

end Sys2Proof.Machine
end

