-- ==== Sys2Proof/Machine/Lifecycle.lean ====
section
/-! DEFINITION. The life-cycle (R443 to R447): what each state opens, tokens, and the transitions. -/

namespace Sys2Proof.Machine

/-- Test access is open (Table 19.6): in BLANK and DEVELOP, and in RETURNED after a debug unlock. -/
def testOpen (s : State) : Bool :=
  let lc := rget Obj.LC_STATE 0 s
  lc == 0 || lc == 1 || (lc == 3 && rget Obj.LC_DEBUG_OPEN 0 s == 1)

/-- Host ports serve (Table 19.6). -/
def portsServe (s : State) : Bool :=
  let lc := rget Obj.LC_STATE 0 s
  lc == 1 || lc == 2 || lc == 3

/-- Thimble draws a new 32-byte nonce (R445): a random number, a free value. -/
def drawNonce (s : State) : State :=
  let (v, s1) := fresh s
  rset Obj.LC_NONCE 0 (v % 2 ^ 256) s1

/-- A token is valid for a scope (R445, Table 19.8). -/
def tokenValid (scope : Nat) (token : List Byte) (s : State) : Bool :=
  token.length == 144 && leNat (token.take 2) == scope
    && leNat ((token.drop 8).take 8) == unitId s && leNat ((token.drop 16).take 32) == rget Obj.LC_NONCE 0 s
    && Config.authoritySigned (token.take 48) (token.drop 48)

/-- The transition is in Table 19.7. -/
def lcAllowed (from_ dest : Nat) : Bool :=
  (from_ == 0 && (dest == 1 || dest == 4)) || (from_ == 1 && (dest == 2 || dest == 4)) || (from_ == 2 && (dest == 3 || dest == 4))
    || (from_ == 3 && dest == 4)

/-- The scope of the token that a transition requires, if it requires one. -/
def lcScope (from_ dest : Nat) : Option Nat :=
  if from_ = 0 then (if dest = 1 then some 4 else some 3) else if dest = 3 then some 1 else none

/-- The KEK epoch advances, up to its 8 steps (R430). -/
def advanceKek (s : State) : State := rset Obj.LC_KEK_EPOCH 0 (min 8 (rget Obj.LC_KEK_EPOCH 0 s + 1)) s

/-- Every key record and the pair secret are erased. -/
def eraseKeys (s : State) : State := rset Obj.PAIR_SECRET 0 0 { s with keys := { s.keys with recs := [] } }

/-- Credentials are erased. -/
def eraseCreds (s : State) : State :=
  each [Obj.CRED_OPERATOR_NS, Obj.CRED_OPERATOR_S, Obj.CRED_ADMIN_NS, Obj.CRED_ADMIN_S, Obj.CRED_EVENT, Obj.CRED_VENDOR]
    (fun o s => rset o 0 0 s) s

/-- What a transition does besides its fuses (Table 19.7). VOID erases the NVM but for the claim counters, unless it is entered from
BLANK, where the table names nothing to do. -/
def lcDone (from_ dest : Nat) (s : State) : State :=
  match dest with
  | 1 => { s with keys := { s.keys with udsFused := true } }
  | 2 => advanceKek (rset Obj.PAIR_SECRET 0 0 s)
  | 3 =>
    let c := s.cfg.saved
    let gone : Tab Berth := s.berths.berths.map (fun p => (p.1, { created := p.2.created }))
    let s1 := advanceKek (eraseKeys s)
    { s1 with
      regions := [], lds := []
      berths := { s1.berths with berths := gone, grants := [], queue := [], running := none }
      grid := { s1.grid with panels := s1.grid.panels.map (fun p => (p.1, { p.2 with berth := 0xFF, world := false })) }
      ferry := { s1.ferry with tags := [], crossings := [] }
      mem := { s1.mem with near := [], nearPoison := [] }
      cfg := { s1.cfg with saved := { c with berths := gone, grants := [], regions := [], binds := [], enabled := [], panels := [] } }
      boot := { s1.boot with formatDue := true } }
  | _ => if from_ = 0 then s else eraseCreds (eraseKeys { s with
      keys := { nextGen := s.keys.nextGen }, fw := { banks := s.fw.banks } })

/-- Status of a transition (R444), 0 accepted; the statuses are taken in their listed order (DESIGN CHOICE). -/
def lcStatus (dest : Nat) (w : Who) (token : List Byte) (s : State) : Nat :=
  let lc := rget Obj.LC_STATE 0 s
  let tokenBad : Bool := match lcScope lc dest with
    | some scope => !tokenValid scope token s
    | none => false
  if !lcAllowed lc dest then 1
  else if tokenBad then 2
  else if lc = 1 ∧ dest = 2 ∧ (s.keys.recs.any (fun p => p.2.st != 0) = true ∨ rget Obj.PAIR_PARTNER_UNIT 0 s ≠ 0) then 3
  else if lc = 0 ∧ w.role < 3 then 4
  else 0

/-- LC_TRANSITION to a state (R444, R447). The fuses are blown, the erasures done, and the device restarts (cause 8). A token that is checked
spends the nonce (R445). -/
def lcTransition (dest : Nat) (w : Who) (rsvd : Nat) (token : List Byte) (s : State) : Answer :=
  let lc := rget Obj.LC_STATE 0 s
  let ok := rsvd == 0 && token.length == 144 && (!lcAllowed lc dest || (lcScope lc dest).isSome || token.all (fun b => b == 0))
  commandIf ok Obj.LC_TRANSITION w (fun s =>
    let st := lcStatus dest w token s
    let s1 := if st ≠ 1 ∧ (lcScope lc dest).isSome = true then drawNonce s else s
    if st ≠ 0 then setWord Obj.LC_TRANSITION w.path st s1
    else enterReset 8 false false (lcDone lc dest (rset Obj.LC_STATE 0 dest (setWord Obj.LC_TRANSITION w.path 0 s1)))) s

/-- LC_TO_DEVELOP: BLANK to DEVELOP; the UDS is drawn and fused. -/
def execLcToDevelop (w : Who) (rsvd : Nat) (token : List Byte) (s : State) : Answer := lcTransition 1 w rsvd token s

/-- LC_TO_SEALED: DEVELOP to SEALED. -/
def execLcToSealed (w : Who) (rsvd : Nat) (token : List Byte) (s : State) : Answer := lcTransition 2 w rsvd token s

/-- LC_TO_RETURNED: SEALED to RETURNED. -/
def execLcToReturned (w : Who) (rsvd : Nat) (token : List Byte) (s : State) : Answer := lcTransition 3 w rsvd token s

/-- LC_TO_VOID: from any other state to VOID. -/
def execLcToVoid (w : Who) (rsvd : Nat) (token : List Byte) (s : State) : Answer := lcTransition 4 w rsvd token s

/-- LC_UNLOCK (R446): test access opens in RETURNED with a valid token of scope 2, until the next reset. -/
def execLcUnlock (w : Who) (token : List Byte) (s : State) : Answer :=
  commandIf (token.length == 144) Obj.LC_UNLOCK w (fun s =>
    if rget Obj.LC_STATE 0 s ≠ 3 then setWord Obj.LC_UNLOCK w.path 1 s
    else if tokenValid 2 token s then setWord Obj.LC_UNLOCK w.path 0 (drawNonce (rset Obj.LC_DEBUG_OPEN 0 1 s))
    else setWord Obj.LC_UNLOCK w.path 2 (drawNonce s)) s

end Sys2Proof.Machine
end

