-- ==== Sys2Proof/Machine/Firmware.lean ====
section
/-! DEFINITION. Firmware (R449 to R463): image files and their checks, staging, activation and trials, the security version floors,
and the state that the compatibility matrix gives the running set. -/

namespace Sys2Proof.Machine

/-! ## Image files (R450 to R452) -/

/-- A little-endian field of a byte list. -/
def fieldAt (bs : List Byte) (off n : Nat) : Nat := leNat ((bs.drop off).take n)

/-- MAJOR and MINOR of a triple (R450). -/
def majorOf (v : Nat) : Nat := bits v 24 8
def minorOf (v : Nat) : Nat := bits v 16 8

/-- Largest body of an image (Table 20.1). -/
def bodyLimit : Nat → Nat
  | 2 => 262144
  | 3 => 4194304
  | 4 => 2097152
  | 5 => 8388608
  | _ => 0

/-- Rows of the matrix in a PFW body, five words each (R458). -/
def matrixRows (body : List Byte) (off n : Nat) : List (List Nat) :=
  (List.range n).map (fun i => (List.range 5).map (fun k => fieldAt body (off + i * 20 + k * 4) 4))

/-- What a bank holds once an image file of `image` is in it: `sound` says whether the file passes every check of R452 that rests on the
file alone. -/
def bankOf (image : Nat) (hdr body sig : List Byte) : FwBank :=
  let off := fieldAt hdr 32 4
  let n := fieldAt hdr 36 2
  let matrixOk := if image = 3 then decide (1 ≤ n) && decide (n ≤ 256) && decide (off + 20 * n ≤ body.length) else off == 0 && n == 0
  { sound := fieldAt hdr 0 4 == 0x3A5C0F12 && fieldAt hdr 4 1 == image && fieldAt hdr 6 2 == 1
      && fieldAt hdr 5 1 == 0 && fieldAt hdr 18 6 == 0 && fieldAt hdr 38 10 == 0 && fieldAt hdr 96 32 == 0
      && decide (body.length ≤ bodyLimit image) && (hdr.drop 48).take 48 == Config.sha384 body
      && Config.authoritySigned hdr sig && matrixOk
    ifv := fieldAt hdr 8 4
    build := fieldAt hdr 12 4
    svn := fieldAt hdr 16 2
    bromMin := fieldAt hdr 28 4
    rows := if image = 3 then matrixRows body off n else [] }

/-- The images of a bundle (R451), each starting at a multiple of 64 bytes; none when it is malformed. `n` bounds the images. -/
def parseBundle : Nat → List Byte → Option (List (Nat × FwBank))
  | 0, bs => if bs.isEmpty then some [] else none
  | n + 1, bs =>
    if bs.isEmpty then some []
    else
      let image := fieldAt bs 4 1
      let len := fieldAt bs 24 4
      let total := 128 + len + 96
      if bs.length < total ∨ image < 2 ∨ 5 < image then none
      else
        let b := bankOf image (bs.take 128) ((bs.drop 128).take len) ((bs.drop (128 + len)).take 96)
        match parseBundle n (bs.drop ((total + 63) / 64 * 64)) with
        | some r => some ((image, b) :: r)
        | none => none

/-! ## Banks and the record (R453) -/

def activeBank (s : State) (image : Nat) : Nat := tget 0 s.fw.active image
def bankAt (s : State) (image bank : Nat) : FwBank := tget {} s.fw.banks (image * 2 + bank)
def floorOf (s : State) (image : Nat) : Nat := tget 0 s.fw.floors image

/-- The BROM's interface admits an image's BROM_MIN (R452). -/
def bromTakes (b : FwBank) : Bool := majorOf b.bromMin == 1 && decide (minorOf b.bromMin ≤ 2)

/-- A bank is valid (R452). -/
def bankValid (s : State) (image bank : Nat) : Bool :=
  let b := bankAt s image bank
  b.sound && decide (floorOf s image ≤ b.svn) && bromTakes b

/-- An image becomes active in a bank. -/
def setActive (image bank : Nat) (s : State) : State :=
  { s with fw := { s.fw with active := tput 0 s.fw.active image bank } }

/-! ## Staging, activation, commit and rollback (R454 to R457) -/

/-- Status of staging a bundle (Table 20.3): refused during a trial, then malformed, then the checks (DESIGN CHOICE of the order). -/
def stageStatus (bundle : List Byte) (s : State) : Nat :=
  if s.fw.trial then 4
  else if 16777216 < bundle.length then 2
  else match parseBundle 4 bundle with
    | none => 2
    | some [] => 2
    | some l =>
      if (l.map (·.1)).eraseDups.length ≠ l.length then 2
      else if !l.all (fun p => p.2.sound && bromTakes p.2) then 1
      else if !l.all (fun p => decide (floorOf s p.1 ≤ p.2.svn)) then 3
      else 0

/-- Stage a bundle: every image goes into the inactive bank of its kind, or no bank changes. -/
def stageBundle (bundle : List Byte) (s : State) : State :=
  let st := stageStatus bundle s
  let s1 := rset Obj.FW_STAGE_STATUS 0 st s
  if st ≠ 0 then s1
  else each ((parseBundle 4 bundle).getD []) (fun p s =>
    { s with fw := { s.fw with banks := tput {} s.fw.banks (p.1 * 2 + (1 - activeBank s p.1)) p.2 } }) s1

/-- FW_STAGE: the bundle of a segmented write (R454). -/
def execFwStage (w : Who) (bundle : List Byte) (s : State) : Answer :=
  let st := accessStatus Obj.FW_STAGE w true s
  if !bookServed s then .next s
  else if st ≠ 0 then .next (emit (.book w.path st) s)
  else .next (emit (.book w.path 0) (stageBundle bundle s))

/-- Make the inactive banks of the images of a mask pending (R455). -/
def setPending (mask : List Nat) (force : Bool) (s : State) : State :=
  each mask (fun i s => { s with fw := { s.fw with pending := tput none s.fw.pending i (some (1 - activeBank s i)) } })
    { s with fw := { s.fw with force := force } }

/-- Status of an activation of the images of a mask (R455). -/
def activateStatus (mask : List Nat) (s : State) : Nat :=
  if !mask.all (fun i => bankValid s i (1 - activeBank s i)) then 1 else if s.fw.trial then 2 else 0

/-- FW_ACTIVATE (R455): it takes effect at the next reset. -/
def execFwActivate (w : Who) (arg : Nat) (s : State) : Answer :=
  let mask := [2, 3, 4, 5].filter (bit arg)
  commandIf (bits arg 0 2 == 0 && bits arg 6 2 == 0 && decide (arg < 512)) Obj.FW_ACTIVATE w (fun s =>
    let st := activateStatus mask s
    setWord Obj.FW_ACTIVATE w.path st (if st = 0 then setPending mask (bit arg 8) s else s)) s

/-- FW_SVN_COMMIT (R457): each floor rises to the SVN of its active bank. -/
def execFwSvnCommit (w : Who) (s : State) : Answer :=
  command Obj.FW_SVN_COMMIT w (fun s =>
    if s.fw.trial then setWord Obj.FW_SVN_COMMIT w.path 1 s
    else setWord Obj.FW_SVN_COMMIT w.path 0 (each [2, 3, 4, 5] (fun i s =>
      { s with fw := { s.fw with floors := tput 0 s.fw.floors i (max (floorOf s i) (runningBank s i).svn) } }) s)) s

/-- FW_ROLLBACK (R457): every image whose inactive bank is valid is pending, as under FORCE. -/
def execFwRollback (w : Who) (s : State) : Answer :=
  command Obj.FW_ROLLBACK w (fun s =>
    if s.fw.trial then setWord Obj.FW_ROLLBACK w.path 2 s
    else setWord Obj.FW_ROLLBACK w.path 0 (setPending ([2, 3, 4, 5].filter (fun i => bankValid s i (1 - activeBank s i))) true s)) s

/-! ## The running state (R458, R459) -/

/-- A matrix entry admits a triple (R458). -/
def entryAdmits (entry v : Nat) : Bool :=
  bits entry 0 8 == majorOf v && decide (bits entry 8 8 ≤ minorOf v) && decide (minorOf v ≤ bits entry 16 8)

/-- Some row of the active matrix admits the running set. -/
def setTested (s : State) : Bool :=
  (runningBank s 3).rows.any (fun row => (List.range 5).all (fun k => entryAdmits (row.getD k 0) (fwIf s (k + 1))))

/-- FW_STATE and FW_COMPAT by Table 20.4, with the policy that the configuration record holds (R460). -/
def fwState (s : State) : Nat × Nat :=
  let ok (i : Nat) : Bool := bankValid s i (activeBank s i)
  if !(ok 2 && ok 3 && ok 4) then (3, 2)
  else if !ok 5 then (2, 2)
  else if setTested s then (0, 0)
  else match savedReg Obj.FW_COMPAT_POLICY 0 s with
    | 0 => (3, 1)
    | 1 => (2, 1)
    | _ => (1, 1)

/-- An image whose active bank is not valid runs from its other bank if that one is (R459). -/
def chooseBanks (s : State) : State :=
  each [2, 3, 4, 5] (fun i s =>
    let a := activeBank s i
    if !bankValid s i a && bankValid s i (1 - a) then setActive i (1 - a) s else s) s

/-- A trial fails (R456): the previous banks are active again, nothing is pending, and FW_TRIAL reads 2. -/
def failTrial (s : State) : State :=
  let s1 := each s.fw.tried (fun p s => setActive p.1 p.2 s) s
  rset Obj.FW_TRIAL 0 2 { s1 with fw := { s1.fw with pending := [], trial := false, force := false, tried := [] } }

/-- Pending banks become active and the trial runs. -/
def beginTrial (s : State) : State :=
  let l := s.fw.pending.filterMap (fun p => p.2.map (fun b => (p.1, b)))
  let s1 := each l (fun p s => setActive p.1 p.2 s) s
  rset Obj.FW_TRIAL 0 1 { s1 with fw := { s1.fw with
    pending := [], trial := true, tried := l.map (fun p => (p.1, activeBank s p.1)) } }

/-- The firmware's part of a start (R456, R459). `true`: a trial has failed, and the device restarts (cause 9). `cause` is the reset's. -/
def startFirmware (cause : Nat) (s : State) : State × Bool :=
  if s.fw.trial && cause != 8 then (failTrial s, true)
  else
    let before := (fwState (chooseBanks s)).1
    let fresh_ := s.fw.pending.any (fun p => p.2.isSome)
    let s1 := chooseBanks (if fresh_ then beginTrial s else s)
    let st := fwState s1
    if fresh_ && decide (before < st.1) && !s1.fw.force then (failTrial s1, true)
    else (rset Obj.FW_COMPAT 0 st.2 (rset Obj.FW_STATE 0 st.1 s1), false)

/-- TRIAL_HOLD_EXPIRY (R456): the device has served for FW_TRIAL_HOLD, and the trial succeeds. -/
def execTrialHoldExpiry (s : State) : Answer :=
  if s.fw.trial ∧ rget Obj.BOOT_STEP 0 s = 0 ∧ s.boot.held = 0 then
    .next (rset Obj.FW_TRIAL 0 0 { s with fw := { s.fw with trial := false, force := false, tried := [] } })
  else .next s

end Sys2Proof.Machine
end

