-- ==== Sys2Proof/Machine/FlashOps.lean ====
section
/-! DEFINITION. The far shore's events and commands (R279, R284 to R295): read failures and rebuilds, bad blocks, merges, reclaims,
checkpoints, power loss, channel loss and retirement. -/

namespace Sys2Proof.Machine

/-! ## Read failures (R288, R289) -/

/-- FAR_READ_FAILURE: a chunk's read fails. It is rebuilt from its row, or placed as poison at once when that is known to fail; a slot
on a channel that may still come back waits (R294). `check`: what failed is a check of R112 or R129. -/
def execFarReadFailure (tile chunk : Nat) (check : Bool) (s0 : State) : Answer :=
  let s := if check then rinc Obj.TCRC_FAIL_PROMOTE 0 s0 else s0
  match crossingOf s tile with
  | none => .next s0
  | some c =>
    let f := farOf s tile
    if c.kind ≠ .promote ∨ c.held < slotsNeeded c ∨ f.kind = 0 ∨ c.next ≠ chunk ∨ bit c.placed chunk ∨ c.rebuilding.isSome then .next s0
    else
      let answers := (flashOf s f.chan).st == 3 || (flashOf s f.chan).st == 4
      let can := rowRebuilds s f.slot
      if !can && s.flash.flxLost.contains f.chan then .next s0
      else
        let line := tile * 1024 + chunk * 64
        let s1 := if answers then bucketEvent 0x10 f.chan (if can then 5 else 3) (some line) 0 (rinc Obj.FLASH_READ_UNCORR f.chan s) else s
        .next (if can then modCrossing tile (fun c => { c with rebuilding := some chunk }) s1 else failRebuild tile chunk s1)

/-- REBUILD_COMPLETE: the chunk is rebuilt, and the tile will be written back to a new slot; or another slot of the row failed too. -/
def execRebuildComplete (tile chunk : Nat) (ok : Bool) (s : State) : Answer :=
  match crossingOf s tile with
  | none => .next s
  | some c =>
    if c.rebuilding ≠ some chunk then .next s
    else if ok then
      .next (placeChunk tile chunk (rinc Obj.FAR_REBUILDS 0 (modFar tile (fun f => { f with stale := true }) s)))
    else .next (failRebuild tile chunk s)

/-! ## Moving slots (R285, R290, R293, R294) -/

/-- Tiles whose far copy stands in a slot that satisfies `p`, in tile order. -/
def liveTiles (s : State) (p : Nat → Bool) : List Nat := (s.ferry.far.filter (fun e => e.2.kind == 1 && p e.2.slot)).map (·.1)

/-- Move a tile's live slot to the current log, in a channel other than `from_`. -/
def moveSlot (from_ t : Nat) (s : State) : State :=
  match (flashInService s).find? (fun c => c != from_ && rowHasSlot s c) with
  | none => s
  | some ch => match programLog ch s with
    | none => s
    | some (place, s1) =>
      modFar t (fun f => { f with chan := placeChan place, slot := place, wseq := s1.flash.wseq, inLog := true })
        { s1 with flash := { s1.flash with ampProg := s1.flash.ampProg + 1 } }

/-- A block set is retired: its live slots move first (R290). -/
def retireBlockSet (chan block : Nat) (s : State) : State :=
  let bs := chan * 262144 + block % 262144
  if s.flash.badSets.contains bs then s
  else
    let s1 := each (liveTiles s (fun p => p / 1024 == bs)) (moveSlot chan) s
    { s1 with flash := { s1.flash with badSets := s1.flash.badSets ++ [bs] } }

/-- PROGRAM_FAILURE: the failing program is retried in another slot, and the block set is retired (R290). -/
def execProgramFailure (chan block : Nat) (s : State) : Answer :=
  if 32 ≤ chan ∨ ((flashOf s chan).st ≠ 3 ∧ (flashOf s chan).st ≠ 4) then .next s
  else .next (bucketEvent 0x11 chan 1 none 0 (rinc Obj.FLASH_PROG_FAIL chan (retireBlockSet chan block s)))

/-- ERASE_FAILURE: the block set is retired (R290). -/
def execEraseFailure (chan block : Nat) (s : State) : Answer :=
  if 32 ≤ chan ∨ ((flashOf s chan).st ≠ 3 ∧ (flashOf s chan).st ≠ 4) then .next s
  else .next (bucketEvent 0x12 chan 1 none 0 (rinc Obj.FLASH_ERASE_FAIL chan (retireBlockSet chan block s)))

/-! ## Rows, merges, reclaims (R279, R284, R285) -/

/-- ROW_FLUSH: FAR_ROW_FLUSH has passed since an open row's first program; its parity is programmed (R279). -/
def execRowFlush (group : Nat) (s : State) : Answer :=
  let s1 := match tget none s.flash.openLog group with
    | some b => flushRow b s
    | none => s
  match openData s1 group, tget none s1.flash.merging group with
  | some b, none => .next (closeData b s1)
  | _, _ => .next s1

/-- Live log entries of a logical block. -/
def blockLog (s : State) (k : Nat) : Nat := (s.ferry.far.filter (fun p => p.2.inLog && p.1 / 1024 == k)).length

/-- The logical block with the most live log entries, lowest number on ties. -/
def fullestBlock (s : State) : Option Nat :=
  ((s.ferry.far.filter (fun p => p.2.inLog)).map (fun p => p.1 / 1024)).eraseDups.foldl (fun best k => match best with
    | none => some k
    | some b => if blockLog s b < blockLog s k ∨ (blockLog s k = blockLog s b ∧ k < b) then some k else some b) none

/-- Logical blocks whose data block set is in a band. -/
def blocksIn (s : State) (b : Nat) : List Nat :=
  (s.flash.blockMap.filter (fun p => match p.2 with
    | some bs => placeBand (bs * 1024) == b
    | none => false)).map (·.1)

/-- The block that the next merge of a group takes: one of the band under reclaim, else the fullest one once live entries reach
FAR_MERGE_START per cent. -/
def nextMerge (s : State) (group : Nat) : Option Nat :=
  let due := decide (rget Obj.FAR_MERGE_START 0 s * logCapacity s ≤ 100 * logEntries s)
  match tget none s.flash.reclaiming group with
  | some b => (match (blocksIn s b).head? with
    | some k => some k
    | none => if due then fullestBlock s else none)
  | none => if due then fullestBlock s else none

/-- Where the next merge of a group goes: the next free member of the open data band, or of a new one. -/
def mergePlace (group : Nat) (s : State) : Option (Nat × Nat × State) :=
  let pick := match openData s group with
    | some b => (match (emptyMembers s b).head? with
      | some ch => some (b, ch, s)
      | none => none)
    | none => none
  match pick with
  | some p => some p
  | none => match erasedBand s group with
    | none => none
    | some b =>
      let s1 := modBand b (fun x => { x with use := 2, row := 0, prog := [], leftErased := [], parity := [], rowStart := some (now s) }) s
      (dataMembers s1 b).head?.map (fun ch => (b, ch, s1))

/-- MERGE: a merge starts in a group; its data block set is the next free member of the open data band, or of a new one (R284). -/
def execMerge (group : Nat) (s : State) : Answer :=
  if 2 ≤ group ∨ (tget none s.flash.merging group).isSome then .next s
  else match nextMerge s group with
    | none => .next s
    | some k =>
      match mergePlace group s with
      | none => .next s
      | some (b, ch, s1) =>
        .next { s1 with flash := { s1.flash with merging := tput none s1.flash.merging group (some ⟨k, bandSet b ch⟩) } }

/-- A logical block's current tiles are written into a data block set, ZERO tiles left erased; the block map names it and the block's
log entries are dropped (R284). A band whose members are all filled is closed. -/
def mergeBlock (block bs : Nat) (s : State) : State :=
  let b := placeBand (bs * 1024)
  let ch := bs / 262144
  let tiles := (List.range 1024).map (· + block * 1024)
  let live := tiles.filter (fun t => (farOf s t).kind == 1)
  let slots (ts : List Nat) : List Nat := ts.map (fun t => bandSlot (t % 1024) ch)
  let s1 := modBand b (fun x => { x with
    prog := x.prog ++ slots live, leftErased := x.leftErased ++ slots (tiles.filter (fun t => (farOf s t).kind != 1)) }) s
  let s2 := each tiles (fun t s => modFar t (fun f =>
    if f.kind = 1 then { f with chan := ch, slot := bs * 1024 + t % 1024, inLog := false, stale := false } else {}) s) s1
  let s3 := { s2 with flash := { s2.flash with
    blockMap := tput none s2.flash.blockMap block (some bs)
    wseq := s2.flash.wseq + live.length
    sinceCkpt := s2.flash.sinceCkpt + live.length
    ampProg := s2.flash.ampProg + live.length } }
  let s4 := rinc Obj.FAR_MERGES 0 s3
  if (emptyMembers s4 b).isEmpty then closeData b s4 else s4

/-- MERGE_COMPLETE: the merge of a group ends (R284). -/
def execMergeComplete (group : Nat) (s : State) : Answer :=
  match tget none s.flash.merging group with
  | none => .next s
  | some m =>
    .next (serveMisses (mergeBlock m.block m.bs { s with flash := { s.flash with merging := tput none s.flash.merging group none } }))

/-- Erased bands of a group: those of its 262,143 bands after the metadata band that are not in use (R285). -/
def erasedBands (s : State) (g : Nat) : Nat :=
  262143 - (s.flash.bands.filter (fun p => p.1 / 262144 == g && p.2.use != 0)).length

/-- Live slots of a band. -/
def bandLive (s : State) (b : Nat) : Nat := (liveTiles s (fun p => placeBand p == b)).length

/-- Bands of a group that can be reclaimed: in use and not open. -/
def reclaimable (s : State) (g : Nat) : List Nat :=
  (s.flash.bands.filter (fun p => p.1 / 262144 == g && (p.2.use == 1 || p.2.use == 2) && tget none s.flash.openLog g != some p.1
    && openData s g != some p.1)).map (·.1)

/-- The first element of a list with the least measure. -/
def leastBy (l : List Nat) (f : Nat → Nat) : Option Nat :=
  l.foldl (fun best k => match best with
    | none => some k
    | some b => if f k < f b then some k else some b) none

/-- The widest difference of band erase counts passes FAR_WEAR_SPREAD (R285). -/
def wearApart (s : State) : Bool :=
  let es := s.flash.bands.map (fun p => p.2.erases)
  decide (rget Obj.FAR_WEAR_SPREAD 0 s < es.foldl max 0)

/-- BAND_RECLAIM: below FAR_FREE_BANDS_LOW the band with the fewest live slots is reclaimed; past the wear spread, the one with the
lowest erase count. Its live log slots move to the current log at once (R285). -/
def execBandReclaim (group : Nat) (s : State) : Answer :=
  if 2 ≤ group ∨ (tget none s.flash.reclaiming group).isSome then .next s
  else
    let cands := reclaimable s group
    let pick := if erasedBands s group < rget Obj.FAR_FREE_BANDS_LOW 0 s then leastBy cands (bandLive s)
      else if wearApart s then leastBy cands (fun b => (bandOf s b).erases) else none
    match pick with
    | none => .next s
    | some b =>
      let logged := (liveTiles s (fun p => placeBand p == b)).filter (fun t => (farOf s t).inLog)
      let s1 := each logged (moveSlot 32) s
      .next { s1 with flash := { s1.flash with reclaiming := tput none s1.flash.reclaiming group (some b) } }

/-- ERASE_COMPLETE: the reclaimed band is erased, which it is only when no member holds a live slot (R279). -/
def execEraseComplete (group : Nat) (s : State) : Answer :=
  match tget none s.flash.reclaiming group with
  | none => .next s
  | some b =>
    if bandLive s b ≠ 0 then .next s
    else .next (modBand b (fun x => { erases := x.erases + 1 })
      { s with flash := { s.flash with reclaiming := tput none s.flash.reclaiming group none } })

/-- TRANSLATION_CHECKPOINT: every 2²⁰ slots both maps are written to the metadata bands (R286). -/
def execTranslationCheckpoint (s : State) : Answer :=
  if s.flash.sinceCkpt < 1048576 then .next s
  else .next { s with flash := { s.flash with sinceCkpt := 0 }, boot := { s.boot with marker := none } }

/-- PFAIL: the falling edge of PFAIL_N quiesces the flash, and the device stays in reset until PORST_N (R291, R523). -/
def execPfail (s : State) : Answer := .next (enterReset 10 true true s)

/-! ## Channels (R292 to R295) -/

/-- Data capacity has fallen below the floor: one far-shore event (R295). -/
def checkFloor (s : State) : State :=
  if farTakes s then { s with flash := { s.flash with belowFloor := false } }
  else if s.flash.belowFloor then s
  else
    let (v, s1) := fresh s
    raiseEvent 80 false 0x62 (.unit (v % 256) 0 2) { s1 with flash := { s1.flash with belowFloor := true } }

/-- Crossings meet the loss of a flash channel: a demotion booked there is given up, a promotion from it reads by rebuild and needs no
slot there (R288). -/
def loseBookings (ch : Nat) (s : State) : State :=
  each (s.ferry.crossings.filter (fun c => c.flash == ch)) (fun c s => match c.kind with
    | .evict => abortEvict c.tile s
    | .clean => abortClean c.tile s
    | .promote => modCrossing c.tile (fun k => { k with flash := 255, held := min k.held 1, waiting := false }) s) s

/-- Slots of lost channels still to rewrite (FLASH_REBUILD_PROGRESS). -/
def lostSlots (s : State) : Nat := (liveTiles s (fun p => (flashOf s (placeChan p)).st == 6)).length

/-- The background sweep rewrites every slot of a lost channel that its row still gives (R294). -/
def sweepLost (ch : Nat) (s : State) : State :=
  let tiles := (liveTiles s (fun p => placeChan p == ch)).filter (fun t => rowRebuilds s (farOf s t).slot)
  let s1 := if farTakes s then each tiles (moveSlot ch) s else s
  rset Obj.FLASH_REBUILD_PROGRESS 0 (lostSlots s1 % 4294967296) s1

/-- A flash channel is lost; with `back` it may still come back when FLX relocks. -/
def loseFlash (ch : Nat) (back : Bool) (s : State) : State :=
  if (flashOf s ch).st ≠ 3 ∧ (flashOf s ch).st ≠ 4 then s
  else
    let mine := (s.flash.retiring.map (·.1)) == some ch
    let f : Flash := { s.flash with
      queue := s.flash.queue.filter (fun q => q.1 != ch)
      retiring := if mine then none else s.flash.retiring
      flxLost := if back then s.flash.flxLost ++ [ch] else s.flash.flxLost }
    let s1 := checkFloor (loseBookings ch (modFlash ch (fun c => { c with st := 6 }) { s with flash := f }))
    if back then s1 else sweepLost ch (rset Obj.FLASH_REBUILD_PROGRESS 0 (lostSlots s1 % 4294967296) s1)

/-- FLASH_CHANNEL_LOST: a channel stops answering commands for 100 µs (R292, R294). -/
def execFlashChannelLost (chan : Nat) (s : State) : Answer :=
  if 32 ≤ chan then .next s else .next (loseFlash chan false s)

/-- FLX_LOSS_TIMEOUT: 1 s after an FLX PLL loss its channels stay LOST and the sweep starts (R294). -/
def execFlxLossTimeout (s : State) : Answer :=
  let lost := s.flash.flxLost
  .next (each lost sweepLost { s with flash := { s.flash with flxLost := [] } })

/-- FLX_RELOCK: within 1 s, the channels return to service with their data as it stood (R294). -/
def execFlxRelock (s : State) : Answer :=
  let lost := s.flash.flxLost
  let s1 := each lost (fun ch s => modFlash ch (fun c => { c with st := 3 }) s) { s with flash := { s.flash with flxLost := [] } }
  .next (serveMisses (rset Obj.FLASH_REBUILD_PROGRESS 0 (lostSlots s1 % 4294967296) (checkFloor s1)))

/-- A retirement of the channel would pass below the floor (R295). -/
def passesFloor (s : State) (ch : Nat) : Bool := !farTakes (modFlash ch (fun c => { c with st := 4 }) s)

/-- Bytes of live slots still to move off a channel (FLASH_RETIRE_PROGRESS). -/
def bytesOn (s : State) (ch : Nat) : Nat :=
  ((liveTiles s (fun p => placeChan p == ch)).map (fun t => (farOf s t).len + 64)).sum

/-- The next retirement of the queue starts: stage 1 of R293; one that a warm restart broke off starts again (R521). -/
def startFlashRetirement (s : State) : State :=
  match s.flash.retiring, s.flash.queue with
  | none, (ch, src) :: rest =>
    let s1 := { s with flash := { s.flash with queue := rest } }
    if (flashOf s ch).st ≠ 3 ∧ (flashOf s ch).st ≠ 4 then s1
    else if (flashOf s ch).st = 3 ∧ passesFloor s ch = true then serviceEvent src ch s1
    else
      let s2 := modFlash ch (fun c => { c with st := 4 }) { s1 with flash := { s1.flash with retiring := some (ch, src) } }
      retireEvent src ch 0 (rset Obj.FLASH_RETIRE_PROGRESS 0 (bytesOn s2 ch) s2)
  | _, _ => s

/-- FLASH_RETIRE: status 0 started, 1 not in service, 2 refused by R295, 3 queued. -/
def execFlashRetire (w : Who) (arg : Nat) (s : State) : Answer :=
  command Obj.FLASH_RETIRE w (fun s =>
    if 32 ≤ arg ∨ (flashOf s arg).st ≠ 3 then setWord Obj.FLASH_RETIRE w.path 1 s
    else if passesFloor s arg then setWord Obj.FLASH_RETIRE w.path 2 (serviceEvent 0xB1 arg s)
    else if s.flash.retiring.isSome ∨ s.flash.queue ≠ [] then setWord Obj.FLASH_RETIRE w.path 3 (queueFlashRetire 0xB1 arg s)
    else setWord Obj.FLASH_RETIRE w.path 0 (startFlashRetirement (queueFlashRetire 0xB1 arg s))) s

/-- Logical blocks whose data block set is in a channel. -/
def blocksOn (s : State) (ch : Nat) : List Nat :=
  (s.flash.blockMap.filter (fun p => match p.2 with
    | some bs => bs / 262144 == ch
    | none => false)).map (·.1)

/-- The live slots of a retiring channel move: data block sets are merged elsewhere, unless a merge of the group still runs, and log slots
go to the current log (stage 2 of R293). -/
def moveChannel (ch : Nat) (s : State) : State :=
  let g := ch / 16
  let s1 := if (tget none s.flash.merging g).isSome then s
    else each (blocksOn s ch) (fun k s => match mergePlace g s with
      | some (b, m, s') => mergeBlock k (bandSet b m) s'
      | none => s) s
  each ((liveTiles s1 (fun p => placeChan p == ch)).filter (fun t => (farOf s1 t).inLog)) (moveSlot ch) s1

/-- FLASH_RETIREMENT_END: the retiring channel's live slots have moved and it is RETIRED; or the next retirement of the queue
starts (R293). -/
def execFlashRetirementEnd (s : State) : Answer :=
  match s.flash.retiring with
  | none => .next (startFlashRetirement s)
  | some (ch, src) =>
    let s1 := moveChannel ch s
    let s2 := rset Obj.FLASH_RETIRE_PROGRESS 0 (bytesOn s1 ch) s1
    if bytesOn s2 ch ≠ 0 then .next s2
    else .next (startFlashRetirement (checkFloor (retireEvent src ch 1 (modFlash ch (fun c => { c with st := 5 })
      { s2 with flash := { s2.flash with retiring := none } }))))

end Sys2Proof.Machine
end

