-- ==== Sys2Proof/Machine/Links.lean ====
section
/-! DEFINITION. Host links and logical devices (R21, R25, R29, R297 to R302, R313 to R317, R528): training, Recovery, link down,
PERST_N, decoders, resets, and enabling and disabling logical devices. -/

namespace Sys2Proof.Machine

/-! ## Link states (R301, R528) -/

/-- Link `h` exists: a B link only on a bifurcated port (R298). -/
def linkThere (s : State) (h : Nat) : Bool := decide (h < 16) && (h % 2 == 0 || bit s.hosts.split (h / 2))

/-- A port is enabled (HP_ENABLE). -/
def portEnabled (s : State) (port : Nat) : Bool := rget Obj.HP_ENABLE port s == 1

/-- HL_STATE: a link in DOWN leaves it for TRAINING, or DISABLED, once its accepted transactions have ended (R317); while its PERST_N
is low it stays in DOWN. -/
def linkState (s : State) (h : Nat) : Nat :=
  let l := linkOf s h
  if l.st = 5 then (if openOn s h ≠ 0 then 5 else if !portEnabled s (h / 2) then 0 else if l.perst then 5 else 1)
  else if l.st = 1 then (if l.perst then 5 else 1)
  else l.st

/-- Logical devices of a link that are enabled. -/
def ldsOnLink (s : State) (h : Nat) : List Nat := (s.lds.filter (fun p => p.2.enabled && linkOfLd s p.1 == h)).map (·.1)

/-- Lanes of a link: the first lane of its port and how many. -/
def linkLanes (s : State) (h : Nat) : Nat × Nat :=
  if bit s.hosts.split (h / 2) then ((h % 2) * 4, 4) else (0, 8)

/-- A host agent holds some line. -/
def holdsLines (s : State) (a : Nat) : Bool :=
  !(linesWhere s (fun _ e => owesAnswer e a || (e.st == .o && e.owner == a) || (e.st == .s && e.sharers.getLsbD a))).isEmpty

/-- A logical device's agent is live again: at once, or when its sweep has ended (R69). -/
def bringAgent (a : Nat) (s : State) : State :=
  let st := (agentOf s a).st
  if st = 2 then modAgent a (fun x => { x with reviveDue := true }) s
  else if st = 3 then reviveAgent a s
  else modAgent a (fun x => { x with st := 1 }) s

/-- A logical device's link is up: its mode, its agent, and its extents (R27, R29). In HDM-H mode shared extents are withdrawn. -/
def ldUp (flit256 : Bool) (ld : Nat) (s : State) : State :=
  let s1 := bringAgent (ldOf s ld).agent (modLd ld (fun l => { l with coh := if flit256 then 2 else 1 }) s)
  let shared := ((ldOf s1 ld).offered ++ (ldOf s1 ld).accepted).filter (fun n => (regionOf s1 n).share)
  offerAll ld (if flit256 then s1 else each shared (fun n s => requestRelease ld n s) s1)

/-- Training ends (R298, R299): 256-byte flits at every rate, 68-byte flits at 16 and 32 GT/s only, the rate within HP_RATE_MAX. -/
def execLinkUp (link : Nat) (flit256 : Bool) (rate width : Nat) (s : State) : Answer :=
  let full := (linkLanes s link).2
  if !linkThere s link ∨ linkState s link ≠ 1 ∨ bit s.clk.hpxUnlocked (link / 2) = true ∨ rget Obj.HP_RATE_MAX (link / 2) s < rate ∨ (!flit256 && rate == 2)
      ∨ !([1, 2, 4, 8].contains width) ∨ full < width then .next s
  else
    let first := link / 2 * 8 + (linkLanes s link).1
    let s1 := each (List.range full) (fun k s => setBucket 0x20 (first + k) {} s) s
    let s2 := modLink link (fun l => { l with st := if flit256 then 2 else 3, upState := 0, rate := rate, width := width
                                              flit := if flit256 then 2 else 1, badLanes := [], rateDue := false }) s1
    .next (each (ldsOnLink s2 link) (ldUp flit256) s2)

/-- A data link goes down (R317): its holds are released, its agents die, and responses are discarded from now on. What was accepted is
carried through. -/
def linkFalls (h : Nat) (s : State) : State :=
  let s1 := modLink h (fun l => { l with st := 5, flit := 0 }) s
  let s2 := releaseHeld (fun x => x.link == h) s1
  each (ldsOnLink s2 h) (fun ld s => closeMailbox ld (killAgent (ldOf s ld).agent 1 s)) s2

/-- A link that is up, or in Recovery, goes down. -/
def execLinkDown (link : Nat) (s : State) : Answer :=
  if linkServes s link then .next (linkFalls link s) else .next s

/-- A link enters Recovery: a replay limit, or equalisation again. -/
def execLinkRecovery (link : Nat) (s : State) : Answer := .next (linkToRecovery link s)

/-- The widest of x4, x2 and x1 below the width in use, formed from lane 0 upwards or from the highest lane downwards, that leaves out
every failed lane (R299). -/
def narrower (s : State) (h : Nat) : Option Nat :=
  let l := linkOf s h
  let lanes := linkLanes s h
  let bad (k : Nat) : Bool := l.badLanes.contains (lanes.1 + k)
  [4, 2, 1].find? (fun w => decide (w ≤ l.width) && decide (w ≤ lanes.2) &&
    (!(List.range w).any bad || !(List.range w).any (fun k => bad (lanes.2 - 1 - k))))

/-- Recovery ends: in the same flit mode the link is up again, a width or rate step taken and counted if one was due; when it fails,
would change flit mode, or no step is left, the link goes down. -/
def execRecoveryEnd (link : Nat) (ok sameFlit : Bool) (s : State) : Answer :=
  let l := linkOf s link
  if l.st ≠ 4 then .next s
  else if !ok || !sameFlit then .next (linkFalls link s)
  else if l.rateDue then
    if l.rate = 0 then .next (linkFalls link s)
    else .next (rinc Obj.HL_DEGRADES link
      (modLink link (fun l => { l with st := l.upState, rate := l.rate - 1, rateDue := false, badLanes := [] }) s))
  else if l.badLanes.isEmpty then .next (modLink link (fun l => { l with st := l.upState }) s)
  else match narrower s link with
    | none => .next (linkFalls link s)
    | some w =>
      let s1 := modLink link (fun l => { l with st := l.upState, width := w }) s
      .next (if w < l.width then rinc Obj.HL_DEGRADES link s1 else s1)

/-- PERST_N of a link is low for 1 µs: an up link goes down, and the link does not train while it stays low. A B signal is ignored on
an x8 port. -/
def execPerst (link : Nat) (s : State) : Answer :=
  if !linkThere s link then .next s
  else .next (modLink link (fun l => { l with perst := true }) (if linkServes s link then linkFalls link s else s))

/-- PERST_N rises: the link proceeds under Table 13.3. -/
def execPerstRelease (link : Nat) (s : State) : Answer :=
  if linkThere s link then .next (modLink link (fun l => { l with perst := false }) s) else .next s

/-- A flit error attributed to lanes of a link feeds each lane's bucket (Table 17.2). A trip steps the link's width, or its rate when
every lane stands at half its threshold or more. -/
def execFlitError (link : Nat) (lanes : List Nat) (s : State) : Answer :=
  if !linkThere s link ∨ !linkServes s link then .next s
  else
    let ll := linkLanes s link
    let mine := lanes.eraseDups.filter (fun k => decide (ll.1 ≤ k) && decide (k < ll.1 + ll.2))
    let s1 := each mine (fun k s => bucketEvent 0x20 (link / 2 * 8 + k) 1 none 0 s) s
    let all := (List.range ll.2).all (fun k => decide (32 ≤ (bucketOf s1 0x20 (link / 2 * 8 + ll.1 + k)).level))
    if (linkOf s1 link).badLanes.length ≠ (linkOf s link).badLanes.length ∧ all = true then
      .next (modLink link (fun l => { l with rateDue := true }) s1)
    else .next s1

/-! ## Decoders (R25, R313) -/

/-- Bytes of a GiB. -/
def gib : Nat := 1073741824

/-- The device commits a decoder: one way, sizes and DPA in whole GiB within DC region 0, no overlap in HPA with a committed one, and
in order of number and HPA. -/
def decoderFits (s : State) (ld n hpa size dpa ways : Nat) : Bool :=
  let ds := (ldOf s ld).decoders
  let prev : Decoder := tget {} ds (n - 1)
  ways == 1 && decide (0 < size) && size % gib == 0 && dpa % gib == 0 && decide (dpa + size ≤ visibleGib s * gib)
    && !ds.any (fun p => p.2.committed && decide (p.2.hpa < hpa + size) && decide (hpa < p.2.hpa + p.2.size))
    && (n == 0 || (prev.committed && decide (prev.hpa ≤ hpa)))

/-- A configuration write sets Commit. A committed decoder ignores it. -/
def execDecoderCommit (ld n hpa size dpa ways : Nat) (s : State) : Answer :=
  let d : Decoder := tget {} (ldOf s ld).decoders n
  if 8 ≤ n ∨ !(ldOf s ld).enabled ∨ d.committed then .next s
  else
    let ok := decoderFits s ld n hpa size dpa ways
    .next (modLd ld (fun l => { l with decoders := tput {} l.decoders n ⟨hpa, size, dpa, ok, !ok, false⟩ }) s)

/-- A configuration write clears Commit: at once in HDM-H mode; in HDM-DB mode Committed clears when a recall of the decoder's range has
ended. -/
def execDecoderUncommit (ld n : Nat) (s : State) : Answer :=
  let d : Decoder := tget {} (ldOf s ld).decoders n
  if 8 ≤ n ∨ !(ldOf s ld).enabled ∨ !d.committed ∨ d.clearing then .next s
  else
    let put (d : Decoder) (s : State) : State := modLd ld (fun l => { l with decoders := tput {} l.decoders n d }) s
    if (ldOf s ld).coh = 2 then
      .next (startRange (d.dpa / gib) (d.size / gib) (some (ldOf s ld).agent) .inv (.decoder ld n) (put { d with clearing := true } s))
    else .next (put { d with committed := false } s)

/-! ## Resets and allocations (R21, R302, R315) -/

/-- A reset of one logical device (R315): what its meters hold is let through, decoders uncommit at once, slots reset; an agent that holds lines dies and is revived after its sweep,
another lives on holding nothing. -/
def resetLd (ld : Nat) (s : State) : State :=
  if !(ldOf s ld).enabled then s
  else
    let a := (ldOf s ld).agent
    let s0 := releaseHeld (fun h => heldLd h == ld && (match h.what with
      | .mem _ => false
      | _ => true)) s
    let s1 := closeMailbox ld (resetSlots ld (modLd ld (fun l => { l with decoders := [] }) s0))
    let s2 := if (agentOf s1 a).st = 1 ∧ holdsLines s1 a = true then declareDead a 3 s1 else s1
    if (agentOf s2 a).st = 2 ∨ (agentOf s2 a).st = 3 then bringAgent a s2 else s2

def execFunctionLevelReset (ld : Nat) (s : State) : Answer := .next (resetLd ld s)
def execCxlReset (ld : Nat) (s : State) : Answer := .next (resetLd ld s)

/-- The lowest host agent that belongs to no logical device. -/
def freeAgent (s : State) : Option Nat := lowest 64 (fun a => (ldOfAgent s a).isNone)

/-- Enable a logical device: its agent, fresh slots, and its mode and extents if its link is up (R21, R77, R302). -/
def enableLd (ld : Nat) (s : State) : Option State :=
  let l := ldOf s ld
  if l.enabled then some s
  else if 64 ≤ (s.lds.filter (fun p => p.2.enabled)).length ∨ l.berth = 0xFF then none
  else match freeAgent s with
    | none => none
    | some a =>
      let s1 := modLd ld (fun l => { enabled := true, agent := a, berth := l.berth, lastB3 := l.lastB3, lastB4 := l.lastB4 }) s
      let s2 := reshareBerth l.berth (resetSlots ld (modAgent a (fun _ => {}) s1))
      let st := (linkOf s2 (linkOfLd s2 ld)).st
      let st' := if st = 4 then (linkOf s2 (linkOfLd s2 ld)).upState else st
      some (if st' = 2 ∨ st' = 3 then ldUp (st' == 2) ld s2 else s2)

/-- Disable a logical device: its agent number is free at once, or once the sweep of an agent that holds lines has ended (R21). -/
def disableLd (ld : Nat) (s : State) : State :=
  let l := ldOf s ld
  if !l.enabled then s
  else
    let s1 := if (agentOf s l.agent).st = 1 ∧ holdsLines s l.agent = true then declareDead l.agent 3 s else s
    let sweeping := (agentOf s1 l.agent).st == 2
    let s2 := modLd ld (fun x => { berth := x.berth, leaving := sweeping, agent := if sweeping then x.agent else 0xFF
                                   lastB3 := x.lastB3, lastB4 := x.lastB4 }) s1
    closeMailbox ld <| reshareBerth l.berth (if sweeping then s2 else modAgent l.agent (fun _ => {}) s2)

/-- The entries of a Set LD Allocations in order, whole or not at all. -/
def allocate : List (Nat × Nat) → State → Option State
  | [], s => some s
  | (ld, n) :: r, s =>
    if n = 0 then allocate r (disableLd ld s)
    else match enableLd ld s with
      | none => none
      | some s1 => allocate r s1

end Sys2Proof.Machine
end

