-- ==== Sys2Proof/Machine/Seam.lean ====
section
/-! DEFINITION. The Seam link's own commands (R319 to R335, R357): training, frames, acknowledgement, spare lanes and loopback. -/

namespace Sys2Proof.Machine

/-! ## Training (R322 to R325, R335) -/

/-- A receiver is detected: training begins. -/
def execSeamDetect (port : Nat) (s : State) : Answer :=
  if port < 2 ∧ (seamOf s port).st = 1 ∧ rget Obj.SEAM_ENABLE port s = 1 then .next (modSeam port (fun q => { q with st := 2 }) s) else .next s

/-- Lanes of a map that are there. -/
def goodLanes (m : List Nat) : Nat := (m.filter (· < 18)).length

/-- The lane buckets of a port that trained from DOWN start at 0 again (R389). -/
def clearLanes (p : Nat) (s : State) : State := each (List.range 18) (fun l s => setBucket 0x30 (p * 36 + l) {} s) s

/-- The first port that is up again: writes that found no port are completed with their spans marked, and mirroring is taken up. -/
def rejoinMirror (p : Nat) (s : State) : State :=
  if servesTandem s && !portUp s (1 - p) && (s.pair.mirror == 0 || s.pair.mirror == 2) then suspendMirror s else s

/-- Training ends: failed (TRAINING), too long a flight (FLIGHT), a cable to the device itself (LOOPBACK), another unit than the
configured partner (MISMATCH), or up at x16 or x8 with the lane maps found: logical lanes in order, then spares 0 and 1. Both sides
start their sequence numbers, buffers and credits afresh. -/
def execSeamTrainingEnd (port unit flight : Nat) (ok : Bool) (rx tx : List Nat) (s : State) : Answer :=
  if 2 ≤ port ∨ (seamOf s port).st ≠ 2 then .next s
  else
    let n := min (goodLanes rx) (goodLanes tx)
    if !ok ∨ n < 8 then .next (linkGoesDown port 1 s)
    else if 500 < flight then .next (linkGoesDown port 2 (modSeam port (fun q => { q with flight := flight, partner := unit }) s))
    else
      let st := if unit = ownUnit s then 7 else if pairConfigured s && unit != partnerUnit s then 6 else if 16 ≤ n then 3 else 4
      let s1 := clearLanes port (modSeam port (fun q => {
        st := st, width := if st = 3 then 16 else if st = 4 then 8 else 0, partner := unit, flight := flight, rxMap := rx, txMap := tx, nextTag := q.nextTag, hseq := q.hseq, prbs := q.prbs }) s)
      if (st = 3 ∨ st = 4) ∧ pairConfigured s = true then .next (sendJoin (startMirror (rejoinMirror port s1))) else .next s1

/-- 1 ms after DOWN the port looks for a receiver again. -/
def execSeamDownTimeout (port : Nat) (s : State) : Answer :=
  if port < 2 ∧ (seamOf s port).st = 5 then .next (modSeam port (fun q => { q with st := 1 }) s) else .next s

/-- A port that trains, is up, or is looped back goes DOWN for a cause of SEAM_DOWN_CAUSE (R335, R338). -/
def execSeamLinkDown (port cause : Nat) (s : State) : Answer :=
  let st := (seamOf s port).st
  if port < 2 ∧ (st = 2 ∨ st = 3 ∨ st = 4 ∨ st = 7) ∧ 1 ≤ cause ∧ cause ≤ 6 then .next (linkGoesDown port cause s) else .next s

/-! ## Frames (R326 to R331) -/

/-- An IDLE frame: only its header acknowledges. -/
def execIdleFrame (port : Nat) (frame : List Byte) (s : State) : Answer :=
  .next (receiveFrame port 0 frame (fun _ s => rinc Obj.SEAM_FRAMES_RX port s) s)

/-- A CELL frame: its cells are delivered in order. -/
def execCellFrame (port : Nat) (frame : List Byte) (s : State) : Answer :=
  .next (receiveFrame port 1 frame (fun h s => acceptFrame port h frame s) s)

/-- A DATA frame: a part of a long message, delivered with its last one. -/
def execDataFrame (port : Nat) (frame : List Byte) (s : State) : Answer :=
  .next (receiveFrame port 2 frame (fun h s => acceptFrame port h frame s) s)

/-- Credits that a CTRL frame's payload returns, when its valid bit is set. -/
def takeCredits (p : Nat) (frame : List Byte) (s : State) : State :=
  let c := leNat ((frame.drop 8).take 8)
  if bit c 48 then pump p (modSeam p (fun q => { q with freedByPartner := [bits c 0 12, bits c 12 12, bits c 24 12, bits c 36 12] }) s)
  else s

/-- A CTRL frame: credits and acknowledgement. The spare message, heartbeat and loopback it may carry are commands of their own. -/
def execCtrlFrame (port : Nat) (frame : List Byte) (s : State) : Answer :=
  .next (receiveFrame port 3 frame (fun _ s => takeCredits port frame (rinc Obj.SEAM_FRAMES_RX port s)) s)

/-- SEAM_ACK_FORCE has run: what has arrived is acknowledged and what was freed is returned (R327, R330). -/
def execAckForce (port : Nat) (s : State) : Answer :=
  let q := seamOf s port
  if portUp s port && (decide (0 < q.unacked) || q.toReturn.any (fun n => decide (0 < n))) then .next (returnCredits port true s) else .next s

/-- The oldest unacknowledged frame has waited SEAM_REPLAY_TIMEOUT. -/
def execSeamReplayTimeout (port : Nat) (s : State) : Answer :=
  if portUp s port && !(seamOf s port).replay.isEmpty then .next (replayAll port s) else .next s

/-- The expected frame has still not come twice the forcing time after a NAK. -/
def execNakResendTimeout (port : Nat) (s : State) : Answer :=
  if portUp s port && (seamOf s port).nakOut then .next (rinc Obj.SEAM_NAKS_SENT port (sendCtrl port {} true true s)) else .next s

/-- A SKP ordered set: elastic buffers absorb the clock difference; nothing else changes (R321). -/
def execSkpOrderedSet (_port : Nat) (s : State) : Answer := .next s

/-! ## Lane faults and spares (R332 to R335) -/

/-- Physical receive lanes see an invalid sync header or, with `lost`, lose block lock: each feeds its bucket, and three or more logical
lanes that lose lock at once take the link down. -/
def execBlockLockLoss (port : Nat) (lanes : List Nat) (lost : Bool) (s : State) : Answer :=
  if !portUp s port then .next s
  else
    let q := seamOf s port
    let ls := lanes.eraseDups.filter (fun l => decide (l < 18))
    let s1 := each ls (fun l s => laneEvent port l s) s
    let logical := ls.filter (fun l => decide (q.rxMap.idxOf l < q.width))
    if lost ∧ 3 ≤ logical.length then .next (linkGoesDown port 5 (settleLanes s1)) else .next (settleLanes s1)

/-- T receives SPARE REQ: lane `lane` is copied onto the spare and CONF answers; a repeat is answered again. -/
def execSpareReq (port lane spare sseq : Nat) (s : State) : Answer :=
  if portUp s port ∧ lane < 16 ∧ spare < 2 then
    .next (sendSpare port lane spare 2 sseq (modSeam port (fun q => { q with copy := some (lane, spare, sseq) }) s))
  else .next s

/-- R receives SPARE CONF and checks 32 frames: passed, it switches and sends DONE, and a repeat gets DONE again. A spare that does not
pass is marked failed, and the lane is replaced anew. -/
def execSpareConf (port sseq : Nat) (ok : Bool) (s : State) : Answer :=
  let q := seamOf s port
  match q.swap with
  | none => .next s
  | some w =>
    if w.sseq ≠ sseq ∨ !portUp s port then .next s
    else if w.confirmed then .next (sendSpare port w.lane w.spare 3 sseq s)
    else
      let old := q.rxMap.getD w.lane 31
      let new := q.rxMap.getD (16 + w.spare) 31
      if ok then
        .next (sendSpare port w.lane w.spare 3 sseq (rinc Obj.SEAM_SPARE_SWAPS port (modSeam port (fun q => { q with
          rxMap := (q.rxMap.set w.lane new).set (16 + w.spare) old, rxBad := old :: q.rxBad, swap := some { w with confirmed := true } }) s)))
      else
        let s1 := modSeam port (fun q => { q with rxBad := new :: q.rxBad, swap := none }) s
        .next (settleLanes { s1 with seam := { s1.seam with spareDue := s1.seam.spareDue ++ [port * 36 + old] } })

/-- T receives SPARE DONE: it stops driving the replaced lane, and its map changes. -/
def execSpareDone (port lane spare sseq : Nat) (s : State) : Answer :=
  let q := seamOf s port
  if q.copy = some (lane, spare, sseq) ∧ portUp s port then
    let old := q.txMap.getD lane 31
    .next (modSeam port (fun q => { q with
      txMap := (q.txMap.set lane (q.txMap.getD (16 + spare) 31)).set (16 + spare) old, txBad := old :: q.txBad, copy := none }) s)
  else .next s

/-- 1 µs without an answer: REQ is sent again until CONF comes, and CONF until DONE comes. -/
def execSpareResend (port : Nat) (s : State) : Answer :=
  let q := seamOf s port
  if !portUp s port then .next s
  else
    let s1 := match q.swap with
      | some w => if w.confirmed then s else sendSpare port w.lane w.spare 1 w.sseq s
      | none => s
    .next (match q.copy with
      | some (lane, spare, sseq) => sendSpare port lane spare 2 sseq s1
      | none => s1)

/-! ## Loopback (R331, R357) -/

/-- One bit of the PRBS-23 sequence. -/
def prbsBit (r : Nat) : Nat := (r * 2) % 8388608 + (r / 4194304 + r / 131072) % 2

/-- `n` bytes of the sequence, least significant bit first, and the register after them. -/
def prbsBytes : Nat → Nat → List Byte × Nat
  | 0, r => ([], r)
  | n + 1, r =>
    let step (p : Nat × Nat) (k : Nat) : Nat × Nat := let r' := prbsBit p.2; (p.1 + r' % 2 * 2 ^ k, r')
    let b := (List.range 8).foldl step (0, r)
    let (bs, r') := prbsBytes n b.2
    (BitVec.ofNat 8 b.1 :: bs, r')

/-- A loopback request is echoed unchanged; a port looped back to the device carries these frames too. -/
def execLoopbackRequest (port : Nat) (pattern : List Byte) (s : State) : Answer :=
  if portUp s port || (seamOf s port).st == 7 then .next (sendCtrl port { loopback := some (2, pattern) } false false s) else .next s

/-- A loopback failure: counted, in the health report and its sticky summary bit. -/
def loopFails (s : State) : State :=
  rinc Obj.SEAM_LOOPBACK_FAILS 0 { s with hlt := { s.hlt with
    echoFails := (s.hlt.echoFails + 1) % 4294967296, stickyHealth := s.hlt.stickyHealth ||| 64 } }

/-- A loopback echo is compared with its request. -/
def execLoopbackEcho (port : Nat) (pattern : List Byte) (s : State) : Answer :=
  match (seamOf s port).loop with
  | none => .next s
  | some sent =>
    let s1 := modSeam port (fun q => { q with loop := none })
      { s with hlt := { s.hlt with echoes := (s.hlt.echoes + 1) % 4294967296 } }
    .next (if pattern = sent then s1 else loopFails s1)

/-- A loopback request whose echo has not come. -/
def execLoopbackEchoTimeout (port : Nat) (s : State) : Answer :=
  match (seamOf s port).loop with
  | none => .next s
  | some _ => .next (loopFails (modSeam port (fun q => { q with loop := none }) s))

/-- Every SEAM_LOOPBACK_PERIOD each up port sends 127 bytes of a PRBS-23 sequence that goes on from its previous request. -/
def execSeamLoopbackPeriod (s : State) : Answer :=
  .next (each ([0, 1].filter (portUp s)) (fun p s =>
    let r := (seamOf s p).prbs
    let (bs, r') := prbsBytes 127 (if r = 0 then 8388607 else r)
    sendCtrl p { loopback := some (1, bs) } false false (modSeam p (fun q => { q with prbs := r', loop := some bs }) s)) s)

end Sys2Proof.Machine
end

