-- ==== Sys2Proof/Machine/Islands.lean ====
section
/-! DEFINITION. The clocked islands' PLLs (R41, R45): losing lock and relocking. -/

namespace Sys2Proof.Machine

/-- ISLAND_LOCK: a bit for each island that is in lock. -/
def islandLock (s : State) : Nat := ((List.range 9).filter (fun n => !bit s.clk.unlocked n)).foldl (fun m n => m + 2 ^ n) 0

/-- What stood in landing FIFOs that lead into a resetting island is discarded and counted (R45). How many entries that is, the model does
not hold: a free value. -/
def fifoFlush (s : State) : State :=
  let (v, s1) := fresh s
  radd Obj.LANDING_FIFO_DISCARDS 0 v s1

/-- What becomes of an island's interfaces when its PLL loses lock (R41); `port` is the host or Seam port concerned. -/
def islandStops (island port : Nat) (s : State) : State :=
  match island with
  | 0 => each [2 * port, 2 * port + 1] (fun h s => if linkServes s h then linkFalls h s else s)
      { s with clk := { s.clk with hpxUnlocked := s.clk.hpxUnlocked ||| 2 ^ port } }
  | 1 => (if (seamOf s port).st = 0 then id else linkGoesDown port 6)
      { s with clk := { s.clk with slxUnlocked := s.clk.slxUnlocked ||| 2 ^ port } }
  | 2 => each (List.range 24) (fun c s => loseChannel c 2 s) s
  | 3 => each (List.range 32) (fun c s => loseFlash c true s) s
  | 5 => { s with clk := { s.clk with nixSilent := true } }
  | 7 => { s with clk := { s.clk with tsxHeld := true } }
  | _ => s

/-- PLL_LOCK_LOSS (R41): the island is held in reset. In MGX the device restarts (cause 5). The record of SOURCE 0xA5 has class 1, a DESIGN
CHOICE, and names the island in DETAIL. -/
def execPllLockLoss (island port : Nat) (s : State) : Answer :=
  if 9 ≤ island ∨ (island = 0 ∧ 8 ≤ port) ∨ (island = 1 ∧ 2 ≤ port) ∨ s.boot.held ≠ 0 then .next s
  else
    let s1 := logError 0xA5 0 1 none island { s with clk := { s.clk with unlocked := s.clk.unlocked ||| 2 ^ island } }
    if island = 4 then .next (enterReset 5 false false s1)
    else .next (islandStops island port (if island ≤ 3 then fifoFlush s1 else s1))

/-- PLL_RELOCK (R41): the island leaves reset; its ports may train again, flash channels that FLX lost come back (R294), and TSX counts on
from its held value. -/
def execPllRelock (island port : Nat) (s : State) : Answer :=
  let clr (m n : Nat) : Nat := if bit m n then m - 2 ^ n else m
  let hpx := if island = 0 then clr s.clk.hpxUnlocked port else s.clk.hpxUnlocked
  let slx := if island = 1 then clr s.clk.slxUnlocked port else s.clk.slxUnlocked
  let still := (island = 0 ∧ hpx ≠ 0) ∨ (island = 1 ∧ slx ≠ 0)
  let c : Clock := { s.clk with
    unlocked := if still then s.clk.unlocked else clr s.clk.unlocked island
    hpxUnlocked := hpx, slxUnlocked := slx
    nixSilent := if island = 5 then s.clk.backupOsc else s.clk.nixSilent
    tsxHeld := if island = 7 then false else s.clk.tsxHeld }
  let s1 := { s with clk := c }
  if island = 3 then execFlxRelock s1 else .next s1

end Sys2Proof.Machine
end

