-- ==== Sys2Proof/Machine/Tile.lean ====
section
/-! DEFINITION. Tile descriptors (R134 to R147): layouts, packing, conversions, declarations, their results; and the report of a tile
checksum failure (R397). -/

namespace Sys2Proof.Machine

/-! ## Layout and packing (R134 to R136) -/

/-- A matrix as it lies in a tile: format, scaling, layout and geometry. -/
structure Shape where
  fmt : Nat
  bs : Bool
  layout : Nat
  rows : Nat
  cols : Nat

/-- Block height and width of a LAYOUT (Table 06.3). -/
def blockH (layout : Nat) : Nat := 2 ^ bits layout 2 3
def blockW (layout : Nat) : Nat := 2 ^ bits layout 5 3

/-- A LAYOUT code that R135 allows. -/
def layoutOk (layout : Nat) : Bool :=
  decide (bits layout 0 2 ≤ 1) && decide (bits layout 8 2 ≤ 1) && decide (bits layout 10 6 = 0)

/-- Scaling blocks of a tile of element width `b` (R136). -/
def scaleBlocks (b : Nat) : Nat := 65536 / (4 * b + 1)

/-- Elements a tile can hold (Table 06.4). -/
def capacity (fmt : Nat) (bs : Bool) : Nat := if bs then 32 * scaleBlocks (fmtBits fmt) else 65536 * 8 / fmtBits fmt

/-- Storage index of element (row, col) (R135). -/
def storageIndex (q : Shape) (row col : Nat) : Nat :=
  let bh := blockH q.layout
  let bw := blockW q.layout
  let blk := if bits q.layout 0 2 = 0 then row / bh * (q.cols / bw) + col / bw else col / bw * (q.rows / bh) + row / bh
  let off := if bits q.layout 8 2 = 0 then row % bh * bw + col % bw else col % bw * bh + row % bh
  blk * (bh * bw) + off

/-- Element of a storage index: the inverse of `storageIndex`. -/
def elementAt (q : Shape) (n : Nat) : Nat × Nat :=
  let bh := blockH q.layout
  let bw := blockW q.layout
  let blk := n / (bh * bw)
  let off := n % (bh * bw)
  let (br, bc) := if bits q.layout 0 2 = 0 then (blk / (q.cols / bw), blk % (q.cols / bw)) else (blk % (q.rows / bh), blk / (q.rows / bh))
  let (r, c) := if bits q.layout 8 2 = 0 then (off / bw, off % bw) else (off % bh, off / bh)
  (br * bh + r, bc * bw + c)

/-- Element `n` of width `b` in packed bytes (R134). -/
def unpackAt (bs : List Byte) (b n : Nat) : Nat :=
  let o := n * b
  leNat ((bs.drop (o / 8)).take ((b + 14) / 8)) / 2 ^ (o % 8) % 2 ^ b

/-- Codes of width `b` packed in order, from the last to the first. -/
def packNat (b : Nat) : List Nat → Nat
  | [] => 0
  | c :: r => c % 2 ^ b + 2 ^ b * packNat b r

/-- Packed bytes of a list of codes. -/
def packCodes (b : Nat) (cs : List Nat) : List Byte := natLE ((cs.length * b + 7) / 8) (packNat b cs)

/-- Bytes of one packed row. -/
def rowBytes (fmt cols : Nat) : Nat := cols * fmtBits fmt / 8

/-- A list of bytes made `n` long with zeros. -/
def padTo (n : Nat) (bs : List Byte) : List Byte := (bs ++ List.replicate (n - bs.length) 0).take n

/-- The value of a tile's element, its block's scale applied (R137). -/
def tileValue (q : Shape) (bytes : List Byte) (row col : Nat) : Val :=
  let b := fmtBits q.fmt
  let n := storageIndex q row col
  let c := unpackAt bytes b n
  if q.bs then scaledVal q.fmt ((bytes.getD (4 * b * scaleBlocks b + n / 32) 0).toNat) c else decodeVal q.fmt c

/-! ## Encoding a destination (R138 to R141, R144) -/

/-- Counts and flags of a conversion. -/
structure Tally where
  fl : Fl := {}
  sat : Nat := 0
  nan : Nat := 0

/-- One more element's flags. -/
def Tally.add (t : Tally) (fl : Fl) : Tally := { t with fl := t.fl.or fl, sat := t.sat + b2n fl.sat }

/-- Consecutive blocks of 32 values. -/
def blocks32 : Nat → List Val → List (List Val)
  | 0, _ => []
  | n + 1, vs => if vs.isEmpty then [] else vs.take 32 :: blocks32 n (vs.drop 32)

/-- Values in storage order without block scaling: their codes, and the tally. -/
def encodePlain (fmt : Nat) (mode : RMode) (sat : Bool) (vs : List Val) (t : Tally) : List Nat × Tally :=
  let es := vs.map (encodeVal fmt mode sat)
  (es.map (·.1), es.foldl (fun t e => t.add e.2) t)

/-- One scaling block: its scale byte, codes padded to 32, and the tally. -/
def encodeScaleBlock (fmt : Nat) (mode : RMode) (vs : List Val) (t : Tally) : Nat × List Nat × Tally :=
  let (s, clamped) := blockScale fmt vs
  let es := vs.map (encodeScaled fmt mode s clamped)
  (s, es.map (·.1) ++ List.replicate (32 - vs.length) 0,
    es.foldl (fun t e => t.add e.2) (t.add { invalid := vs.any isSnan, overflow := clamped }))

/-- Every scaling block in order. -/
def encodeBlocks (fmt : Nat) (mode : RMode) (bl : List (List Val)) (t : Tally) : List Nat × List Nat × Tally :=
  bl.foldl (fun a vs =>
    let (s, cs, t') := encodeScaleBlock fmt mode vs a.2.2
    (a.1 ++ [s], a.2.1 ++ cs, t')) ([], [], t)

/-- The 65,536 bytes of a destination tile (R136), and the tally. -/
def tileBytes (q : Shape) (mode : RMode) (sat : Bool) (val : Nat → Nat → Val) : List Byte × Tally :=
  let vs := (List.range (q.rows * q.cols)).map (fun n => val (elementAt q n).1 (elementAt q n).2)
  let t0 : Tally := { nan := (vs.filter isNan).length }
  let b := fmtBits q.fmt
  if q.bs then
    let (ss, cs, t) := encodeBlocks q.fmt mode (blocks32 (q.rows * q.cols) vs) t0
    (padTo 65536 (padTo (4 * b * scaleBlocks b) (packCodes b cs) ++ ss.map (BitVec.ofNat 8)), t)
  else
    let (cs, t) := encodePlain q.fmt mode sat vs t0
    (padTo 65536 (packCodes b cs), t)

/-- The packed rows of a strided destination, and the tally. -/
def stridedRows (fmt rows cols : Nat) (mode : RMode) (sat : Bool) (val : Nat → Nat → Val) : List (List Byte) × Tally :=
  (List.range rows).foldl (fun a i =>
    let vs := (List.range cols).map (val i)
    let (cs, t) := encodePlain fmt mode sat vs { a.2 with nan := a.2.nan + (vs.filter isNan).length }
    (a.1 ++ [packCodes (fmtBits fmt) cs], t)) ([], {})

/-! ## The descriptor (R142, R143) -/

/-- A tile descriptor's fields (Tables 06.6, 06.7). -/
structure Desc where
  op : Nat
  srcTile : Bool
  dstTile : Bool
  sfmt : Nat
  dfmt : Nat
  dbs : Bool
  sat : Bool
  rmode : Nat
  layout : Nat
  rows : Nat
  cols : Nat
  src : Nat
  dst : Nat
  sstride : Nat
  dstride : Nat
  user : Nat

/-- The fields of 64 bytes. -/
def descOf (bs : List Byte) : Desc :=
  let w := leAt bs 0 8
  ⟨bits w 0 2, bit w 2, bit w 3, bits w 4 4, bits w 8 4, bit w 12, bit w 13, bits w 14 2, bits w 16 16, bits w 32 16, bits w 48 16,
    bits (leAt bs 8 8) 0 49, bits (leAt bs 16 8) 0 49, leAt bs 24 4, leAt bs 28 4, leAt bs 32 8⟩

/-- Reserved bits of a descriptor are zero, and its DCRC holds. -/
def descSound (bs : List Byte) : Bool :=
  crcHolds bs 60 && bits (leAt bs 8 8) 49 15 == 0 && bits (leAt bs 16 8) 49 15 == 0 && leAt bs 40 20 == 0

/-- Bytes a strided matrix spans. -/
def stridedSpan (fmt rows cols stride : Nat) : Nat := if rows = 0 then 0 else (rows - 1) * stride + rowBytes fmt cols

/-- Checks of a strided matrix (R143): address alignment, COLS for narrow formats, and stride. -/
def stridedOk (fmt rows cols addr stride : Nat) : Bool :=
  let _ := rows
  addr % (max 1 (fmtBits fmt / 8)) == 0 && (fmtBits fmt != 4 || cols % 2 == 0) && (fmtBits fmt != 6 || cols % 4 == 0)
    && decide (rowBytes fmt cols ≤ stride)

/-- Checks of a destination tile's geometry (R143). -/
def tileGeometryOk (d : Desc) (rows cols : Nat) : Bool :=
  decide (rows * cols ≤ capacity d.dfmt d.dbs) && rows % blockH d.layout == 0 && cols % blockW d.layout == 0

/-- Two byte ranges share a byte. -/
def rangesMeet (a n b m : Nat) : Bool := decide (a < b + m) && decide (b < a + n) && decide (0 < n) && decide (0 < m)

/-- Checks that need no header (R143). -/
def descOk (bs : List Byte) : Bool :=
  let d := descOf bs
  descSound bs && decide (d.op ≤ 2) && decide (d.rmode ≤ 2) && decide (d.dfmt ≤ 0xB) && decide (d.sfmt ≤ 0xB)
  && (if d.op = 0 then
        (if d.srcTile then d.sfmt == 0 && d.rows == 0 && d.cols == 0 && d.sstride == 0 && d.src % 65536 == 0
         else stridedOk d.sfmt d.rows d.cols d.src d.sstride)
      else !d.srcTile && d.src == 0 && d.sstride == 0 && d.dstTile)
  && (if d.dstTile then layoutOk d.layout && d.dstride == 0 && d.dst % 65536 == 0 else !d.dbs && d.layout == 0)

/-- Checks that need the geometry, which a tile source's header gives. -/
def geometryOk (d : Desc) (rows cols : Nat) : Bool :=
  (if d.dstTile then tileGeometryOk d rows cols else stridedOk d.dfmt rows cols d.dst d.dstride)
  && (d.op != 0 || !rangesMeet d.src (if d.srcTile then 65536 else stridedSpan d.sfmt rows cols d.sstride)
      d.dst (if d.dstTile then 65536 else stridedSpan d.dfmt rows cols d.dstride))

/-- Rows of a strided matrix as byte ranges that may be read, or written, by a berth. -/
def stridedMay (s : State) (j : Job) (fmt rows cols addr stride : Nat) (w : Bool) : Bool :=
  (List.range rows).all (fun i => devMayRange s j.berth j.world (addr + i * stride) (rowBytes fmt cols) w)

/-- The berth reaches the source, or the destination (R143). -/
def mayReadSrc (s : State) (j : Job) (d : Desc) : Bool :=
  if d.op ≠ 0 then true
  else if d.srcTile then devMayRange s j.berth j.world d.src 65536 false
  else stridedMay s j d.sfmt d.rows d.cols d.src d.sstride false
def mayWriteDst (s : State) (j : Job) (d : Desc) (rows cols : Nat) : Bool :=
  if d.dstTile then devMayRange s j.berth j.world d.dst 65536 true
  else stridedMay s j d.dfmt rows cols d.dst d.dstride true

/-! ## Running a descriptor (R144 to R147) -/

/-- A descriptor under way. -/
def convOf (s : State) (key : Nat) : Option ConvRun := tget none s.jobs.convs key
def setConv (key : Nat) (r : Option ConvRun) (s : State) : State :=
  { s with jobs := { s.jobs with convs := tput none s.jobs.convs key r } }

/-- A descriptor ends: its result record is written and counted, and the job is DONE after its last one (R147, R210). -/
def endDesc (ref index : Nat) (r : ConvRun) (s : State) : State :=
  match jobOf s ref with
  | none => s
  | some j =>
    let key := convKey ref index
    let bytes := natLE 4 (r.code + 256 * r.flags) ++ natLE 4 r.tcrc ++ natLE 4 r.sat ++ natLE 4 r.nan
    let s1 := devStore j.berth (j.result + 64 + 16 * index) bytes false
      (setConv key none (dropServed (unitConv ref index) (dropServed (unitConvDesc ref index) (dropServed (unitConvWrite ref index) s))))
    let s2 := rinc Obj.CONV_DESCRIPTORS 0 (if r.code = 0 then s1 else rinc Obj.CONV_NOT_OK 0 s1)
    let s3 := if r.code = 6 then rinc Obj.CONV_UNSEALED 0 s2 else s2
    let j' := { j with descDone := j.descDone ++ [index], descNotOk := j.descNotOk + b2n (r.code != 0) }
    let s4 := setJob ref (some j') s3
    if r.residue then
      endOrStop ref 0x31 0x09 (countRes (j.bound.getD (index % max 1 j.panels) 0) .failed s4)
    else if j'.descDone.length = j.arg then endJob ref 0x10 0 s4
    else s4

/-- A descriptor ends before it reads or writes any data. -/
def refuseDesc (ref index code : Nat) (s : State) : State :=
  endDesc ref index { code := code } (match jobOf s ref with
    | some j => if code = 2 then permRefused j.berth s else s
    | none => s)

/-- Lines that the source of a descriptor takes up. -/
def sourceLines (d : Desc) : List Nat :=
  if d.op ≠ 0 then (List.range 1024).map (· + d.dst / 64)
  else if d.srcTile then (List.range 1024).map (· + d.src / 64)
  else ((List.range d.rows).flatMap (fun i => linesOf (d.src + i * d.sstride) (rowBytes d.sfmt d.cols))).eraseDups

/-- Bytes `n` from an address among the lines read. -/
def bytesAt (lines : List Nat) (bytes : List Byte) (addr n : Nat) : List Byte :=
  (List.range n).map (fun i => bytes.getD (lines.idxOf ((addr + i) / 64) * 64 + (addr + i) % 64) 0)

/-- The value of a source element. -/
def sourceValue (d : Desc) (h : TileHdr) (lines : List Nat) (bytes : List Byte) (row col : Nat) : Val :=
  if d.srcTile then tileValue ⟨h.fmt, h.bs, h.layout, h.rows, h.cols⟩ bytes row col
  else decodeVal d.sfmt (unpackAt (bytesAt lines bytes (d.src + row * d.sstride) (rowBytes d.sfmt d.cols)) (fmtBits d.sfmt) col)

/-- One destination line written by a descriptor. -/
def convWrite (ref index berth line : Nat) (data : List Byte) (mask : List Bool) (poison : Bool) (s : State) : State :=
  devReq (.dev (unitConvWrite ref index)) line (.devWrite data mask poison) berth s

/-- Write a byte range with partial-line writes where a line is not whole; the number of writes. -/
def convStore (ref index berth addr : Nat) (bs : List Byte) (poison : Bool) (s : State) : State :=
  each (linesOf addr bs.length) (fun l s =>
    let inside (i : Nat) : Bool := decide (addr ≤ l * 64 + i) && decide (l * 64 + i < addr + bs.length)
    convWrite ref index berth l ((List.range 64).map (fun i => if inside i then bs.getD (l * 64 + i - addr) 0 else 0))
      ((List.range 64).map inside) poison s) s

/-- What a descriptor writes: address and bytes of each piece. -/
def destPieces (d : Desc) (rows cols : Nat) (val : Nat → Nat → Val) : List (Nat × List Byte) × Tally :=
  if d.dstTile then
    let (bs, t) := tileBytes ⟨d.dfmt, d.dbs, d.layout, rows, cols⟩ (modeOf d.rmode) d.sat val
    ([(d.dst, bs)], t)
  else
    let (rs, t) := stridedRows d.dfmt rows cols (modeOf d.rmode) d.sat val
    (rs.zipIdx.map (fun p => (d.dst + p.2 * d.dstride, p.1)), t)

/-- Geometry of a descriptor: the source header's for a tile source. -/
def descRows (d : Desc) (h : TileHdr) : Nat := if d.op = 0 && d.srcTile then h.rows else d.rows
def descCols (d : Desc) (h : TileHdr) : Nat := if d.op = 0 && d.srcTile then h.cols else d.cols

/-- Step 1 of R144: the checks of R143, then the source header and the reads of the source lines. -/
def beginDesc (ref index : Nat) (j : Job) (bs : List Byte) (poison : Bool) (s : State) : State :=
  let d := descOf bs
  let key := convKey ref index
  if poison ∨ !descOk bs then refuseDesc ref index 1 s
  else if !d.srcTile ∧ d.op ≠ 2 ∧ !geometryOk d d.rows d.cols then refuseDesc ref index 1 s
  else if !mayReadSrc s j d then refuseDesc ref index 2 s
  else
    let go (h : TileHdr) (s : State) : State :=
      if !mayWriteDst s j d (descRows d h) (descCols d h) then refuseDesc ref index 2 s
      else
        let run : ConvRun := {
          hdr := h
          src := if d.op = 0 && d.srcTile then some (d.src / 65536) else none
          dst := if d.dstTile then some (d.dst / 65536) else none }
        askLines (unitConv ref index) j.berth (if d.op = 2 then [] else sourceLines d) (setConv key (some run) s)
    if d.op = 0 ∧ d.srcTile = true then
      let (s1, ready) := hdrReady (d.src / 65536) false s
      if !ready then s1
      else
        let h := hdrOf s1 (d.src / 65536)
        if !h.typed then (if mayWriteDst s1 j d 0 0 then refuseDesc ref index 5 s1 else refuseDesc ref index 2 s1)
        else if !geometryOk d h.rows h.cols then refuseDesc ref index 1 s1
        else go h s1
    else go {} s

/-- The destination's writes go out (R144 step 3), or poison in their place (R146); DECLARE writes no data. -/
def writeDesc (ref index : Nat) (j : Job) (d : Desc) (r : ConvRun) (lines : List Nat) (bytes : List Byte) (poison residue : Bool)
    (s : State) : State :=
  let key := convKey ref index
  let sealedCheck := d.op == 0 && d.srcTile && r.hdr.sealed
  let changed := sealedCheck && !r.srcIntact
  let bad := sealedCheck && r.srcIntact && !poison && crc32c bytes != r.hdr.tcrc
  let check := bad || residue
  let s0 := if bad then startCheck (d.src / 65536) (rinc Obj.TCRC_FAIL_SOURCE 0 s) else s
  let rows := descRows d r.hdr
  let cols := descCols d r.hdr
  let fail := check || poison
  let zero (n : Nat) : List Byte := List.replicate n 0
  let (pieces, tally) : List (Nat × List Byte) × Tally :=
    if d.op = 2 then ([], {})
    else if fail then
      (if d.dstTile then [(d.dst, zero 65536)]
        else (List.range rows).map (fun i => (d.dst + i * d.dstride, zero (rowBytes d.dfmt cols))), {})
    else if d.op = 1 then ([], {})
    else destPieces d rows cols (sourceValue d r.hdr lines bytes)
  let owed := (pieces.map (fun p => (linesOf p.1 p.2.length).length)).sum
  let (tcrc, s1) := if d.op = 2 ∨ !d.dstTile then (0, s0)
    else if fail then (let (v, s') := fresh s0; (v % 4294967296, s'))
    else (crc32c (if d.op = 1 then bytes else (pieces.map (·.2)).flatten), s0)
  let r' : ConvRun := { r with
    writing := true, owed := owed, tcrc := tcrc, residue := residue
    dstIntact := if d.op = 0 then true else r.dstIntact
    code := if check then 4 else if poison then 3 else if changed then 7 else 0
    flags := tally.fl.word, sat := tally.sat, nan := tally.nan }
  each pieces (fun p s => convStore ref index j.berth p.1 p.2 fail s) (setConv key (some r') (dropServed (unitConv ref index) s1))

/-- The header a descriptor writes (R144 step 3, R145). -/
def descHeader (d : Desc) (r : ConvRun) (sealed : Bool) (old : TileHdr) : TileHdr :=
  if d.op = 2 then { hver := 1, kslot := old.kslot, kgen := old.kgen }
  else { old with
    hver := 1, typed := true, fmt := d.dfmt, bs := d.dbs, layout := d.layout, rows := descRows d r.hdr, cols := descCols d r.hdr
    srcfmt := d.sfmt, rmode := d.rmode, user := d.user, tcrc := r.tcrc, sealed := sealed }

/-- Every destination write is accepted: the header of a tile destination is written, and the descriptor ends. -/
def closeDesc (ref index : Nat) (d : Desc) (r : ConvRun) (s : State) : State :=
  if !d.dstTile then endDesc ref index r s
  else
    let t := d.dst / 65536
    let (s1, ready) := hdrReady t true s
    if !ready then s1
    else
      let sealed := r.dstIntact && (r.code == 0 || r.code == 7) && d.op != 2
      let code := if r.code = 0 ∧ d.op ≠ 2 ∧ r.dstIntact = false then 6 else r.code
      endDesc ref index { r with code := code } (writeHdr t (some (unitConvWrite ref index)) (descHeader d r sealed) s1)

/-- A descriptor of operation `op` goes on as far as it can: it reads its descriptor line, checks it, reads its source, writes its
destination, and ends. Descriptor i is run by the placement's panel i mod PANELS, after the one before it there. -/
def stepDesc (op : Nat) (d : DescRef) (s : State) : State :=
  match jobOf s d.job with
  | none => s
  | some j =>
    let i := d.index
    if j.kind ≠ 1 ∨ j.code ≠ 2 ∨ j.step ≠ 0 ∨ j.ending ≠ none ∨ j.arg ≤ i ∨ j.descDone.contains i
      ∨ (j.panels ≤ i ∧ !j.descDone.contains (i - j.panels)) then s
    else
      let line := j.image / 64 + i
      let s0 := askLines (unitConvDesc d.job i) j.berth [line] s
      match gotLines s0 (unitConvDesc d.job i) [line] with
      | none => s0
      | some (bs, poison) =>
        let q := descOf bs
        if q.op ≠ op ∧ !(op = 0 ∧ (q.op = 3 ∨ poison)) then s0
        else match convOf s0 (convKey d.job i) with
          | none => beginDesc d.job i j bs poison s0
          | some r =>
            if r.writing then
              if (servedFor s0 (unitConvWrite d.job i)).length = r.owed then closeDesc d.job i q r s0 else s0
            else
              let lines := if q.op = 2 then [] else sourceLines q
              match gotLines s0 (unitConv d.job i) lines with
              | none => s0
              | some (bytes, p) => writeDesc d.job i j q r lines bytes p d.residueFailed s0

/-- CONVERT (R144). -/
def execConvert (d : DescRef) (s : State) : Answer := .next (stepDesc 0 d s)

/-- DECLARE (R145). -/
def execDeclare (d : DescRef) (s : State) : Answer := .next (stepDesc 1 d s)

/-- UNDECLARE (R145). -/
def execUndeclare (d : DescRef) (s : State) : Answer := .next (stepDesc 2 d s)

/-- TILE_CHECKSUM_FAILURE: a check finds that a resident sealed tile fails its TCRC (R397). -/
def execTileChecksumFailure (tile : Nat) (s : State) : Answer :=
  let g := tagOf s tile
  if g.st < 3 then .next s
  else if keyMismatch s tile g.kslot g.hdr.kgen then .next (startCheck tile (rinc Obj.KEY_MISMATCHES 0 s))
  else if g.hdr.sealed then .next (startCheck tile s) else .next s

end Sys2Proof.Machine
end

