-- ==== Sys2Proof/Machine/Boot.lean ====
section
/-! DEFINITION. Start-up, reset and restart (chapter 24): reset inputs, RESTART, the steps of the boot and what each restores, the opening
of landings, and formatting the far shore. -/

namespace Sys2Proof.Machine

/-! ## Reset inputs (R509 to R513, R523) -/

/-- POWER_ON: PORST_N rises with SYSCLK25 running, which latches the straps and starts cold with the recorded cause (R509 to R511). Nothing
starts while THERMTRIP_N is driven (R505). A device that was not in reset has lost its near shore with no marker. -/
def execPowerOn (straps : Nat) (s : State) : Answer :=
  if s.power.tripped then .next s
  else
    let s1 := if s.boot.held = 0 then { s with boot := { s.boot with marker := none } } else s
    .next (startBoot true (rset Obj.STRAPS 0 (straps % 2 ^ 20) (resetState true s1)))

/-- PORST_ASSERT: a falling PORST_N ends any sequence at once; the device stays in reset until it rises (R523). -/
def execPorstAssert (s : State) : Answer :=
  let s1 := if s.boot.held = 0 then { s with boot := { s.boot with marker := none } } else s
  let s2 := resetState true s1
  .next { s2 with boot := { s2.boot with held := 2, unprepared := true, flush := none } }

/-- WARM_RESET_INPUT: WRST_N is low for 1 µs (cause 6). -/
def execWarmResetInput (s : State) : Answer := .next (enterReset 6 false false s)

/-- PILOT_WATCHDOG: PFW has been silent for 1 s (cause 3). -/
def execPilotWatchdog (s : State) : Answer := .next (enterReset 3 false false s)

/-- RESTART (R513): status 1 for an invalid argument. With FLUSH every link goes down and the tiles of plain and tandem regions are cleaned
before the entry sequence. -/
def execRestart (w : Who) (arg : Nat) (s : State) : Answer :=
  command Obj.RESTART w (fun s =>
    if 2 ≤ bits arg 0 2 ∨ 16 ≤ arg then setWord Obj.RESTART w.path 1 s
    else
      let s1 := setWord Obj.RESTART w.path 0 s
      if bit arg 2 then
        let s2 := each (List.range 16) (fun h s => if linkServes s h then linkFalls h s else s) s1
        continueFlush { s2 with boot := { s2.boot with flush := some arg } }
      else enterReset 7 (bits arg 0 2 == 1) (bit arg 3) s1) s

/-! ## Step 2: plane claims (R342, R343) -/

/-- Three plane claims for B, A and the takeover of B. With fewer than three left one plane runs, under the next claim or the last one, and
an event is raised, whose SOURCE the spec does not give. -/
def issueClaims (s : State) : State :=
  let n := s.red.planeCtr
  if n + 3 < 4294967296 then
    { s with red := { s.red with planeCtr := n + 3, claimB := n + 1, claimA := n + 2, claimHeld := n + 3, claimNow := n + 2 } }
  else
    let c := if n + 1 < 4294967296 then n + 1 else n
    let (v, s1) := fresh { s with red := { s.red with planeCtr := c, claimA := c, claimB := c, claimHeld := 0, claimNow := c } }
    raiseEvent 80 false 0x62 (.unit (v % 256) 0 2) s1

/-! ## Step 3: firmware, keys, links (R452, R459, R439, R298, R300) -/

/-- A port's value of a strapped object: the stored one, kept as one more than it, else its strap bit. -/
def strapOr (o : Obj) (port at_ : Nat) (s : State) : Nat :=
  let v := savedReg o port s
  if v = 0 then bits (rget Obj.STRAPS 0 s) (at_ + port) 1 else v - 1

/-- Bit map over the host ports. -/
def portMap (f : Nat → Nat) : Nat := (List.range 8).foldl (fun m p => m + (f p % 2) * 2 ^ p) 0

/-- Host links of enabled ports begin training, and enabled Seam ports look for a receiver; only in the states that serve ports. -/
def startPorts (s : State) : State :=
  if !portsServe s then s
  else
    let s1 := { s with hosts := { s.hosts with split := portMap (fun p => strapOr Obj.HP_BIFURCATE p 0 s)
                                               clocking := portMap (fun p => strapOr Obj.HP_CLOCKING p 8 s) } }
    let s2 := each (List.range 16) (fun h s =>
      if linkThere s h && savedReg Obj.HP_ENABLE (h / 2) s == 1 then modLink h (fun l => { l with st := 1 }) s else s) s1
    each [0, 1] (fun p s => if savedReg Obj.SEAM_ENABLE p s = 1 then modSeam p (fun q => { q with st := 1 }) s else s) s2

/-- Host and Seam ports are DISABLED. -/
def stopPorts (s : State) : State :=
  each [0, 1] (fun p s => modSeam p (fun q => { q with st := 0 }) s)
    (each (List.range 16) (fun h s => modLink h (fun l => { l with st := 0 }) s) s)

/-- The end of step 3. A failed trial restarts the device (cause 9); in RECOVERY steps 4 to 7 do not run and no port serves. -/
def endStep3 (s : State) : State :=
  let (s1, again) := startFirmware (rget Obj.RESET_CAUSE 0 s) s
  if again then enterReset 9 false false s1
  else
    let (v, s2) := fresh (drawNonce (restoreKeys s1))
    let s3 := { s2 with tack := { s2.tack with boot := v % 4294967296 } }
    if rget Obj.FW_STATE 0 s3 = 3 then rset Obj.BOOT_STEP 0 0 s3 else rset Obj.BOOT_STEP 0 4 (startPorts s3)

/-! ## Step 4: channels (R245, R246, R264, R270, R275, R276, R294, R521) -/

/-- A DIMM that may enter service: it answers and supports DDR5-4800 at least. -/
def dimmUsable (d : DramFind) : Bool := d.cap != 0 && decide (d.grade ≤ 2)

/-- The speed grade: the highest that every DIMM entering service supports and DRAM_SPEED_MAX allows. -/
def speedGrade (l : List DramFind) (s : State) : Nat :=
  ((l.filter dimmUsable).map (·.grade)).foldl min (savedReg Obj.DRAM_SPEED_MAX 0 s)

/-- One DRAM channel at the end of its training. A warm restart leaves channels out of service that were, and a RETIRING one RETIRING. -/
def findDram (cold : Bool) (c : Nat) (d : DramFind) (s : State) : State :=
  let old := chanOf s c
  let stays := !cold && (old.st == 2 || old.st == 5 || old.st == 6)
  let st := if d.cap = 0 then 0 else if stays then old.st else if !dimmUsable d || !d.trained then 2
    else if !cold && old.st == 4 then 4 else 3
  let s1 := modChan c (fun _ => { st := st, cap := d.cap, org := d.org, grade := d.grade, temp := d.temp, margin := d.margin }) s
  if (st = 3 ∨ st = 4) ∧ !cold ∧ d.retained then s1
  else { s1 with boot := { s1.boot with unretained := s1.boot.unretained ++ [c] } }

/-- One flash channel: its targets in service are those found that the format record names. One that the record names and the start does
not find is LOST. One whose training fails feeds its bucket (Table 17.2). -/
def findFlash (cold : Bool) (c : Nat) (f : FlashFind) (s : State) : State :=
  let old := flashOf s c
  let named := tget 0xFF s.flash.named c
  let targets := if f.present then f.targets % 256 &&& named else 0
  let stays := !cold && (old.st == 2 || old.st == 5 || old.st == 6)
  let st := if targets = 0 then (if named = 0 then 0 else 6) else if stays then old.st else if !f.trained then 2
    else if !cold && old.st == 4 then 4 else 3
  let s1 := if targets ≠ 0 ∧ stays = false ∧ f.trained = false then bucketEvent 0x13 c 1 none 0 s else s
  modFlash c (fun _ => { st := st, targets := targets, found := if f.present then f.targets % 256 else 0, targetGib := f.targetGib }) s1

/-- Which planes run: both while each parity has a channel and three claims were left; else the one of the parity that has a channel, A
first; none without a channel, and then no port serves (R343). -/
def startPlanes (s : State) : State :=
  let has (p : Nat) : Bool := (inService s).any (fun c => c % 2 == p)
  let run (a b now_ : Nat) : State := { s with red := { s.red with stA := a, stB := b, claimNow := now_ } }
  if has 0 && has 1 && s.red.claimHeld != 0 then run 0 1 s.red.claimA
  else if has 0 then run 0 2 s.red.claimA
  else if has 1 then run 2 0 s.red.claimB
  else stopPorts (run 2 2 0)

/-- The end of step 4. A cold start drops retirements under way. -/
def endStep4 (r : BootReport) (s : State) : State :=
  let cold := s.boot.cold
  let dimm (c : Nat) : DramFind := r.dram.getD c ⟨0, 0, 0, 0, 0, false, false⟩
  let flash (c : Nat) : FlashFind := r.flash.getD c ⟨false, false, 0, 0⟩
  let s1 := each (List.range 24) (fun c s => findDram cold c (dimm c) s) s
  let s2 := each (List.range 32) (fun c s => findFlash cold c (flash c) s) s1
  let both (p : Nat) : Bool := (chanOf s2 p).st == 3 && (chanOf s2 (p + 12)).st == 3
  let d : Dram := { s2.dram with
    speed := speedGrade (r.dram.take 24) s
    queue := if cold then [] else s2.dram.queue
    degraded := (List.range 12).foldl (fun m p => if bit s2.dram.degraded p && !both p then m + 2 ^ p else m) 0 }
  let s3 := { s2 with dram := d, flash := { s2.flash with queue := if cold then [] else s2.flash.queue } }
  let k := factorNow s3
  rset Obj.BOOT_STEP 0 5 (startPlanes { s3 with mf := { s3.mf with setK := k, newK := k } })

/-! ## Formatting (R522) -/

/-- Objects whose values the record keeps across a format: the pair settings. -/
def pairSetting (key : Nat) : Bool := key / 65536 / 256 == 0x4400 || key / 65536 / 256 == 0x3402

/-- A format: capacities from the targets found, empty maps, bands erased before their first use, and a record that keeps berths, keys,
credentials and pair settings only; the objects it held read their defaults (R517, R522). -/
def formatFar (s : State) : State :=
  let bands : Tab Band := s.flash.bands.map (fun (p : Nat × Band) => (p.1, { erases := p.2.erases }))
  let s1 := each ((List.range 32).filter (fun c => (flashOf s c).st = 3 ∨ (flashOf s c).st = 4)) (fun c s =>
    modFlash c (fun x => { x with targets := x.found }) s) s
  let named := (List.range 32).foldl (fun (t : Tab Nat) c =>
    tput 0xFF t c (if (flashOf s1 c).st = 3 ∨ (flashOf s1 c).st = 4 then (flashOf s1 c).targets else 0)) []
  let saved : CfgRec := { regs := tkeep pairSetting s.cfg.saved.regs, berths := s.cfg.saved.berths, role := s.cfg.saved.role }
  let f : Flash := { s1.flash with
    named := named, formatted := true, blockMap := [], bands := bands.filter (fun p => p.2.erases != 0), openLog := []
    sinceCkpt := 0, merging := [], reclaiming := [], flxLost := [] }
  let s2 := { s1 with
    ferry := { s1.ferry with far := [] }
    mem := { s1.mem with far := [], farPoison := [] }
    flash := f
    regs := tkeep (fun k => !configIds.contains (k / 65536) || pairSetting k) s1.regs
    cfg := { s1.cfg with saved := saved }
    boot := { s1.boot with formatDue := false } }
  { s2 with flash := { s2.flash with exposed := (groupData s2 0 + groupData s2 1) * 8 / 160 } }

/-- What the record no longer holds is gone from the device too: logical devices and their bindings, panel assignments, grants, landing
worlds and shaper records (R517, R522). A host agent that still owes lines keeps its logical device until its sweep has ended. -/
def emptyConfig (s : State) : State :=
  let s1 := each (tkeys s.lds) disableLd s
  let s2 := each (tkeys s1.meters.shapers) (fun m s => applyShaper m ⟨false, false, 0, 0, 0, 0, 0⟩ s) s1
  let s3 := each ((s2.grid.panels.filter (fun p => p.2.berth != 0xFF && !p.2.lent)).map (·.1)) (fun p s => withdrawPanel p none s) s2
  { s3 with
    lds := (s3.lds.filter (fun p => p.2.leaving)).map (fun p => (p.1, { p.2 with enabled := false, berth := 0xFF }))
    berths := { s3.berths with grants := [], landingWorld := 0 } }

/-- FAR_FORMAT (R522). -/
def execFarFormat (w : Who) (s : State) : Answer :=
  command Obj.FAR_FORMAT w (fun s =>
    if s.regions.any (fun p => p.2.st != 0) then setWord Obj.FAR_FORMAT w.path 1 s
    else if (groupChans s 0).length < 2 ∨ (groupChans s 1).length < 2 then setWord Obj.FAR_FORMAT w.path 3 s
    else setWord Obj.FAR_FORMAT w.path 0 (formatFar (emptyConfig s))) s

/-! ## Step 5: the configuration record (R517, R520) -/

/-- Restore the record: objects, berths, grants, worlds, regions, bindings, panels, shapers and the pair role. CHMAP comes from it at a
warm restart, whose retained tiles stand by it; a cold start fills it from the channels in service (R96, DEDUCED). -/
def restoreRecord (s : State) : State :=
  let c := s.cfg.saved
  let s1 := { s with
    regs := c.regs.foldl (fun (t : Tab Nat) p => tput (p.2 + 1) t p.1 p.2) s.regs
    berths := { s.berths with berths := c.berths, grants := c.grants, landingWorld := c.landingWorld, confDevice := c.confDevice }
    regions := c.regions
    lds := c.binds.foldl (fun (t : Tab Ld) p => tput {} t p.1 { berth := p.2 }) []
    grid := { s.grid with panels := c.panels.foldl (fun (t : Tab Panel) p => tmod {} t p.1 (fun q => { q with berth := p.2.1, world := p.2.2 })) s.grid.panels }
    meters := { s.meters with shapers := c.shapers }
    pair := { s.pair with role := c.role, claim := s.red.unitCtr, mirror := if c.role = 0 then 3 else 1 }
    ferry := if s.boot.cold then { s.ferry with chmap := [], chmapBase := inService s }
             else { s.ferry with chmap := c.chmap, chmapBase := c.chmapBase } }
  each (tkeys c.shapers) (fun m s => shareOut m (some true) s) s1

/-- The end of step 5: the record and the far maps are in force, formatted first when that is due. -/
def endStep5 (s : State) : State :=
  let s1 := if s.boot.formatDue || !s.flash.formatted then formatFar { s with
      ferry := { s.ferry with tags := [] }
      mem := { s.mem with near := [], nearPoison := [] } } else s
  rset Obj.BOOT_STEP 0 6 (restoreRecord s1)

/-! ## Step 6: the near shore (R518 to R521) -/

/-- A tile's home channel is unretained (R516). -/
def tileGone (s : State) (t : Nat) : Bool := s.boot.unretained.contains (homeOf s t)

/-- Tiles of unretained channels are discarded: FAR or ZERO, or for a reserving region an entry with ZB set and no VALID bit. -/
def dropUnretained (s : State) : State :=
  each ((s.ferry.tags.map (·.1)).filter (tileGone s)) (fun t s =>
    let g := tagOf s t
    let s1 := { s with mem := { s.mem with near := tclear s.mem.near (t * 65536) 65536, nearPoison := tclear s.mem.nearPoison (t * 1024) 1024 } }
    if g.rsv then setTag t (keyTag (keyFor s t) rsvFresh) s1
    else { s1 with ferry := { s1.ferry with tags := tput (tagDflt s1 t) s1.ferry.tags t {} } }) s

/-- Each plane's sweep: a line in O or RO becomes poison, with its record, and every set is FREE. -/
def sweepManifest (s : State) : State :=
  let owned := ((s.mf.planeA.entries ++ s.mf.planeB.entries).filter (fun p => p.2.st == .o || p.2.st == .ro)).map (fun p => (p.1, p.2.owner))
  let once := owned.foldl (fun l p => if l.any (fun q => q.1 == p.1) then l else l ++ [p]) []
  each once (fun p s => poisonInPlace p.1 (logDead p.1 p.2 s)) { s with mf := { s.mf with planeA := {}, planeB := {} } }

/-- A tag entry that fails CHK comes from the shadow (R262), or the tile is handled as one of a lost channel (Table 11.9). -/
def badTag (t : Nat) (s : State) : State :=
  if (tagOf s t).st = 0 then s
  else if shadowed s (homeOf s t) then rebuildTag t s
  else if (tagOf s t).rsv then losePinned (homeOf s t) t s
  else resolveTile (homeOf s t) t s

/-- Promotions that the restart broke off start again from the lines in place. -/
def resumePromotions (s : State) : State :=
  each ((s.ferry.tags.filter (fun p => p.2.st == 2)).map (·.1)) (fun t s =>
    if (crossingOf s t).isSome then s else addCrossing t .promote 1 (sourceFlash s t) (homeOf s t) 0 s) s

/-- CHMAP and the pinned-near lists no longer name channels that the start found out of service. -/
def leaveChannels (s : State) : State :=
  each ((List.range 24).filter (fun c => !chanWorks s c)) (fun c s => moveLists c (if s.boot.cold then s else moveChmap c s)) s

/-- The near shore of a warm restart (R518). -/
def prepareWarm (r : BootReport) (s : State) : State :=
  let s1 := leaveChannels (dropUnretained s)
  let s2 := { s1 with ferry := { s1.ferry with tags := s1.ferry.tags.filter (fun p => decide (p.2 ≠ tagDflt s1 p.1)) } }
  resumePromotions (each r.badTags badTag (sweepManifest s2))

/-- Regions whose writes were lost: those of the marker's bitmap, or with no marker every LIVE one (R519). -/
def lostRegions (s : State) : List Nat :=
  match s.boot.marker with
  | some l => (regionsInUse s).filter l.contains
  | none => (s.regions.filter (fun p => p.2.st == 2)).map (·.1)

/-- A logical device that will receive a region's extent (R519, R23): the one named by PRIV_LD, or for a shared region any whose berth
holds HOST_R. -/
def receives (s : State) (ld n : Nat) : Bool :=
  let g := regionOf s n
  worldReaches s (ldWorld s ld) n && (if g.share then hasRight s (ldOf s ld).berth n rHostR else g.privLd == ld)

/-- The record of a region's lost writes (R519): SOURCE 0xA9, class 3, the region's first line. It goes to each logical device that receives
the region. -/
def lossRecord (n : Nat) (s : State) : State :=
  let r := mkRec 0xA9 0 3 (some ((regionOf s n).base * linesPerGib)) 0 s
  each s.cfg.saved.enabled (fun ld s => if receives s ld n then queueCxl ld false r s else s) (logRec false 0x60 r s)

/-- The near shore of a cold start (R519): reserving regions are LIVE with fresh tag entries under their owner's active key, and each region
that lost writes has its record, but for the tandem regions of a unit that starts STALE. -/
def prepareCold (s : State) : State :=
  let s1 := each ((regionsInUse s).filter (fun n => reserving (regionOf s n))) (fun n s =>
    let k := activeKey s (regionOf s n).owner
    modRegion n (fun g => { g with fresh := true, kslot := k.1, kgen := k.2, st := if g.st = 1 then 2 else g.st, displaced := [] }) s) s
  let s2 := leaveChannels s1
  each (lostRegions s2) (fun n s => if (regionOf s n).cls = 2 ∧ s.pair.role = 3 then s else lossRecord n s) s2

/-- A configured unit takes its stored role, or STALE when its tandem copy may have lost writes (R520). One that serves marks every tandem
span, since the resync map is gone (DESIGN CHOICE). -/
def startRole (s : State) : State :=
  let tandem (n : Nat) : Bool := (regionOf s n).cls == 2
  let lost := if s.boot.cold then (lostRegions s).any tandem
    else s.ferry.tags.any (fun p => tileGone s p.1 && (match regionAtTile s p.1 with
      | some n => tandem n
      | none => false))
  let r := s.pair.role
  if r = 0 then s
  else if lost then { s with pair := { s.pair with role := 3, mirror := 1 } }
  else if r = 1 ∨ r = 4 ∨ r = 5 then markTandem { s with pair := { s.pair with role := 4, mirror := 1 } }
  else { s with pair := { s.pair with mirror := if r = 2 then 0 else 1 } }

/-- Panels run their self-test: one that fails is retired, every other one is in service (R514, R521). -/
def testPanels (fails : List Nat) (s : State) : State :=
  each (List.range 60) (fun p s => modPanel p (fun q => { q with st := if fails.contains p then 4 else 0 }) s) s

/-- Logical devices that were enabled come up enabled, their agents live and holding no lines (R515). -/
def enableSaved (s : State) : State :=
  each s.cfg.saved.enabled (fun ld s => match enableLd ld s with
    | some s1 => modAgent (ldOf s1 ld).agent (fun a => { a with st := 1 }) s1
    | none => s) s

/-- What goes on once step 6 ends: region removals and berth deletions of the record (R517). -/
def resumeRemovals (s : State) : State :=
  let s1 := each ((s.regions.filter (fun p => p.2.st == 3)).map (·.1)) startRemovalSteps s
  let panels := (s1.grid.panels.filter (fun p => p.2.berth != 0xFF && (berthOf s1 p.2.berth).st == 2)).map (·.1)
  finishBerths (each panels (fun p s => withdrawPanel p none s) s1)

/-- The end of step 6. The loss marker is spent (DESIGN CHOICE). A unit sends JOIN after each start (R462). -/
def endStep6 (r : BootReport) (s : State) : State :=
  let s0 := startRole s
  let s1 := if s0.boot.cold then prepareCold s0 else prepareWarm r s0
  let s2 := resumeRemovals (enableSaved (testPanels r.panelFails s1))
  let s3 := rset Obj.BOOT_STEP 0 7 { s2 with boot := { s2.boot with unprepared := false, marker := none, unretained := [] } }
  sendJoin s3

/-! ## The steps (R514) -/

/-- BOOT_STEP_END: the boot step in progress ends with what it found. Step 7 ends by itself when no link can come up. -/
def execBootStepEnd (r : BootReport) (s : State) : Answer :=
  if s.boot.held ≠ 0 then .next s
  else match rget Obj.BOOT_STEP 0 s with
    | 1 => .next (rset Obj.BOOT_STEP 0 2 s)
    | 2 => .next (rset Obj.BOOT_STEP 0 3 (issueClaims s))
    | 3 => .next (endStep3 s)
    | 4 => .next (endStep4 r s)
    | 5 => .next (endStep5 s)
    | 6 => .next (endStep6 r s)
    | 7 => if (List.range 16).all (fun h => (linkOf s h).st == 0) then .next (rset Obj.BOOT_STEP 0 0 s) else .next s
    | _ => .next s

/-- LANDING_OPEN: after step 6, the landing of a link that is up opens and Memory_Active is set; requests held there are served (R514,
R515). The first one ends step 7. -/
def execLandingOpen (link : Nat) (s : State) : Answer :=
  let step := rget Obj.BOOT_STEP 0 s
  if s.boot.held ≠ 0 ∨ (step ≠ 7 ∧ step ≠ 0) ∨ !linkServes s link ∨ s.hosts.opened.contains link then .next s
  else
    let s1 := { s with hosts := { s.hosts with opened := link :: s.hosts.opened } }
    .next (serveEarly (if step = 7 then rset Obj.BOOT_STEP 0 0 (rset Obj.BOOT_DONE_TIME 0 (now s1) s1) else s1))

end Sys2Proof.Machine
end

