-- ==== Sys2Proof/Machine/Canary.lean ====
section
/-! DEFINITION. The device error log's command and the canary steps (R400, R406 to R408). -/

namespace Sys2Proof.Machine

/-- ERR_LOG_CLEAR empties the log (Table 17.9). -/
def execErrLogClear (w : Who) (s : State) : Answer :=
  command Obj.ERR_LOG_CLEAR w (fun s => setUnstated Obj.ERR_LOG_CLEAR w.path { s with errs := { s.errs with log := [] } }) s

/-- The next number after `k` below `n`, with wrap-around, that satisfies `p`; `k` itself comes last. -/
def nextInTurn (n k : Nat) (p : Nat → Bool) : Option Nat :=
  ((List.range n).map (fun i => (k + 1 + i) % n)).find? p

/-- First line of a canary tile (R406). -/
def canaryLine (k : Nat) : Nat := (0x1FFFFFFC0 + k) * 1024

/-- The buckets of SOURCE 0x70 that a path feeds: the DRAM channel, the flash channel that last wrote the far copy, the lane group, and the
panel if one took part (R408). -/
def canaryPath (chan wrote lane : Nat) (panel : Option Nat) : List Nat :=
  [chan, 32 + wrote, 128 + lane] ++ (match panel with
    | some p => [64 + p]
    | none => [])

/-- A canary failure (R408): class 1 when the repeat matches; else class 2, fed to every unit of the path. The record's INSTANCE is the DRAM
channel's (DESIGN CHOICE: the spec names no one instance). -/
def canaryFails (k chan : Nat) (path : List Nat) (again : Bool) (s : State) : State :=
  let r := mkRec 0x70 chan (if again then 2 else 1) (some (canaryLine k)) k s
  let s1 := logRec false 0x65 r (rinc Obj.CANARY_FAILS 0 { s with errs := { s.errs with canaryLast := some r } })
  if again then each path (fun i s => bucketEvent 0x70 i 0 none k s) s1 else s1

/-- CANARY_STEP (R407): the next canary is promoted, checked, converted when the next panel is idle and owned by no berth and the firmware is
not LIMP (R461), and demoted, each part in rotation. -/
def execCanaryStep (o : CanaryOutcome) (s : State) : Answer :=
  let e := s.errs
  match nextInTurn 24 e.canaryDram (fun c => (chanOf s c).st == 3), nextInTurn 32 e.canaryFlash (fun c => (flashOf s c).st == 3),
    nextInTurn 8 e.canaryLane (fun g => !s.ferry.lanesOut.contains g) with
  | some chan, some flash, some lane =>
    if rget Obj.CANARY_ENABLE 0 s ≠ 1 ∨ s.boot.held ≠ 0 ∨ rget Obj.BOOT_STEP 0 s ≠ 0 ∨ rget Obj.FW_STATE 0 s = 3 then .next s
    else
      let k := e.canary
      let p := (e.canaryPanel + 1) % 60
      let q := panelOf s p
      let idle := q.st == 0 && q.berth == 0xFF && q.job == 0 && rget Obj.FW_STATE 0 s != 2
      let wrote := tget 0 e.canaryWrote k
      let e1 : Errors := { e with
        canary := (k + 1) % 64, canaryDram := chan, canaryFlash := flash, canaryLane := lane, canaryPanel := p
        canaryWrote := tput 0 e.canaryWrote k flash }
      let s1 := rinc Obj.CANARY_STEPS 0 { s with errs := e1 }
      let failed := o.failed == 2 || (o.failed == 3 && idle)
      .next (if failed then canaryFails k chan (canaryPath chan wrote lane (if idle then some p else none)) o.again s1 else s1)
  | _, _, _ => .next s

end Sys2Proof.Machine
end

