-- ==== Sys2Proof/Machine/CoreScalar.lean ====
section
/-! DEFINITION. Scalar instructions (R171 to R174, R190): arithmetic, immediates, special registers, local store, branches, jumps,
check-trap and checksum. -/

namespace Sys2Proof.Machine

/-! ## Register arithmetic (Table 08.3) -/

/-- RD = RA op RB. -/
def aluOp (c : CoreCtx) (rd ra rb : Nat) (op : Word → Word → Word) (s : State) : Answer :=
  issue c (fun _ => none) (regs c.core (fun k => setG rd (op (greg k ra) (greg k rb)) k)) s

/-- A comparison's result: 1 or 0. -/
def flagWord (b : Bool) : Word := if b then 1 else 0

/-- The high 32 bits of an exact product. -/
def highOf (v : Int) : Word := BitVec.ofInt 32 (v / 4294967296)

def execAluAdd (c : CoreCtx) (rd ra rb : Nat) (s : State) : Answer := aluOp c rd ra rb (fun a b => a + b) s
def execAluSub (c : CoreCtx) (rd ra rb : Nat) (s : State) : Answer := aluOp c rd ra rb (fun a b => a - b) s
def execAluAnd (c : CoreCtx) (rd ra rb : Nat) (s : State) : Answer := aluOp c rd ra rb (fun a b => a &&& b) s
def execAluOr (c : CoreCtx) (rd ra rb : Nat) (s : State) : Answer := aluOp c rd ra rb (fun a b => a ||| b) s
def execAluXor (c : CoreCtx) (rd ra rb : Nat) (s : State) : Answer := aluOp c rd ra rb (fun a b => a ^^^ b) s
/-- Shift amounts are RB[4:0] (R172). -/
def execSll (c : CoreCtx) (rd ra rb : Nat) (s : State) : Answer := aluOp c rd ra rb (fun a b => a <<< (b.toNat % 32)) s
def execSrl (c : CoreCtx) (rd ra rb : Nat) (s : State) : Answer := aluOp c rd ra rb (fun a b => a >>> (b.toNat % 32)) s
def execSra (c : CoreCtx) (rd ra rb : Nat) (s : State) : Answer := aluOp c rd ra rb (fun a b => a.sshiftRight (b.toNat % 32)) s
def execSlt (c : CoreCtx) (rd ra rb : Nat) (s : State) : Answer := aluOp c rd ra rb (fun a b => flagWord (a.slt b)) s
def execSltu (c : CoreCtx) (rd ra rb : Nat) (s : State) : Answer := aluOp c rd ra rb (fun a b => flagWord (a.ult b)) s
def execMul (c : CoreCtx) (rd ra rb : Nat) (s : State) : Answer := aluOp c rd ra rb (fun a b => a * b) s
def execMulh (c : CoreCtx) (rd ra rb : Nat) (s : State) : Answer := aluOp c rd ra rb (fun a b => highOf (a.toInt * b.toInt)) s
def execMulhu (c : CoreCtx) (rd ra rb : Nat) (s : State) : Answer :=
  aluOp c rd ra rb (fun a b => highOf (Int.ofNat (a.toNat * b.toNat))) s
def execAluMin (c : CoreCtx) (rd ra rb : Nat) (s : State) : Answer := aluOp c rd ra rb (fun a b => if b.slt a then b else a) s
def execAluMax (c : CoreCtx) (rd ra rb : Nat) (s : State) : Answer := aluOp c rd ra rb (fun a b => if a.slt b then b else a) s
def execMinu (c : CoreCtx) (rd ra rb : Nat) (s : State) : Answer := aluOp c rd ra rb (fun a b => if b.ult a then b else a) s
def execMaxu (c : CoreCtx) (rd ra rb : Nat) (s : State) : Answer := aluOp c rd ra rb (fun a b => if a.ult b then b else a) s

/-! ## Immediates (R171) -/

/-- RD = RA op IMM, IMM sign-extended. -/
def immOp (c : CoreCtx) (rd ra imm : Nat) (op : Word → Word → Word) (s : State) : Answer :=
  issue c (fun _ => none) (regs c.core (fun k => setG rd (op (greg k ra) (wordOf (sx 14 imm))) k)) s

/-- RD = RA op IMM, IMM zero-extended. -/
def immZeroOp (c : CoreCtx) (rd ra imm : Nat) (op : Word → Word → Word) (s : State) : Answer :=
  issue c (fun _ => none) (regs c.core (fun k => setG rd (op (greg k ra) (BitVec.ofNat 32 (imm % 16384))) k)) s

def execAddi (c : CoreCtx) (rd ra imm : Nat) (s : State) : Answer := immOp c rd ra imm (fun a b => a + b) s
def execAndi (c : CoreCtx) (rd ra imm : Nat) (s : State) : Answer := immZeroOp c rd ra imm (fun a b => a &&& b) s
def execOri (c : CoreCtx) (rd ra imm : Nat) (s : State) : Answer := immZeroOp c rd ra imm (fun a b => a ||| b) s
def execXori (c : CoreCtx) (rd ra imm : Nat) (s : State) : Answer := immZeroOp c rd ra imm (fun a b => a ^^^ b) s
def execSlti (c : CoreCtx) (rd ra imm : Nat) (s : State) : Answer := immOp c rd ra imm (fun a b => flagWord (a.slt b)) s
def execSltiu (c : CoreCtx) (rd ra imm : Nat) (s : State) : Answer := immOp c rd ra imm (fun a b => flagWord (a.ult b)) s

/-- RD = RA shifted by an immediate amount. -/
def shiftOp (c : CoreCtx) (rd ra amount : Nat) (op : Word → Nat → Word) (s : State) : Answer :=
  issue c (fun _ => none) (regs c.core (fun k => setG rd (op (greg k ra) (amount % 32)) k)) s

def execShiLeft (c : CoreCtx) (rd ra amount : Nat) (s : State) : Answer := shiftOp c rd ra amount (fun a n => a <<< n) s
def execShiLogicalRight (c : CoreCtx) (rd ra amount : Nat) (s : State) : Answer := shiftOp c rd ra amount (fun a n => a >>> n) s
def execShiArithmeticRight (c : CoreCtx) (rd ra amount : Nat) (s : State) : Answer :=
  shiftOp c rd ra amount (fun a n => a.sshiftRight n) s

/-- RD = IMM shifted left by 12. -/
def execLui (c : CoreCtx) (rd imm : Nat) (s : State) : Answer :=
  issue c (fun _ => none) (regs c.core (setG rd (BitVec.ofNat 32 (imm % 1048576 * 4096)))) s

/-! ## Special registers (R173) -/

/-- The value of a special register of a core, and the core after the read: number 5 latches a TSX snapshot (R46). `none` for a
number that names none. -/
def readSr (c sr : Nat) (k : Core) (s : State) : Option (Nat × Core) :=
  match sr with
  | 0 => some (c, k)
  | 1 => some (panelOfCore c, k)
  | 2 => some ((panelOf s (panelOfCore c)).berth, k)
  | 3 => some ((jobOfCore s c).getD 0, k)
  | 4 => some (k.flags, k)
  | 5 => some (now s % 4294967296, { k with time := now s })
  | 6 => some (k.time / 4294967296, k)
  | _ => none

def execRdsr (c : CoreCtx) (rd sr : Nat) (s : State) : Answer :=
  issue c (fun _ => none) (fun k s => match readSr c.core sr k s with
    | none => trapOf 1
    | some (v, k') => regs c.core (fun _ => setG rd (BitVec.ofNat 32 v) k') k s) s

/-- Only FLAGS[3:0] can be written (R173). -/
def execWrsr (c : CoreCtx) (ra sr : Nat) (s : State) : Answer :=
  issue c (fun _ => none) (fun k s =>
    if sr = 4 then regs c.core (fun k => { k with flags := (greg k ra).toNat % 16 }) k s else trapOf 1) s

/-! ## Loads and stores (R174) -/

/-- The byte address RA + IMM, which wraps at 32 bits. -/
def effAddr (k : Core) (ra imm : Nat) : Nat := (greg k ra + wordOf (sx 14 imm)).toNat

/-- RD = `n` bytes at RA + IMM, zero-extended or sign-extended. -/
def loadOp (c : CoreCtx) (rd ra imm n : Nat) (signed : Bool) (s : State) : Answer :=
  issue c (fun k => some (effAddr k ra imm)) (fun k s =>
    readLs c.core (effAddr k ra imm) n n k s (fun bs =>
      regs c.core (setG rd (if signed then wordOf (sx (8 * n) (leNat bs)) else BitVec.ofNat 32 (leNat bs))) k s)) s

/-- `n` bytes at RA + IMM = the low bytes of RD. -/
def storeOp (c : CoreCtx) (rd ra imm n : Nat) (s : State) : Answer :=
  issue c (fun _ => none) (fun k s => writeLs c.core (effAddr k ra imm) n (natLE n (greg k rd).toNat) k s) s

def execLw (c : CoreCtx) (rd ra imm : Nat) (s : State) : Answer := loadOp c rd ra imm 4 false s
def execLh (c : CoreCtx) (rd ra imm : Nat) (s : State) : Answer := loadOp c rd ra imm 2 true s
def execLhu (c : CoreCtx) (rd ra imm : Nat) (s : State) : Answer := loadOp c rd ra imm 2 false s
def execLb (c : CoreCtx) (rd ra imm : Nat) (s : State) : Answer := loadOp c rd ra imm 1 true s
def execLbu (c : CoreCtx) (rd ra imm : Nat) (s : State) : Answer := loadOp c rd ra imm 1 false s
def execSw (c : CoreCtx) (rd ra imm : Nat) (s : State) : Answer := storeOp c rd ra imm 4 s
def execSh (c : CoreCtx) (rd ra imm : Nat) (s : State) : Answer := storeOp c rd ra imm 2 s
def execSb (c : CoreCtx) (rd ra imm : Nat) (s : State) : Answer := storeOp c rd ra imm 1 s

/-! ## Branches and jumps -/

/-- Go to a byte address, with the link written; outside the local store or misaligned it is cause 2 and PC stays (R174). -/
def jumpTo (c rd : Nat) (target : Int) (k : Core) (s : State) : CoreRes :=
  if target < 0 ∨ (lsBytes : Int) ≤ target ∨ target % 4 ≠ 0 then trapOf 2
  else .go (target.toNat / 4) (modCore c (setG rd (BitVec.ofNat 32 (k.pc * 4 + 4))) s)

/-- PC = PC + OFF when the comparison holds. -/
def branchOp (c : CoreCtx) (ra rb off : Nat) (taken : Word → Word → Bool) (s : State) : Answer :=
  issue c (fun _ => none) (fun k s =>
    if taken (greg k ra) (greg k rb) then jumpTo c.core 0 ((k.pc * 4 : Nat) + sx 14 off * 4) k s
    else .go (nextPc k) s) s

def execBeq (c : CoreCtx) (ra rb off : Nat) (s : State) : Answer := branchOp c ra rb off (fun a b => a == b) s
def execBne (c : CoreCtx) (ra rb off : Nat) (s : State) : Answer := branchOp c ra rb off (fun a b => a != b) s
def execBlt (c : CoreCtx) (ra rb off : Nat) (s : State) : Answer := branchOp c ra rb off (fun a b => a.slt b) s
def execBge (c : CoreCtx) (ra rb off : Nat) (s : State) : Answer := branchOp c ra rb off (fun a b => !a.slt b) s
def execBltu (c : CoreCtx) (ra rb off : Nat) (s : State) : Answer := branchOp c ra rb off (fun a b => a.ult b) s
def execBgeu (c : CoreCtx) (ra rb off : Nat) (s : State) : Answer := branchOp c ra rb off (fun a b => !a.ult b) s

/-- RD = byte address of the next instruction; PC = PC + IMM. -/
def execJal (c : CoreCtx) (rd imm : Nat) (s : State) : Answer :=
  issue c (fun _ => none) (fun k s => jumpTo c.core rd ((k.pc * 4 : Nat) + sx 20 imm * 4) k s) s

/-- RD = byte address of the next instruction; the next byte address is RA + IMM. -/
def execJalr (c : CoreCtx) (rd ra imm : Nat) (s : State) : Answer :=
  issue c (fun _ => none) (fun k s => jumpTo c.core rd (effAddr k ra imm : Nat) k s) s

/-! ## Check-trap and checksum (R190) -/

/-- The comparison that COND names. -/
def tchkHolds (cond : Nat) (a b : Word) : Bool :=
  match cond with
  | 0 => a == b
  | 1 => a != b
  | 2 => a.slt b
  | 3 => !a.slt b
  | 4 => a.ult b
  | _ => !a.ult b

def execTchk (c : CoreCtx) (cond ra rb fn : Nat) (s : State) : Answer :=
  issue c (fun _ => none) (fun k s =>
    if 6 ≤ cond then trapOf 1
    else if tchkHolds cond (greg k ra) (greg k rb) then .trap 8 (fn % 256) 0 0
    else .go (nextPc k) s) s

/-- RD as a CRC-32C register over the 64-byte block at RA + IMM. -/
def execCrcb (c : CoreCtx) (rd ra imm : Nat) (s : State) : Answer :=
  issue c (fun k => some (effAddr k ra imm)) (fun k s =>
    readLs c.core (effAddr k ra imm) 64 64 k s (fun bs =>
      regs c.core (fun k => setG rd (BitVec.ofNat 32 (crc32cRaw (greg k rd).toNat bs)) k) k s)) s

/-- An unassigned opcode or FN, or a nonzero reserved field, is an illegal instruction (R171). -/
def execUnassignedOpcode (c : CoreCtx) (_word : Nat) (s : State) : Answer := issue c (fun _ => none) (fun _ _ => trapOf 1) s

end Sys2Proof.Machine
end

