-- ==== Sys2Proof/Machine/CoreLane.lean ====
section
/-! DEFINITION. Lane instructions (R153 to R155, R175 to R179): patterns, where the elements of an operand stand, the operation
classes, and the moves between lanes, registers, accumulators and local store. -/

namespace Sys2Proof.Machine

/-! ## Patterns (Tables 07.2 and 07.3) -/

/-- The fields of a pattern word. -/
structure Pat where
  cls : Nat
  af : Nat
  bf : Nat
  df : Nat
  rmode : Nat
  sat : Bool
  sbs : Bool
  dbs : Bool
  subop : Nat
  lmask : Nat
  shuf : Nat
  deriving DecidableEq, Repr

def patOf (w : Nat) : Pat :=
  ⟨bits w 0 4, bits w 4 4, bits w 8 4, bits w 12 4, bits w 16 2, bit w 18, bit w 19, bit w 20, bits w 21 3, bits w 24 16, bits w 40 4⟩

/-- A class has operand B. -/
def hasB (cls : Nat) : Bool := cls == 1 || cls == 2 || cls == 3 || cls == 4 || cls == 5 || cls == 6 || cls == 7 || cls == 0xA

/-- The combination of class, SUBOP and formats that Table 07.3 accepts. A DOT of a floating format goes to binary32 and one of an
integer format to INT32; the DFMT of CMP, which writes no format, is free (both DEDUCED). -/
def patCombo (p : Pat) : Bool :=
  let eqAB := p.af == p.bf
  let fmt (f : Nat) : Bool := decide (f ≤ 0xB)
  let int (f : Nat) : Bool := decide (8 ≤ f) && decide (f ≤ 0xB)
  fmt p.af && (match p.cls with
    | 0x0 => decide (p.subop ≤ 1) && p.df == p.af
    | 0x1 => decide (p.subop ≤ 1) && eqAB && p.df == p.af
    | 0x2 => p.subop == 0 && eqAB && p.df == p.af
    | 0x3 => decide (p.subop ≤ 1) && eqAB && (match p.af with
        | 0x0 => p.df == 0
        | 0x1 | 0x2 | 0x3 => p.df == 1
        | 0x8 | 0x9 => p.df == 8 || p.df == 0xC || p.df == 0xD
        | _ => false)
    | 0x4 => decide (p.subop ≤ 1) && eqAB && p.df == p.af
    | 0x5 => decide (p.subop ≤ 3) && eqAB
    | 0x6 => decide (p.subop ≤ 3) && fmt p.bf && p.df == p.af
    | 0x7 => decide (p.subop ≤ 2) && int p.af && int p.bf && p.df == p.af
    | 0x8 => p.subop == 0 && fmt p.df
    | 0x9 => p.subop == 0 && p.df == 1
    | 0xA => p.subop == 0 && eqAB && (match p.af with
        | 0x2 | 0x3 | 0x4 | 0x5 | 0x6 | 0x7 => p.df == 1
        | 0xA | 0xB => p.df == 8
        | _ => false)
    | 0xB => decide (p.subop ≤ 2) && (p.df == p.af || (p.df == 1 && decide (fmtBits p.af < 16)))
    | 0xC => p.subop == 0 && p.df == p.af
    | _ => false)

/-- The checks of PLD (R154): PCHK, reserved bits, RMODE, SHUF and the combination. -/
def patOk (w : Nat) : Bool :=
  let p := patOf w
  crc8 (bitsOf 56 w) == bits w 56 8 && bits w 44 12 == 0 && p.rmode != 3 && decide (p.shuf < 8) && patCombo p

/-- The source lane of destination lane `i` (Table 07.4). -/
def shufLane (shuf i : Nat) : Nat :=
  match shuf with
  | 0 => i
  | 1 => i ^^^ 1
  | 2 => i ^^^ 2
  | 3 => i ^^^ 4
  | 4 => i ^^^ 8
  | 5 => 15 - i
  | 6 => (i + 1) % 16
  | _ => (i + 15) % 16

/-! ## Where elements stand (R153, R177) -/

/-- Elements in one lane: 1 unpacked, else 2 of 16 bits, 4 of 8 or 6, 8 of 4. -/
def perLane (b : Nat) (packed : Bool) : Nat :=
  if !packed then 1 else if b = 16 then 2 else if b = 8 ∨ b = 6 then 4 else if b = 4 then 8 else 1

/-- Registers that `n` elements take. -/
def regsFor (b : Nat) (packed : Bool) (n : Nat) : Nat :=
  if b = 64 then 2 * ((n + 15) / 16) else (n + 16 * perLane b packed - 1) / (16 * perLane b packed)

/-- A register operand of `n` elements is one the formats allow: even for 64 bits, and not past v31 (R176). -/
def operandOk (b : Nat) (packed : Bool) (n reg : Nat) : Bool :=
  (b != 64 || reg % 2 == 0) && decide (reg + regsFor b packed n ≤ 32)

/-- Element `e` of an operand in storage order from a register. -/
def getElem (k : Core) (b : Nat) (packed : Bool) (reg e : Nat) : Nat :=
  if b = 64 then
    (laneOf k (reg + 2 * (e / 16)) (e % 16)).toNat + 4294967296 * (laneOf k (reg + 2 * (e / 16) + 1) (e % 16)).toNat
  else
    let kk := perLane b packed
    bits (laneOf k (reg + e / kk / 16) (e / kk % 16)).toNat (e % kk * b) b

/-- Write element `e`; a packed element leaves its neighbours, an unpacked one has `fill` above it in its lane. -/
def putElem (b : Nat) (packed : Bool) (reg e code fill : Nat) (k : Core) : Core :=
  if b = 64 then
    setLane (reg + 2 * (e / 16) + 1) (e % 16) (BitVec.ofNat 32 (code / 4294967296))
      (setLane (reg + 2 * (e / 16)) (e % 16) (BitVec.ofNat 32 code) k)
  else
    let kk := perLane b packed
    let r := reg + e / kk / 16
    let l := e / kk % 16
    let off := e % kk * b
    let old := (laneOf k r l).toNat
    if kk = 1 then setLane r l (BitVec.ofNat 32 (code % 2 ^ b + 2 ^ b * fill)) k
    else setLane r l (BitVec.ofNat 32 (old - bits old off b * 2 ^ off + code % 2 ^ b * 2 ^ off)) k

/-- Write an element of a result. The bits of its lane above an unpacked element narrower than 32 bits are free: R153 states none. -/
def putResult (b : Nat) (packed : Bool) (reg : Nat) (q : Nat × Nat) (kc : Core × Nat) : Core × Nat :=
  if packed || decide (32 ≤ b) then (putElem b packed reg q.1 q.2 0 kc.1, kc.2)
  else (putElem b packed reg q.1 q.2 (Config.freeNat kc.2) kc.1, kc.2 + 1)

/-- Element `e` of a scaled side: the block's bits run through lanes 0 to b − 1 (R177). -/
def getStream (k : Core) (b reg e : Nat) : Nat :=
  let w := e * b / 32
  bits ((laneOf k reg w).toNat + 4294967296 * (laneOf k reg (w + 1)).toNat) (e * b % 32) b

/-- Write a scaled block of 32 codes and its scale byte: zeros in the unused lanes (R177). -/
def putStream (b reg scale : Nat) (codes : List Nat) (k : Core) : Core :=
  let all := codes.zipIdx.foldl (fun a p => a + p.1 % 2 ^ b * 2 ^ (p.2 * b)) 0
  let k1 := (List.range 16).foldl (fun k i => setLane reg i (BitVec.ofNat 32 (if i < b then bits all (i * 32) 32 else 0)) k) k
  setLane (reg + 1) 0 (BitVec.ofNat 32 (scale % 256)) k1

/-! ## One element of a result -/

/-- A result element: a code copied or computed as bits; an exact value still to be rounded; or a value the spec does not state. -/
inductive El where
  | code (c : Nat)
  | val (v : Val) (fl : Fl)
  | free

/-- An element operand: its code and its value, with the block's scale applied when it has one. -/
structure Arg where
  code : Nat
  val : Val

/-- ADD, MUL and MINMAX on one element. `exact` asks for values (a scaled operand or result); integers wrap otherwise. -/
def arith (cls subop f : Nat) (exact : Bool) (a b : Arg) : El :=
  let w := fmtBits f
  if isFloat f || exact then
    match cls with
    | 0x1 => let r := addVal a.val (if subop = 1 then negVal b.val else b.val); .val r.1 r.2
    | 0x2 => let r := mulVal a.val b.val; .val r.1 r.2
    | _ => if isNan a.val || isNan b.val then .free
      else let r := if subop = 0 then minNumber a.val b.val else maxNumber a.val b.val; .val r.1 r.2
  else
    let x := signedOf w a.code
    let y := signedOf w b.code
    match cls with
    | 0x1 => .code (codeOf w (if subop = 1 then x - y else x + y))
    | 0x2 => .code (codeOf w (x * y))
    | _ => .code (codeOf w (if subop = 0 then min x y else max x y))

/-- LOGIC on one element; andnot is A AND NOT B. -/
def logicOp (subop w a b : Nat) : Nat :=
  match subop with
  | 0 => a &&& b
  | 1 => (a ||| b) % 2 ^ w
  | 2 => (a ^^^ b) % 2 ^ w
  | _ => a &&& (2 ^ w - 1 - b % 2 ^ w)

/-- SHIFT on one element; the spec states no result for an amount of the width or more. -/
def shiftEl (subop w a n : Nat) : El :=
  if w ≤ n then .free
  else match subop with
    | 0 => .code (a * 2 ^ n % 2 ^ w)
    | 1 => .code (a / 2 ^ n)
    | _ => .code (codeOf w (signedOf w a / (2 ^ n : Int)))

/-- The classes whose result is one element for each element of A. `get` gives the elements of A by lane place, for splat and shuffle. -/
def elementOp (p : Pat) (exact : Bool) (kk : Nat) (a b : Nat → Arg) (e : Nat) : El :=
  let copy (x : Arg) : El := if exact then .val x.val {} else .code x.code
  match p.cls with
  | 0x0 => copy (if p.subop = 1 then a (e % kk) else a e)
  | 0x6 => .code (logicOp p.subop (fmtBits p.af) (a e).code (b e).code)
  | 0x7 => shiftEl p.subop (fmtBits p.af) (a e).code (b e).code
  | 0x8 => .val (a e).val {}
  | 0xC => copy (a (shufLane p.shuf (e / kk % 16) * kk + e % kk + e / kk / 16 * 16 * kk))
  | _ => arith p.cls p.subop p.af exact (a e) (b e)

/-- Free values take the next ones of the model's counter. -/
def nextFree (b ctr : Nat) : Nat := Config.freeNat ctr % 2 ^ b

/-- The codes of a list of results without block scaling, their flags, and the counter after them. -/
def encodeEls (p : Pat) : List (Nat × El) → Nat → List (Nat × Nat) × Fl × Nat
  | [], ctr => ([], {}, ctr)
  | (e, x) :: r, ctr =>
    let (c, fl, ctr1) := match x with
      | .code c => (c, ({} : Fl), ctr)
      | .val v fl => let q := finish p.df (modeOf p.rmode) p.sat (v, fl); (q.1, q.2, ctr)
      | .free => (nextFree (fmtBits p.df) ctr, ({} : Fl), ctr + 1)
    let (cs, fls, ctr2) := encodeEls p r ctr1
    ((e, c) :: cs, fl.or fls, ctr2)

/-- The values of a list of results for a block-scaled destination (R140). -/
def valueEls (p : Pat) : List (Nat × El) → Nat → List Val × Fl × Nat
  | [], ctr => ([], {}, ctr)
  | (_, x) :: r, ctr =>
    let (v, fl, ctr1) := match x with
      | .code c => (decodeVal p.df c, ({} : Fl), ctr)
      | .val v fl => (v, fl, ctr)
      | .free => (decodeVal p.df (nextFree (fmtBits p.df) ctr), ({} : Fl), ctr + 1)
    let (vs, fls, ctr2) := valueEls p r ctr1
    (v :: vs, fl.or fls, ctr2)

/-! ## Classes that combine lanes -/

/-- CMP of one element (SUBOP 0 eq, 1 lt, 2 le, 3 unordered). -/
def cmpOp (subop : Nat) (a b : Val) : Bool :=
  match subop with
  | 0 => eqVal a b
  | 1 => ltVal a b
  | 2 => ltVal a b || eqVal a b
  | _ => isNan a || isNan b

/-- One step of REDUCE on two lanes, one of which may be disabled, as codes of the result format. -/
def reduceStep (p : Pat) (x y : Option (Nat × Fl)) : Option (Nat × Fl) :=
  match x, y with
  | none, r => r
  | r, none => r
  | some (a, fa), some (b, fb) =>
    let arg (c : Nat) : Arg := ⟨c, decodeVal p.df c⟩
    match arith (if p.subop = 0 then 0x1 else 0x4) (if p.subop = 0 then 0 else p.subop - 1) p.df false (arg a) (arg b) with
    | .code c => some (c, fa.or fb)
    | .val v fl => let q := finish p.df (modeOf p.rmode) p.sat (v, fl); some (q.1, (q.2.or fa).or fb)
    | .free => some (a, fa.or fb)

/-- The tree of REDUCE: SHUF values 0x4, 0x3, 0x2 and 0x1 in that order, into lane 0 (R155). -/
def reduceTree (p : Pat) (xs : List (Option (Nat × Fl))) : Option (Nat × Fl) :=
  let step (sh : Nat) (l : List (Option (Nat × Fl))) : List (Option (Nat × Fl)) :=
    (List.range 16).map (fun i => reduceStep p (l.getD i none) (l.getD (shufLane sh i) none))
  (step 1 (step 2 (step 3 (step 4 xs)))).getD 0 none

/-- An accumulator lane as a code of its format; a 32-bit format stands in the low half. -/
def accCode (df : Nat) (x : BitVec 64) : Nat := x.toNat % 2 ^ fmtBits df

/-- The sum that an accumulator takes: a float is rounded once; an integer that leaves the format has no stated result. -/
def accEl (df : Nat) (r : Val × Fl) : El :=
  if isFloat df then .val r.1 r.2
  else match r.1 with
    | .fin neg m e =>
      let v := atExp neg m e 0
      if intMin df ≤ v ∧ v ≤ intMax df then .code (codeOf (fmtBits df) v) else .free
    | _ => .free

/-- Write one accumulator lane from a result; the half above a 32-bit one is free. -/
def writeAcc (p : Pat) (acc lane : Nat) (x : El) (kc : Core × Nat) : Core × Nat :=
  let (cs, fl, ctr) := encodeEls p [(0, x)] kc.2
  let code := (cs.headD (0, 0)).2
  if fmtBits p.df = 64 then (orFlags fl.word (setAcc acc lane (BitVec.ofNat 64 code) kc.1), ctr)
  else (orFlags fl.word (setAcc acc lane (BitVec.ofNat 64 (code % 2 ^ fmtBits p.df + 2 ^ fmtBits p.df * Config.freeNat ctr)) kc.1), ctr + 1)

/-! ## LOP -/

/-- The result of a lane operation: an exception cause, or the core and the counter of free values. -/
inductive LaneRes where
  | trap (cause : Nat)
  | ok (k : Core) (ctr : Nat)

/-- Elements that a lane operation handles (R177): one scaling block, or what the register of operand A holds. -/
def lopCount (p : Pat) (packed : Bool) : Nat :=
  if p.sbs || p.dbs then 32 else if fmtBits p.af = 64 then 16 else 16 * perLane (fmtBits p.af) packed

/-- Operand checks of R176 and R177 (illegal operand). -/
def lopOperands (p : Pat) (vd va vb pk n : Nat) : Bool :=
  let ba := fmtBits p.af
  let pa := bit pk 0
  let pd := bit pk 1
  let scaledOk (b : Nat) (packed : Bool) (reg : Nat) : Bool := packed && decide (b ≤ 16) && decide (reg + 1 ≤ 31)
  let noReg := p.cls == 3 || p.cls == 5 || p.cls == 0xA
  let one := p.cls == 9 || p.cls == 0xB
  (if p.sbs then scaledOk ba pa va else operandOk ba pa n va)
    && (!hasB p.cls || operandOk (fmtBits p.bf) pa n vb)
    && (if p.dbs then scaledOk (fmtBits p.df) pd vd
        else noReg || operandOk (fmtBits p.df) pd (if one then 1 else n) vd)

/-- A lane operation under a pattern (R175 to R177). An FMA of more than 16 elements, for which R175 names no accumulator lanes, a CMP of
more, a REDUCE of more and an AMAX or MINMAX of a NaN have no stated result: it is free. -/
def lopRun (p : Pat) (vd va vb pk gr : Nat) (k : Core) (ctr : Nat) : LaneRes :=
  let ba := fmtBits p.af
  let pa := bit pk 0
  let n := lopCount p pa
  let kk := perLane ba pa
  let accs := p.cls == 3 || p.cls == 0xA
  if (accs && decide (4 ≤ vd)) || (p.cls == 5 && vd != 0) || (!hasB p.cls && vb != 0) || (p.cls != 5 && gr != 0) then .trap 1
  else if !lopOperands p vd va vb pk n then .trap 2
  else
    let scale := (laneOf k (va + 1) 0).toNat % 256
    let a (e : Nat) : Arg :=
      if p.sbs then let c := getStream k ba va e; ⟨c, scaledVal p.af scale c⟩
      else let c := getElem k ba pa va e; ⟨c, decodeVal p.af c⟩
    let b (e : Nat) : Arg := let c := getElem k (fmtBits p.bf) pa vb e; ⟨c, decodeVal p.bf c⟩
    let on (e : Nat) : Bool := bit p.lmask (e / kk % 16)
    let es := (List.range n).filter on
    match p.cls with
    | 0x3 =>
      let r := if 16 < n then ((List.range 16).filter (bit p.lmask)).foldl (fun kc l => writeAcc p vd l .free kc) (k, ctr)
        else es.foldl (fun kc e =>
        let acc := accOf kc.1 vd e
        let prod := mulVal (a e).val (b e).val
        let sum := addVal (decodeVal p.df (accCode p.df acc)) (if p.subop = 1 then negVal prod.1 else prod.1)
        writeAcc p vd e (accEl p.df (sum.1, sum.2.or prod.2)) kc) (k, ctr)
      .ok r.1 r.2
    | 0xA =>
      let r := ((List.range 16).filter (bit p.lmask)).foldl (fun kc l =>
        let mine := (List.range n).filter (fun e => e / kk % 16 == l)
        let sum := mine.foldl (fun s e =>
          let prod := mulVal (a e).val (b e).val
          let t := addVal s.1 prod.1
          (t.1, (s.2.or prod.2).or t.2)) (decodeVal p.df (accCode p.df (accOf kc.1 vd l)), ({} : Fl))
        if mine.isEmpty then kc else writeAcc p vd l (accEl p.df sum) kc) (k, ctr)
      .ok r.1 r.2
    | 0x5 =>
      if 16 < n then .ok (setG gr (BitVec.ofNat 32 (nextFree 16 ctr)) k) (ctr + 1)
      else .ok (setG gr (BitVec.ofNat 32 ((es.filter (fun e => cmpOp p.subop (a e).val (b e).val)).foldl (fun m e => m + 2 ^ e) 0)) k) ctr
    | 0x9 =>
      if es.any (fun e => isNan (a e).val) then .ok (putElem 32 false vd 0 (nextFree 32 ctr) 0 k) (ctr + 1)
      else
        let m := es.foldl (fun m e => if ltVal m (absVal (a e).val) then absVal (a e).val else m) (.fin false 0 0)
        let q := finish p.df (modeOf p.rmode) p.sat (m, {})
        .ok (orFlags q.2.word (putElem 32 false vd 0 q.1 0 k)) ctr
    | 0xB =>
      if 16 < n ∨ p.dbs ∨ (p.subop ≠ 0 ∧ es.any (fun e => isNan (a e).val)) then
        let r := putResult (fmtBits p.df) (bit pk 1) vd (0, nextFree (fmtBits p.df) ctr) (k, ctr + 1)
        .ok r.1 r.2
      else
        let xs : List (Option (Nat × Fl)) := (List.range 16).map (fun e =>
          if !on e then none
          else if p.df = p.af && !p.sbs then some ((a e).code, {})
          else some (finish p.df (modeOf p.rmode) p.sat ((a e).val, {})))
        match reduceTree p xs with
        | none => .ok k ctr
        | some (c, fl) =>
          let r := putResult (fmtBits p.df) (bit pk 1) vd (0, c) (k, ctr)
          .ok (orFlags fl.word r.1) r.2
    | _ =>
      let rs := es.map (fun e => (e, elementOp p (p.sbs || p.dbs) kk a b e))
      if p.dbs then
        let (vs, fl, ctr1) := valueEls p rs ctr
        let (s, codes, fl2) := encodeBlock p.df (modeOf p.rmode) vs
        let all := (List.range 32).map (fun e => match (es.zip codes).find? (fun q => q.1 == e) with
          | some q => q.2
          | none => getStream k (fmtBits p.df) vd e)
        .ok (orFlags (fl.or fl2).word (putStream (fmtBits p.df) vd s all k)) ctr1
      else
        let (cs, fl, ctr1) := encodeEls p rs ctr
        let r := cs.foldl (fun kc q => putResult (fmtBits p.df) (bit pk 1) vd q kc) (k, ctr1)
        .ok (orFlags fl.word r.1) r.2

/-- LOP: the lane operation of the pattern in slot PS (R175). -/
def execLop (c : CoreCtx) (ps vd va vb pk gr : Nat) (s : State) : Answer :=
  issue c (fun _ => none) (fun k s =>
    match tget none k.ps ps with
    | none => trapOf 3
    | some w => match lopRun (patOf w) vd va vb pk gr k s.freeCtr with
      | .trap cause => trapOf cause
      | .ok k' ctr => .go (nextPc k) (modCore c.core (fun _ => k') { s with freeCtr := ctr })) s

/-! ## Patterns, loads and moves -/

/-- PLD: load and check a pattern word (R179). -/
def execPld (c : CoreCtx) (slot ra imm : Nat) (s : State) : Answer :=
  issue c (fun k => some (effAddr k ra imm)) (fun k s =>
    if 8 ≤ slot then trapOf 1
    else readLs c.core (effAddr k ra imm) 8 8 k s (fun bs =>
      if patOk (leNat bs) then regs c.core (fun k => { k with ps := tput none k.ps slot (some (leNat bs)) }) k s else trapOf 3)) s

/-- The address of VLD and VST: GA + 4 × OFF (R178). -/
def vecAddr (k : Core) (ga off : Nat) : Nat := (greg k ga + wordOf (4 * sx 11 off)).toNat

/-- VLD: lanes 0 to N from consecutive words, zero above. -/
def execVld (c : CoreCtx) (v ga n off : Nat) (s : State) : Answer :=
  issue c (fun k => some (vecAddr k ga off)) (fun k s =>
    readLs c.core (vecAddr k ga off) (4 * (n % 16 + 1)) 4 k s (fun bs =>
      regs c.core (fun k => (List.range 16).foldl (fun k i =>
        setLane v i (if i ≤ n % 16 then BitVec.ofNat 32 (leAt bs (4 * i) 4) else 0) k) k) k s)) s

/-- VST: lanes 0 to N to consecutive words. -/
def execVst (c : CoreCtx) (v ga n off : Nat) (s : State) : Answer :=
  issue c (fun _ => none) (fun k s =>
    writeLs c.core (vecAddr k ga off) 4 ((List.range (n % 16 + 1)).flatMap (fun i => natLE 4 (laneOf k v i).toNat)) k s) s

/-- VINS: lane LANE of V = G. -/
def execVins (c : CoreCtx) (v g lane : Nat) (s : State) : Answer :=
  issue c (fun _ => none) (regs c.core (fun k => setLane v (lane % 16) (greg k g) k)) s

/-- VEXT: G = lane LANE of V. -/
def execVext (c : CoreCtx) (v g lane : Nat) (s : State) : Answer :=
  issue c (fun _ => none) (regs c.core (fun k => setG g (laneOf k v (lane % 16)) k)) s

/-- An ACC instruction: V must be even and LANE[3:2] zero, or it is illegal (Table 08.2). -/
def accInstr (c : CoreCtx) (v lane : Nat) (f : Core → Core) (s : State) : Answer :=
  issue c (fun _ => none) (fun k s => if v % 2 ≠ 0 ∨ 4 ≤ lane then trapOf 1 else regs c.core f k s) s

/-- ACC with G 0 zeroes accumulator a(LANE). -/
def execAccZero (c : CoreCtx) (v lane : Nat) (s : State) : Answer :=
  accInstr c v lane (fun k => (List.range 16).foldl (fun k i => setAcc lane i 0 k) k) s

/-- ACC with G 1 reads the accumulator into V (low halves) and V + 1 (high halves). -/
def execAccRead (c : CoreCtx) (v lane : Nat) (s : State) : Answer :=
  accInstr c v lane (fun k => (List.range 16).foldl (fun k i =>
    setLane (v + 1) i ((accOf k lane i).extractLsb' 32 32) (setLane v i ((accOf k lane i).extractLsb' 0 32) k)) k) s

/-- ACC with G 2 writes the accumulator from V and V + 1. -/
def execAccWrite (c : CoreCtx) (v lane : Nat) (s : State) : Answer :=
  accInstr c v lane (fun k => (List.range 16).foldl (fun k i =>
    setAcc lane i (BitVec.ofNat 64 ((laneOf k v i).toNat + 4294967296 * (laneOf k (v + 1) i).toNat)) k) k) s

end Sys2Proof.Machine
end

