-- ==== Sys2Proof/Machine/Power.lean ====
section
/-! DEFINITION. Power and heat (R493 to R507, R532, R539): the throttle ladder, VCORE, the thermal states, and rails. -/

namespace Sys2Proof.Machine

/-! ## The ladder (R496, R497) -/

/-- VCORE of a ladder position (Table 23.2). -/
def ladderVcore (pos : Nat) : Nat := 850 - 10 * min pos 20

/-- Eighths of grid issue duty at a position: 8 is undiminished (R499). -/
def gridDuty (pos : Nat) : Nat := if pos ≤ 20 then 8 else 28 - min pos 27

/-- Eighths of landing pacing at a position (R501). -/
def landingPacing (pos : Nat) : Nat := if pos ≤ 28 then 8 else 36 - min pos 32

/-- The shallowest position: 21 while the regulator is given up (R532). -/
def shallowest (s : State) : Nat := if s.power.fixed then 21 else 0

/-- Move a position deeper by `n`, or shallower by one; with VCORE fixed only positions 21 to 32 are used. -/
def deeper (s : State) (p n : Nat) : Nat := if n = 0 then p else min 32 (max (p + n) (shallowest s))
def shallower (s : State) (p : Nat) : Nat := if p ≤ shallowest s then p else p - 1

/-- The cap rule at the end of a period (R497): the power is in tenths of a watt. The cap is `cap` W. -/
def capRule (power : Nat) (s : State) : State :=
  let cap := rget Obj.POWER_CAP 0 s
  let q := s.power
  let recent := (power :: q.recent).take 10
  let cool := decide (recent.sum < (10 * cap - 30) * recent.length)
  let since := if cool then q.sincePc + 1 else 0
  let pc := if 11 * cap ≤ power then deeper s q.pc 4
    else if 10 * cap - 10 < power then deeper s q.pc 1
    else if 10 ≤ since then shallower s q.pc
    else q.pc
  let s1 := radd Obj.POWER_CAP_STEPS 0 (pc - q.pc) s
  { s1 with power := { s1.power with pc := pc, recent := recent, sincePc := if pc = q.pc then since else 0 } }

/-! ## VCORE (R34, R498, R532) -/

/-- Before VCORE falls the projected paces are published: 5 % below what calibration predicts (R34). -/
def project (mv : Nat) (hottest : Int) (s : State) : State :=
  each (List.range 7) (fun b s => setPace b (Config.predictedPace b mv hottest * 95 / 100) s)
    { s with clk := { s.clk with projecting := true } }

/-- Command a VCORE setting; measured paces are published again after the first full window at it. -/
def setVcore (mv : Nat) (hottest : Int) (s : State) : State :=
  if s.power.fixed ∨ mv = s.power.vcore then s
  else
    let s1 := if mv < s.power.vcore then lowWater (project mv hottest s) else s
    emit (.avs mv) { s1 with
      power := { s1.power with asked := some s.power.vcore, vcore := mv, retries := 0 }
      clk := { s1.clk with projWindows := 2 } }

/-- AVS_RETRY (R532): a command went unacknowledged. It is retried up to twice; then VCORE is fixed at its last confirmed value. -/
def execAvsRetry (s : State) : Answer :=
  match s.power.asked with
  | none => .next s
  | some last =>
    if s.power.retries < 2 then
      .next (emit (.avs s.power.vcore) { s with power := { s.power with retries := s.power.retries + 1 } })
    else .next (logError 0xAB 0 2 none 0 { s with power := { s.power with asked := none, vcore := last, fixed := true, retries := 0 } })

/-! ## Heat (R503 to R506) -/

/-- The hottest sensor's number and reading. -/
def hottestSensor (temps : Tab Int) : Nat × Int :=
  (List.range 24).foldl (fun b k => if b.2 < tget 25 temps k then (k, tget 25 temps k) else b) (0, tget 25 temps 0)

/-- A thermal event (R504): counted, with a record that names the sensor and its temperature. Its class 1 is DESIGN CHOICE. -/
def thermalEvent (always : Bool) (sensor : Nat) (t : Int) (s : State) : State :=
  logRec always 0x60 (mkRec 0xA8 sensor 1 none t.toNat s) (rinc Obj.THERM_EVENTS 0 s)

/-- The thermal trip (R505): landings stop, flash is quiesced, the record is pushed under every mode, THERMTRIP_N is low, and the device
holds itself in reset. -/
def thermalTrip (sensor : Nat) (t : Int) (s : State) : State :=
  let s1 := thermalEvent true sensor t (rset Obj.THERM_STATE 0 3 s)
  enterReset 4 true true { s1 with power := { s1.power with tripped := true } }

/-- The thermal state and position Pt at the end of a period (Table 23.3). -/
def thermalRule (sensor : Nat) (t : Int) (s : State) : State :=
  let warn := Int.ofNat (rget Obj.THERM_WARN 0 s)
  let st := rget Obj.THERM_STATE 0 s
  let q := s.power
  let twice := if 110 ≤ t then q.hotTwice + 1 else 0
  let s0 := { s with power := { q with hotTwice := twice } }
  if 2 ≤ twice then thermalTrip sensor t s0
  else
    let st' := if 105 ≤ t then 2
      else if st = 2 then (if t < 100 then 1 else 2)
      else if warn ≤ t then 1
      else if st = 1 ∧ t < warn - 3 then 0 else st
    let cool := if t < warn - 3 then q.coolPt + 1 else 0
    let pt := if st' = 2 then 32
      else if warn ≤ t then deeper s0 q.pt 1
      else if st' = 0 ∧ 10 ≤ cool then shallower s0 q.pt else q.pt
    let s1 := rset Obj.THERM_STATE 0 st' { s0 with power := { s0.power with pt := pt, coolPt := if pt = q.pt then cool else 0 } }
    if st' ≠ st ∧ st' ≠ 0 then thermalEvent false sensor t s1 else s1

/-- CONTROL_PERIOD (R495 to R498, R504): power in tenths of a watt, the 24 sensors and VCORE as measured. The ladder follows the deeper of
the two positions. -/
def execControlPeriod (power : Nat) (temps : List Int) (vcore : Nat) (s : State) : Answer :=
  if s.boot.held ≠ 0 then .next s
  else
    let t := (List.range 24).foldl (fun l k => tput 25 l k (temps.getD k 25)) ([] : Tab Int)
    let hot := hottestSensor t
    let s1 := rset Obj.VCORE_MV 0 vcore (rmax Obj.POWER_PEAK 0 power (rset Obj.POWER_NOW 0 power
      { s with power := { s.power with temps := t, asked := none, retries := 0 } }))
    let s2 := thermalRule hot.1 hot.2 (capRule power s1)
    .next (if s2.boot.held ≠ 0 then s2 else setVcore (ladderVcore (ladderPos s2)) hot.2 s2)

/-- POWER_CAP: whole watts from 40 to 75 (R494); it stands in the configuration record. -/
def execPowerCap (w : Who) (cap : Nat) (s : State) : Answer :=
  setStored Obj.POWER_CAP w (decide (40 ≤ cap) && decide (cap ≤ 75)) (rset Obj.POWER_CAP 0 cap) s

/-- THERMTRIP_RELEASE: the hottest sensor reads below 95 °C, and THERMTRIP_N is released (R505). -/
def execThermtripRelease (s : State) : Answer := .next { s with power := { s.power with tripped := false } }

/-- RAIL_OUT_OF_TOLERANCE (R539): the device acts as on PFAIL_N and records the rail. The record's class 4 is DESIGN CHOICE. -/
def execRailOutOfTolerance (rail : Nat) (s : State) : Answer :=
  if 7 ≤ rail ∨ s.boot.held ≠ 0 then .next s
  else .next (enterReset 10 true true (logError 0xAA rail 4 none 0 s))

end Sys2Proof.Machine
end

