-- ==== Sys2Proof/Machine/Values.lean ====
section
/-! DEFINITION. What a read of each Pattern Book object returns (R464, R466, R467, R489): a register's value for the entry that the path
selects, or a value derived from the state. -/

namespace Sys2Proof.Machine

/-! ## Selected entries (R467) -/

/-- The copy of a select object that a path uses. Sessions over MCTP share one copy of ATTEST_BERTH_SELECT for each endpoint ID. -/
def pathInst (o : Obj) (path : Nat) (s : State) : Nat :=
  match tget none s.tack.sessions path with
  | some x => if x.carrier = 1 ∧ o.index * 256 + o.sub = 0x330101 then 0x1000 + x.src else path
  | none => path

/-- A path's value of a select object. -/
def sel (o : Obj) (path : Nat) (s : State) : Nat := rget o (pathInst o path s) s

/-- The meter of a berth that a path's BMETER_BERTH and BMETER_KIND name. -/
def selMeter (path : Nat) (s : State) : Nat := berthMeter (sel Obj.BMETER_BERTH path s) (sel Obj.BMETER_KIND path s)

/-- The instance that a path selects of an object kept as a register: the path itself for an object held per path, the selected entry for
one that reports on an entry, and 0 for the rest. -/
def instFor (o : Obj) (path : Nat) (s : State) : Nat :=
  if o.marks.contains .path then pathInst o path s
  else match o.index, o.sub with
    | 0x1300, _ => sel Obj.MG_SELECT path s
    | 0x3103, _ => sel Obj.LD_SELECT path s
    | 0x3201, 0x07 => sel Obj.BERTH_SELECT path s
    | 0x4203, _ | 0x5122, _ | 0x6102, 0x08 | 0x7002, 0x02 => sel Obj.LD_SELECT path s
    | 0x4201, _ => sel Obj.PLACE_REGION_SELECT path s
    | 0x5121, 0x03 => sel Obj.PIN_BERTH_SELECT path s
    | 0x6000, _ => sel Obj.PANEL_SELECT path s
    | 0x6002, _ => sel Obj.CORE_SELECT path s
    | 0x6101, _ | 0x6102, _ => sel Obj.JOB_BERTH_SELECT path s
    | 0x7000, _ => sel Obj.HP_SELECT path s
    | 0x7001, _ => sel Obj.HL_SELECT path s
    | 0x7101, 0x08 => sel Obj.SEAM_SELECT path s * 18 + sel Obj.SEAM_LANE_SELECT path s
    | 0x7101, _ | 0x7102, _ => sel Obj.SEAM_SELECT path s
    | 0x7301, _ => sel Obj.WEAVE_EP_SELECT path s
    | 0x8000, _ | 0x8002, _ => sel Obj.DRAM_CHAN_SELECT path s
    | 0x8100, _ => sel Obj.FLASH_CHAN_SELECT path s
    | 0x9101, _ => selMeter path s
    | 0x9201, _ => sel Obj.PMETER_PORT path s
    | 0xA100, _ => sel Obj.BUCKET_SELECT path s
    | 0xA200, 0x02 => sel Obj.CONTAIN_CHANNEL_SELECT path s
    | 0xA201, 0x02 => sel Obj.REPORT_SELECT path s
    | _, _ => 0

/-! ## Records as bytes -/

/-- A record of the device error log (Table 17.6). -/
def errBytes (r : ErrRec) : List Byte :=
  natLE 32 (r.source % 256 + r.inst % 256 * 2 ^ 8 + r.cls % 8 * 2 ^ 16 + r.region % 2 ^ 13 * 2 ^ 19 + r.berth % 64 * 2 ^ 32
    + b2n r.secure * 2 ^ 38 + b2n r.linev * 2 ^ 39 + r.time % 2 ^ 48 * 2 ^ 40 + r.line % 2 ^ 43 * 2 ^ 88 + r.detail % 2 ^ 32 * 2 ^ 192)

/-- A record of the DRAM log (Table 11.6). -/
def dramBytes (r : DramRec) : List Byte :=
  natLE 32 (r.chan % 32 + r.subch % 2 * 2 ^ 5 + r.rank % 2 * 2 ^ 6 + r.bg % 8 * 2 ^ 7 + r.ba % 4 * 2 ^ 10 + r.row % 2 ^ 17 * 2 ^ 12
    + r.column % 128 * 2 ^ 29 + r.nibble % 16 * 2 ^ 36 + r.kind % 256 * 2 ^ 40 + r.region % 2 ^ 13 * 2 ^ 48 + r.time % 2 ^ 48 * 2 ^ 64
    + r.count % 2 ^ 16 * 2 ^ 112 + r.line % 2 ^ 43 * 2 ^ 128 + r.berth % 64 * 2 ^ 171)

/-- A record of the dead-agent poison log (Table 03.7). -/
def deadBytes (r : DeadRec) : List Byte :=
  natLE 16 (r.line % 2 ^ 43 + r.agent % 64 * 2 ^ 43 + r.berth % 64 * 2 ^ 49 + r.time % 2 ^ 48 * 2 ^ 64 + r.region % 2 ^ 13 * 2 ^ 112)

/-- A record of the divergence log (Table 15.3). -/
def divBytes (r : DivRec) : List Byte :=
  natLE 32 (r.kind % 8 + r.charged % 4 * 2 ^ 3 + r.action % 4 * 2 ^ 5 + r.tag % 2 ^ 27 * 2 ^ 8 + r.step % 32 * 2 ^ 35
    + r.line % 2 ^ 43 * 2 ^ 40 + r.region % 2 ^ 13 * 2 ^ 83 + r.time % 2 ^ 48 * 2 ^ 96)

/-- A shaper record (Table 16.2). -/
def shaperBytes (x : Shaper) : List Byte :=
  natLE 8 (b2n x.mode + 2 * b2n x.reset) ++ natLE 8 x.cir ++ natLE 8 x.pir ++ natLE 4 x.cbs ++ natLE 4 x.pbs

/-! ## The job save window (R214, Tables 09.8 and 09.9) -/

/-- An entry of a saved message queue: header word, 4 reserved bytes, 32 bytes of words; empty ones have VALID 0. -/
def savedEntry (port : Nat) : Option Msg → List Byte
  | none => List.replicate 40 0
  | some m => natLE 4 (headerWord m port).toNat ++ natLE 4 0 ++ (m.words.flatMap (natLE 4) ++ List.replicate 32 0).take 32

/-- A saved queue of `n` entries, oldest first. -/
def savedQueue (k : Core) (port n : Nat) : List Byte :=
  let q := tget [] k.queues port
  (List.range n).flatMap (fun i => savedEntry port q[i]?)

/-- Scoreboard state of a core (R209). -/
def scoreboard (k : Core) : Nat :=
  if k.task = 0 then 0 else if k.task = 2 then 6 else if k.task = 3 then 7 else if k.wait = 0 then 1 else k.wait

/-- Pattern slots that were loaded, as a bit map. -/
def loadedSlots (k : Core) : Nat := (List.range 8).foldl (fun m i => m + (if (tget none k.ps i).isSome then 2 ^ i else 0)) 0

/-- The first 4,224 bytes of a core record (Table 09.9). -/
def coreRecord (v : SavedPanel) (c : Nat) : List Byte :=
  let k : Core := tget {} v.cores c
  natLE 64 (k.pc % 2 ^ 15 + k.flags % 16 * 2 ^ 16 + loadedSlots k * 2 ^ 20 + scoreboard k * 2 ^ 28)
    ++ (List.range 64).flatMap (fun i => natLE 4 (tget 0 k.g i).toNat)
    ++ (List.range 8).flatMap (fun i => natLE 8 ((tget none k.ps i).getD 0))
    ++ natLE 256 ((List.range 2048).foldl (fun m b => m + (if tget false v.lsPoison (c * 2048 + b) then 2 ^ b else 0)) 0)
    ++ (List.range 4).flatMap (fun q => savedQueue k q 4)
    ++ savedQueue k 4 8
    ++ List.replicate 64 0
    ++ (List.range 512).flatMap (fun i => natLE 4 (tget 0 k.v i).toNat)
    ++ (List.range 64).flatMap (fun i => natLE 8 (tget 0 k.acc i).toNat)

/-- 64 bytes of a panel's save area at an aligned offset. The layout of the panel header and of message cells in it is not stated: there
the answer is none. -/
def savedBlock (v : SavedPanel) (off : Nat) : Option (List Byte) :=
  if off = 0 then none
  else if off = 0x40 then
    some ((List.range 4).flatMap (fun i =>
        let b : Barrier := tget {} v.bars i
        natLE 8 (b.mask + b.arrived * 2 ^ 20 + b2n (b.mask != 0) * 2 ^ 40))
      ++ (List.range 4).flatMap (fun i => match v.watches[i]? with
        | some w => natLE 8 (w.tile + (if w.intact then 2 ^ 63 else 0))
        | none => natLE 8 0))
  else if off = 0x80 then
    some ((((coresOfPanel v.panel).map (fun c => BitVec.ofNat 8 (scoreboard (tget {} v.cores c)))) ++ List.replicate 44 0).take 64)
  else if off < 0x200 then some (List.replicate 64 0)
  else if off < 0x800 then (if (off - 0x200) / 48 < v.outbound.length then none else some (List.replicate 64 0))
  else if off < 0x1000 then some (List.replicate 64 0)
  else
    let c := coreAt v.panel ((off - 0x1000) / 0x21080)
    let at_ := (off - 0x1000) % 0x21080
    if at_ < 0x1080 then some (((coreRecord v c).drop at_).take 64) else some (loadBytes v.ls (c * 131072 + (at_ - 0x1080)) 64)

/-- JOB_SAVE_WINDOW: the saved areas of a job follow one another in the order of its panels. A job that is not saved, or an offset beyond
its areas, has no stated answer. -/
def saveWindow (path : Nat) (s : State) : Option (List Byte) :=
  match jobOf s (sel Obj.JOB_SELECT path s) with
  | none => none
  | some j =>
    let off := sel Obj.JOB_SAVE_OFFSET path s
    match j.saved[off / 2710016]? with
    | none => none
    | some v => savedBlock v (off % 2710016)

/-! ## Derived values -/

/-- A number as the object's path and the state give it. -/
abbrev Derived := Obj × (Nat → State → Nat)

/-- A bit map of the numbers below `n` that satisfy `p`. -/
def mapOf (n : Nat) (p : Nat → Bool) : Nat := (List.range n).foldl (fun m k => m + (if p k then 2 ^ k else 0)) 0

/-- An I32 as its code. -/
def i32Code (v : Int) : Nat := (v % 4294967296).toNat

/-- The credential slots, by slot number 1 to 6 (Table 21.7). -/
def credSlot : Nat → Obj
  | 1 => Obj.CRED_OPERATOR_NS
  | 2 => Obj.CRED_OPERATOR_S
  | 3 => Obj.CRED_ADMIN_NS
  | 4 => Obj.CRED_ADMIN_S
  | 5 => Obj.CRED_VENDOR
  | _ => Obj.CRED_EVENT

/-- Image that a path selects. -/
def selImage (path : Nat) (s : State) : Nat := sel Obj.FW_IMAGE_SELECT path s

/-- 0x1xxx and 0x2xxx. -/
def derived12 : List Derived :=
  [(Obj.VENDOR_ID, fun _ _ => Config.vendorId),
   (Obj.CRED_STATE, fun _ s => mapOf 6 (fun k => rget (credSlot (k + 1)) 0 s != 0)),
   (Obj.TACK_SESSIONS, fun _ s => (s.tack.sessions.filter (fun x => match x.2 with
      | some y => y.live
      | none => false)).length),
   (Obj.POWER_LIMITING, fun _ s => b2n (s.power.pc != 0)),
   (Obj.THERM_TEMP, fun p s => i32Code (tget 25 s.power.temps (sel Obj.THERM_SELECT p s))),
   (Obj.THERM_HOTTEST, fun _ s => i32Code (hottestSensor s.power.temps).2),
   (Obj.PACE_MIN, fun _ s => paceMin s),
   (Obj.PACE_GRID, fun _ s => paceOf s 0), (Obj.PACE_WEAVE, fun _ s => paceOf s 1),
   (Obj.PACE_MANIFEST_A, fun _ s => paceOf s 2), (Obj.PACE_MANIFEST_B, fun _ s => paceOf s 3),
   (Obj.PACE_SLICES, fun _ s => paceOf s 4), (Obj.PACE_FERRY, fun _ s => paceOf s 5), (Obj.PACE_FFU, fun _ s => paceOf s 6),
   (Obj.PACE_STAMP, fun _ s => s.clk.stamp),
   (Obj.PACE_STATUS, fun _ s => b2n s.clk.projecting + 2 * b2n ((List.range 148).any (loopFaulty s))),
   (Obj.PACE_LOOP_FAULT, fun _ s => mapOf 64 (loopFaulty s)),
   (Obj.PACE_LOOP_FAULT_HI, fun _ s => mapOf 64 (fun k => loopFaulty s (64 + k))),
   (Obj.PACE_LOOP_FAULT_TOP, fun _ s => mapOf 20 (fun k => loopFaulty s (128 + k))),
   (Obj.ISLAND_LOCK, fun _ s => islandLock s),
   (Obj.UNIT_ID, fun _ s => unitId s),
   (Obj.FW_SET_ID, fun _ s => fwSetId s),
   (Obj.FW_IF_ACTIVE, fun p s => fwIf s (selImage p s)),
   (Obj.FW_BUILD_ACTIVE, fun p s => (runningBank s (selImage p s)).build),
   (Obj.FW_SVN_ACTIVE, fun p s => (runningBank s (selImage p s)).svn),
   (Obj.FW_SVN_FLOOR, fun p s => floorOf s (selImage p s)),
   (Obj.FW_BANK_ACTIVE, fun p s => if selImage p s = 1 then 0xFF else activeBank s (selImage p s)),
   (Obj.FW_IF_INACTIVE, fun p s =>
      let b := 1 - activeBank s (selImage p s)
      if selImage p s ≠ 1 && bankValid s (selImage p s) b then (bankAt s (selImage p s) b).ifv else 0),
   (Obj.FW_MATRIX_ROWS, fun _ s => (runningBank s 3).rows.length)]

/-- Region that a path selects. -/
def selRegion (path : Nat) (s : State) : Region := regionOf s (sel Obj.REGION_SELECT path s)

/-- Logical device and berth that a path selects. -/
def selLd (path : Nat) (s : State) : Ld := ldOf s (sel Obj.LD_SELECT path s)
def selBerth (path : Nat) (s : State) : Nat := sel Obj.BERTH_SELECT path s
def selKey (path : Nat) (s : State) : Nat := sel Obj.KEY_BERTH_SELECT path s

/-- 0x3xxx. -/
def derived3 : List Derived :=
  [(Obj.BERTH_STATE, fun p s => (berthOf s (selBerth p s)).st),
   (Obj.BERTH_CONFIDENTIAL, fun p s => b2n (berthOf s (selBerth p s)).conf),
   (Obj.BERTH_REGIONS, fun p s => (regionsOf s (selBerth p s)).length),
   (Obj.BERTH_PANELS, fun p s => mapOf 60 (fun k => (panelOf s k).berth == selBerth p s && !(panelOf s k).lent)),
   (Obj.WORLD_LANDINGS, fun _ s => s.berths.landingWorld),
   (Obj.WORLD_PANELS, fun _ s => mapOf 60 (fun k => (panelOf s k).world)),
   (Obj.REGION_BASE, fun p s => (selRegion p s).base), (Obj.REGION_SIZE, fun p s => (selRegion p s).size),
   (Obj.REGION_CLASS, fun p s => (selRegion p s).cls), (Obj.REGION_OWNER, fun p s => (selRegion p s).owner),
   (Obj.REGION_SHARE, fun p s => b2n (selRegion p s).share), (Obj.REGION_STATE, fun p s => (selRegion p s).st),
   (Obj.REGION_WORLD, fun p s => b2n (selRegion p s).world),
   (Obj.REGION_PRIV_LD, fun p s => if (selRegion p s).share then 0xFF else (selRegion p s).privLd),
   (Obj.POOL_VISIBLE_GIB, fun _ s => visibleGib s), (Obj.POOL_FREE_GIB, fun _ s => poolFree s),
   (Obj.POOL_LARGEST_FREE_GIB, fun _ s => poolLargestFree s), (Obj.NEAR_USABLE_GIB, fun _ s => nearUsable s),
   (Obj.NEAR_RESERVABLE_GIB, fun _ s => nearReservable s), (Obj.NEAR_RESERVED_GIB, fun _ s => nearReserved s),
   (Obj.LD_AGENT, fun p s => if (selLd p s).enabled then (selLd p s).agent else 0xFF),
   (Obj.LD_BERTH, fun p s => if (selLd p s).enabled then (selLd p s).berth else 0xFF),
   (Obj.LD_COHERENCE, fun p s => if (selLd p s).enabled then (selLd p s).coh else 0),
   (Obj.LD_EXTENTS, fun p s => (selLd p s).accepted.length),
   (Obj.PERM_GRANT_COUNT, fun _ s => s.berths.grants.length),
   (Obj.PERM_EPOCH, fun p s => (berthOf s (selBerth p s)).epoch),
   (Obj.PERM_EPOCH_DRAINED, fun p s => (berthOf s (selBerth p s)).drained),
   (Obj.PERM_OLD_INFLIGHT, fun _ s => match s.berths.running with
      | some r => oldInflight s r.flipped
      | none => 0),
   (Obj.PERM_CLEAN_PENDING, fun _ s => (s.mf.ranges.filter (fun r => r.why == .cleanup)).length),
   (Obj.CONF_DEVICE, fun _ s => b2n s.berths.confDevice),
   (Obj.ATTEST_LEAF_SERIAL, fun _ s => s.berths.leafSerial),
   (Obj.KEY_STATE, fun p s => (keyOf s (selKey p s)).st), (Obj.KEY_ACTIVE_SLOT, fun p s => (keyOf s (selKey p s)).active),
   (Obj.KEY_GEN_A, fun p s => (keyOf s (selKey p s)).genA), (Obj.KEY_GEN_B, fun p s => (keyOf s (selKey p s)).genB),
   (Obj.REKEY_LEFT, fun p s => rekeyLeft s (selKey p s)),
   (Obj.PAIR_KEY_CHECK, fun _ s => pairKeyCheck s)]

/-- Agent that a path selects. -/
def selAgent (path : Nat) (s : State) : Nat := sel Obj.AGENT_SELECT path s

/-- 0x4xxx. -/
def derived4 : List Derived :=
  [(Obj.MF_CAPACITY_LINES, fun _ s => setCount s * 16),
   (Obj.MF_TRACKED_A, fun _ s => s.mf.planeA.entries.length), (Obj.MF_TRACKED_B, fun _ s => s.mf.planeB.entries.length),
   (Obj.AGENT_STATE, fun p s => (agentOf s (selAgent p s)).st),
   (Obj.AGENT_LINES_SHARED, fun p s => (linesWhere s (fun _ e => (e.st == .s || e.st == .rs) && e.sharers.getLsbD (selAgent p s))).length),
   (Obj.AGENT_LINES_OWNED, fun p s => (linesWhere s (fun _ e => (e.st == .o || e.st == .ro) && e.owner == selAgent p s)).length),
   (Obj.AGENT_DEATH_CAUSE, fun p s => (agentOf s (selAgent p s)).cause),
   (Obj.AGENT_DEATH_TIME, fun p s => (agentOf s (selAgent p s)).time),
   (Obj.AGENT_POISONED_LINES, fun p s => (agentOf s (selAgent p s)).poisoned),
   (Obj.DEAD_POISON_LOG_COUNT, fun _ s => s.mf.deadLog.length),
   (Obj.AHT_RECORDS_A, fun _ s => s.mf.planeA.aht.length), (Obj.AHT_RECORDS_B, fun _ s => s.mf.planeB.aht.length),
   (Obj.MF_MODE, fun _ s => mfMode s), (Obj.MF_PLANE_A_STATE, fun _ s => s.red.stA), (Obj.MF_PLANE_B_STATE, fun _ s => s.red.stB),
   (Obj.MF_CLAIM_A, fun _ s => s.red.claimA), (Obj.MF_CLAIM_B, fun _ s => s.red.claimB),
   (Obj.DIV_LOG_COUNT, fun _ s => s.red.divLog.length),
   (Obj.HEALTH_SUMMARY, fun _ s => leNat (s.hlt.health.take 4)),
   (Obj.PAIR_ROLE, fun _ s => s.pair.role), (Obj.PAIR_MIRROR_STATE, fun _ s => s.pair.mirror),
   (Obj.PAIR_CLAIM, fun _ s => s.pair.claim), (Obj.PAIR_PARTNER_CLAIM, fun _ s => s.pair.partnerClaim),
   (Obj.PAIR_RESYNC_LEFT, fun _ s => s.pair.resync.length)]

/-- Tile and DRAM channel that a path selects. -/
def selTile (path : Nat) (s : State) : Nat := sel Obj.TILE_SELECT path s
def selChan (path : Nat) (s : State) : Nat := sel Obj.CHAN_SELECT path s

/-- A tile's state code (Table 05.3). -/
def tileState (s : State) (t : Nat) : Nat := if (tagOf s t).st ≠ 0 then (tagOf s t).st else (farOf s t).kind

/-- 0x5xxx and 0x6xxx. -/
def derived56 : List Derived :=
  [(Obj.TILE_STATE, fun p s => tileState s (selTile p s)),
   (Obj.TILE_FLAGS, fun p s =>
      let g := tagOf s (selTile p s)
      b2n g.pin + 2 * b2n g.stage + 4 * b2n g.held + 8 * b2n g.zb + 16 * b2n g.rsv + 32 * g.kslot),
   (Obj.TILE_HOME, fun p s => homeOf s (selTile p s)),
   (Obj.TILE_DIRTY_LINES, fun p s => mapCount (tagOf s (selTile p s)).dirty),
   (Obj.CHAN_FRAMES, fun p s => usableFrames s (selChan p s)), (Obj.CHAN_FREE, fun p s => freeFrames s (selChan p s)),
   (Obj.CHAN_RESERVED, fun p s => reservedFrames s (selChan p s)), (Obj.CHAN_PINNED, fun p s => pinnedIn s (selChan p s)),
   (Obj.CHAN_STAGED, fun p s => stagedIn s (selChan p s)),
   (Obj.CHAN_TAG_OVERFLOW, fun p s => (s.ferry.tags.filter (fun g => g.2.overflow && g.2.home == selChan p s)).length),
   (Obj.PIN_BERTH_USED_TILES, fun p s => pinnedOf s (sel Obj.PIN_BERTH_SELECT p s)),
   (Obj.PANEL_STATE, fun p s => (panelOf s (sel Obj.PANEL_SELECT p s)).st),
   (Obj.PANEL_BERTH, fun p s => (panelOf s (sel Obj.PANEL_SELECT p s)).berth),
   (Obj.PANEL_WORLD, fun p s => b2n (panelOf s (sel Obj.PANEL_SELECT p s)).world),
   (Obj.PANEL_PACE, fun p s => tget 1000 s.clk.loopPace (sel Obj.PANEL_SELECT p s)),
   (Obj.GRID_PANELS_IN_SERVICE, fun _ s => mapOf 60 (fun k => (panelOf s k).st != 4)),
   (Obj.JOB_SAVE_SLOTS, fun _ s => saveSlots s)]

/-- Link and Seam port that a path selects. -/
def selLink (path : Nat) (s : State) : Link := linkOf s (sel Obj.HL_SELECT path s)
def selSeam (path : Nat) (s : State) : SeamPort := seamOf s (sel Obj.SEAM_SELECT path s)

/-- Good spares of a direction: its two spares stand at 16 and 17 of the lane map; an x8 link has none (R335). -/
def sparesLeft (q : SeamPort) (map bad : List Nat) : Nat :=
  if q.width ≠ 16 then 0
  else ([16, 17].filter (fun k => decide (map.getD k 31 < 18) && !bad.contains (map.getD k 31))).length

/-- 0x7xxx. -/
def derived7 : List Derived :=
  [(Obj.HL_STATE, fun p s => linkState s (sel Obj.HL_SELECT p s)), (Obj.HL_RATE, fun p s => (selLink p s).rate),
   (Obj.HL_WIDTH, fun p s => (selLink p s).width), (Obj.HL_FLIT, fun p s => (selLink p s).flit),
   (Obj.HL_OPEN, fun p s => openOn s (sel Obj.HL_SELECT p s)),
   (Obj.SEAM_STATE, fun p s => (selSeam p s).st), (Obj.SEAM_WIDTH, fun p s => (selSeam p s).width),
   (Obj.SEAM_PARTNER_UNIT, fun p s => (selSeam p s).partner), (Obj.SEAM_FLIGHT_NS, fun p s => (selSeam p s).flight),
   (Obj.SEAM_SPARES_LEFT, fun p s =>
      let q := selSeam p s
      sparesLeft q q.rxMap q.rxBad + 4 * sparesLeft q q.txMap q.txBad),
   (Obj.SEAM_DOWN_CAUSE, fun p s => (selSeam p s).cause),
   (Obj.WEAVE_EP_STATE, fun p s => epState s (sel Obj.WEAVE_EP_SELECT p s))]

/-- DRAM and flash channel that a path selects. -/
def selDram (path : Nat) (s : State) : DramChan := chanOf s (sel Obj.DRAM_CHAN_SELECT path s)
def selFlash (path : Nat) (s : State) : FlashChan := flashOf s (sel Obj.FLASH_CHAN_SELECT path s)

/-- Erase counts of the bands; a band that the table does not list has none. -/
def wearMax (s : State) : Nat := (s.flash.bands.map (fun b => b.2.erases)).foldl max 0
def wearMin (s : State) : Nat :=
  if s.flash.bands.length < 2 * 262143 then 0 else (s.flash.bands.map (fun b => b.2.erases)).foldl min (wearMax s)

/-- 0x8xxx. -/
def derived8 : List Derived :=
  [(Obj.DRAM_CHAN_STATE, fun p s => (selDram p s).st), (Obj.DRAM_ORG, fun p s => (selDram p s).org),
   (Obj.DRAM_CAPACITY_GIB, fun p s => (selDram p s).cap), (Obj.DRAM_TEMP, fun p s => i32Code (selDram p s).temp),
   (Obj.DRAM_REFRESH_RATE, fun p s => b2n (selDram p s).fast), (Obj.DRAM_TRAIN_MARGIN, fun p s => (selDram p s).margin),
   (Obj.DRAM_SHADOWED, fun p s => b2n (shadowed s (sel Obj.DRAM_CHAN_SELECT p s))),
   (Obj.DRAM_SPEED, fun _ s => s.dram.speed), (Obj.DRAM_MIRROR_DEGRADED, fun _ s => s.dram.degraded),
   (Obj.DRAM_LOG_COUNT, fun _ s => s.dram.log.length),
   (Obj.FLASH_CHAN_STATE, fun p s => (selFlash p s).st), (Obj.FLASH_TARGETS, fun p s => (selFlash p s).targets),
   (Obj.FLASH_RAW_GIB, fun p s => rawUnits s (sel Obj.FLASH_CHAN_SELECT p s) / 16),
   (Obj.FAR_RAW_GIB, fun _ s => farRawGib s), (Obj.FAR_DATA_GIB, fun _ s => farDataGib s),
   (Obj.FAR_EXPOSED_GIB, fun _ s => s.flash.exposed), (Obj.FAR_FLOOR_GIB, fun _ s => farFloorGib s),
   (Obj.FAR_LOG_ENTRIES, fun _ s => logEntries s), (Obj.FAR_LOG_CAPACITY, fun _ s => logCapacity s),
   (Obj.FAR_FREE_BANDS, fun _ s => erasedBands s 0 + erasedBands s 1),
   (Obj.FAR_BAD_BLOCK_SETS, fun _ s => s.flash.badSets.length),
   (Obj.FAR_WEAR_MAX, fun _ s => wearMax s), (Obj.FAR_WEAR_MIN, fun _ s => wearMin s)]

/-- Whole tokens of every instance of a meter now. -/
def tokensOf (f : Inst → Nat) (m : Nat) (s : State) : Nat :=
  ((meterPorts s m).map (fun p => f (refilled (instOf s m p) (now s)) / 65536)).sum

/-- The gaps of R405. -/
def sdcGaps (s : State) : Nat :=
  b2n (rget Obj.GRID_RESIDUE_ENABLE 0 s == 0) + 2 * b2n (rget Obj.TCRC_VERIFY_DEMOTE 0 s == 0)
    + 4 * b2n (rget Obj.CANARY_ENABLE 0 s == 0 || decide (1000 < rget Obj.CANARY_PERIOD 0 s))
    + 8 * b2n (decide (24 < rget Obj.DRAM_SCRUB_PERIOD 0 s)) + 16 * b2n (decide (3600 < rget Obj.MF_SCRUB_PERIOD 0 s))

/-- The bucket that a path selects: its SOURCE and INSTANCE. -/
def selBucket (path : Nat) (s : State) : Nat × Nat := (sel Obj.BUCKET_SELECT path s / 256, sel Obj.BUCKET_SELECT path s % 256)

/-- 0x9xxx to 0xFxxx. -/
def derived9F : List Derived :=
  [(Obj.BMETER_TC, fun p s => tokensOf (·.tc) (selMeter p s) s), (Obj.BMETER_TP, fun p s => tokensOf (·.tp) (selMeter p s) s),
   (Obj.BMETER_INSTANCES, fun p s => (berthPorts s (sel Obj.BMETER_BERTH p s)).length),
   (Obj.PMETER_HELD_NOW, fun p s => (s.meters.held.filter (fun h => h.kind == 0 && h.link / 2 == sel Obj.PMETER_PORT p s)).length),
   (Obj.ERR_LOG_COUNT, fun _ s => s.errs.log.length),
   (Obj.BUCKET_LEVEL, fun p s => (bucketOf s (selBucket p s).1 (selBucket p s).2).level),
   (Obj.BUCKET_WINDOW, fun p s => ((bucketParams (selBucket p s).1).getD (0, 0)).1),
   (Obj.BUCKET_THRESHOLD, fun p s => ((bucketParams (selBucket p s).1).getD (0, 0)).2),
   (Obj.SDC_FULL_CHECKING, fun _ s => b2n (sdcGaps s == 0)), (Obj.SDC_GAPS, fun _ s => sdcGaps s),
   (Obj.DIAG_REFUSED, fun _ s => rget Obj.DIAG_REFUSED 0 s)]

/-- Every derived number. -/
def derivedAll : List Derived := derived12 ++ derived3 ++ derived4 ++ derived56 ++ derived7 ++ derived8 ++ derived9F

/-- Two objects are the same. -/
def sameObj (a b : Obj) : Bool := a.index == b.index && a.sub == b.sub

/-- A number object's value on a path: derived, or its register. -/
def numberOf (o : Obj) (path : Nat) (s : State) : Nat :=
  match derivedAll.find? (fun d => sameObj d.1 o) with
  | some d => d.2 path s
  | none => rget o (instFor o path s) s

/-- Bytes of a value of a type of fixed size (Table 21.1). -/
def tySize : ObjTy → Nat
  | .u8 | .bool | .enum8 => 1
  | .u16 => 2
  | .u32 | .i32 | .bits32 => 4
  | .u64 | .cmd => 8
  | .time48 => 6
  | .oct n => n
  | .str => 0

/-- A tile of a secure-world region. -/
def secureTile (s : State) (t : Nat) : Bool := match regionAtTile s t with
  | some r => (regionOf s r).world
  | none => false

/-- A record of a log that a path's index object names. -/
def logAt {α : Type} (l : List α) (index : Obj) (path : Nat) (s : State) : Option α := l[sel index path s]?

/-- Values that the spec does not state: a supply reading, cache hits, an OID that it does not print, what a trace dropped, and save areas
where Table 09.8 gives no layout. -/
def openBytes (o : Obj) (n : Nat) (s : State) : List Byte × State :=
  let _ := o
  let (v, s1) := fresh s
  (natLE n v, s1)

/-- TRACE_STATUS (R536): capturing, records dropped (a free value: packets are not modelled), and capture refused. -/
def traceStatus (s : State) : List Byte × State :=
  let on := rget Obj.TRACE_ENABLE 0 s == 1
  let ok := testOpen s && !s.berths.confDevice
  let (v, s1) := fresh s
  (natLE 4 (b2n (on && ok) + 2 * (v % 2) + 4 * b2n (on && !ok)), s1)

/-- Values of the OCT and STR objects, and of those that are open; none where the object is a plain number or register. -/
def specialValue (o : Obj) (path : Nat) (s : State) : Option (List Byte × State) :=
  let done (b : List Byte) : Option (List Byte × State) := some (b, s)
  match o.index, o.sub with
  | 0x1000, 0x04 => done (ascii ['A', 'Q', 'K', '-', '2', '4', '3', '2', '-', 'F', '0'])
  | 0x1300, 0x06 => done (natBE 6 (Config.macAddress (sel Obj.MG_SELECT path s)))
  | 0x2600, 0x03 => some (openBytes o 2 s)
  | 0x3301, 0x03 => some (openBytes o 16 s)
  | 0x4100, 0x05 => some (openBytes o 2 s)
  | 0x4103, 0x03 => (logAt s.mf.deadLog Obj.DEAD_POISON_LOG_INDEX path s).map (fun r => (deadBytes r, s))
  | 0x4301, 0x03 => (logAt s.red.divLog Obj.DIV_LOG_INDEX path s).map (fun r => (divBytes r, s))
  | 0x4303, 0x01 => done s.hlt.health
  | 0x5002, 0x01 => done (hdrBytes (selTile path s) (hdrOf s (selTile path s)))
  | 0x6103, 0x03 => (match saveWindow path s with
    | some b => done b
    | none => some (openBytes o 64 s))
  | 0x7100, 0x06 =>
    let q := selSeam path s
    done (((q.rxMap.take 16) ++ (q.txMap.take 16)).map (BitVec.ofNat 8))
  | 0x8004, 0x03 => (logAt s.dram.log Obj.DRAM_LOG_INDEX path s).map (fun r => (dramBytes r, s))
  | 0x9100, 0x03 => done (shaperBytes (shaperOf s (selMeter path s)))
  | 0x9200, 0x02 => done (shaperBytes (shaperOf s (portMeter (sel Obj.PMETER_PORT path s))))
  | 0xA000, 0x03 => (logAt s.errs.log Obj.ERR_LOG_INDEX path s).map (fun r => (errBytes r, s))
  | 0xA301, 0x05 => (match s.errs.canaryLast with
    | some r => done (errBytes r)
    | none => some (openBytes o 32 s))
  | 0xA400, 0x02 => (match s.errs.resetRecord with
    | some r => done (errBytes r)
    | none => some (openBytes o 32 s))
  | 0xF000, 0x04 => some (traceStatus s)
  | _, _ => none

/-- HP_BIFURCATE and HP_CLOCKING hold the stored value plus one; while none is stored the pin strap's is in force (R489). -/
def strapValue (o : Obj) (path : Nat) (s : State) : Nat :=
  let port := sel Obj.HP_SELECT path s
  let v := rget o port s
  if v = 0 then bits (rget Obj.STRAPS 0 s) (port + if o.sub = 2 then 0 else 8) 1 else v - 1

/-- The result that a read of a command object returns (R467, R489): as many bytes of 0xFF as its result holds before any command, and
0xFF in the status byte while a permission change runs. -/
def resultBytes (o : Obj) (path : Nat) (s : State) : List Byte :=
  match tget none s.cmdRes (cmdKey o path) with
  | some b => b
  | none => List.replicate 8 0xFF

/-- The entry that a path selects exists. Where a select object states no range it takes every value of its type (R466), and what its
objects then report is not stated. -/
def selExists (o : Obj) (path : Nat) (s : State) : Bool :=
  match o.index, o.sub with
  | 0x3103, n => n == 1 || decide (sel Obj.LD_SELECT path s < 128)
  | 0x4203, _ | 0x5122, _ | 0x6102, 0x08 | 0x7002, 0x02 => decide (sel Obj.LD_SELECT path s < 128)
  | 0x4102, n => n == 1 || decide (selAgent path s < 64)
  | 0x5001, n => n == 1 || decide (selChan path s < 24)
  | 0x5121, 0x03 | 0x5121, 0x04 => decide (sel Obj.PIN_BERTH_SELECT path s < 64)
  | 0x6101, n => n == 1 || decide (sel Obj.JOB_BERTH_SELECT path s < 64)
  | 0x6102, _ => decide (sel Obj.JOB_BERTH_SELECT path s < 64)
  | 0xA100, n => n == 1 || bucketHas (selBucket path s).1 (selBucket path s).2
  | 0xA201, 0x02 =>
    let u := sel Obj.REPORT_SELECT path s
    decide (u < 24) || (decide (32 ≤ u) && decide (u < 74)) || u == 80
  | _, _ => true

/-- A whole value as a path reads it, and the state after (a free value is drawn where the spec states none). -/
def readValue (o : Obj) (path : Nat) (s : State) : List Byte × State :=
  if !selExists o path s then openBytes o (tySize o.ty) s
  else match specialValue o path s with
  | some r => r
  | none =>
    match o.ty with
    | .cmd => (resultBytes o path s, s)
    | ty =>
      if o.index = 0x7000 ∧ (o.sub = 2 ∨ o.sub = 3) then (natLE (tySize ty) (strapValue o path s), s)
      else (natLE (tySize ty) (numberOf o path s), s)

/-! ## Who may see it (R466) -/

/-- A record of a log names a secure region. -/
def secureRec (s : State) (region : Nat) : Bool := (regionOf s region).world

/-- The secure world is needed to read what the path selects: a record of a secure region, a per-panel object of a secure panel, or a saved
job of the secure world. -/
def readNeedsSecure (o : Obj) (path : Nat) (s : State) : Bool :=
  match o.index, o.sub with
  | 0x4103, 0x03 => (match logAt s.mf.deadLog Obj.DEAD_POISON_LOG_INDEX path s with
    | some r => secureRec s r.region
    | none => false)
  | 0x4301, 0x03 => (match logAt s.red.divLog Obj.DIV_LOG_INDEX path s with
    | some r => secureRec s r.region
    | none => false)
  | 0x8004, 0x03 => (match logAt s.dram.log Obj.DRAM_LOG_INDEX path s with
    | some r => secureRec s r.region
    | none => false)
  | 0xA000, 0x03 => (match logAt s.errs.log Obj.ERR_LOG_INDEX path s with
    | some r => r.secure
    | none => false)
  | 0x6000, n => n != 1 && (panelOf s (sel Obj.PANEL_SELECT path s)).world
  | 0x6103, 0x03 => (match jobOf s (sel Obj.JOB_SELECT path s) with
    | some j => j.world
    | none => false)
  | _, _ => false

/-- The index object of a log entry is at or above its log's count. -/
def pastLog (o : Obj) (path : Nat) (s : State) : Bool :=
  match o.index, o.sub with
  | 0x4103, 0x03 => decide (s.mf.deadLog.length ≤ sel Obj.DEAD_POISON_LOG_INDEX path s)
  | 0x4301, 0x03 => decide (s.red.divLog.length ≤ sel Obj.DIV_LOG_INDEX path s)
  | 0x8004, 0x03 => decide (s.dram.log.length ≤ sel Obj.DRAM_LOG_INDEX path s)
  | 0xA000, 0x03 => decide (s.errs.log.length ≤ sel Obj.ERR_LOG_INDEX path s)
  | _, _ => false

/-- The berth's confidential mode or the device's. -/
def confidentialBerth (s : State) (b : Nat) : Bool := s.berths.confDevice || (decide (b < 64) && (berthOf s b).conf)

/-- The object reads 0 for this requester: a tile of a secure region outside the secure world (R127, R148), a per-core counter or a saved
job under confidential mode (Table 18.6). -/
def readsZero (o : Obj) (w : Who) (s : State) : Bool :=
  match o.index, o.sub with
  | 0x5000, n => n != 1 && !w.secure && secureTile s (selTile w.path s)
  | 0x5002, _ => !w.secure && secureTile s (selTile w.path s)
  | 0x6002, n => n != 1 && confidentialBerth s (panelOf s (panelOfCore (sel Obj.CORE_SELECT w.path s))).berth
  | 0x6103, 0x03 => (match jobOf s (sel Obj.JOB_SELECT w.path s) with
    | some j => confidentialBerth s j.berth
    | none => s.berths.confDevice)
  | _, _ => false

/-- The status of a GET (Table 21.2), from AUTH on. -/
def readStatus (o : Obj) (w : Who) (s : State) : Nat :=
  let st := accessStatus o w false s
  if st ≠ 0 ∧ st ≠ 0x02 then st
  else if !w.secure && readNeedsSecure o w.path s && !readsZero o w s then 0x04
  else if st ≠ 0 then st
  else if pastLog o w.path s then 0x07
  else 0

/-- The bytes a GET returns. -/
def getBytes (o : Obj) (w : Who) (s : State) : List Byte × State :=
  let (b, s1) := readValue o w.path s
  if readsZero o w s then (List.replicate b.length 0, s) else (b, s1)

end Sys2Proof.Machine
end

