-- ==== Sys2Proof/Machine/Diag.lean ====
section
/-! DEFINITION. Vendor diagnostic access (R492): the 64 bytes at DIAG_ADDR in the pool, in a DRAM channel or in a local store. -/

namespace Sys2Proof.Machine

/-- A parsed DIAG_ADDR: SPACE, UNIT and the byte address. -/
structure DiagAddr where
  space : Nat
  unit : Nat
  addr : Nat
  deriving DecidableEq, Repr

/-- The fields of DIAG_ADDR. -/
def diagAddr (s : State) : DiagAddr :=
  let v := rget Obj.DIAG_ADDR 0 s
  ⟨bits v 60 4, bits v 48 12, bits v 0 48⟩

/-- The address is aligned and lies in an assigned space and unit. An address beyond the space is out of range too (DESIGN CHOICE). -/
def diagInRange (s : State) (a : DiagAddr) : Bool :=
  decide (a.addr % 64 = 0) &&
  match a.space with
  | 0 => decide (a.unit = 0) && decide (a.addr < visibleGib s * 1073741824)
  | 1 => decide (a.unit < 24) && decide (a.addr < (chanOf s a.unit).cap * 1073741824)
  | 2 => decide (a.unit < 1200) && decide (a.addr < 131072)
  | _ => false

/-- The tile whose frame covers a channel byte address (R247): frames lie from 0 upwards. -/
def tileAtFrame (s : State) (chan addr : Nat) : Option Nat :=
  (s.ferry.tags.find? (fun g => g.2.st != 0 && homeOf s g.1 == chan && frameOf s g.1 == addr / 65536)).map (·.1)

/-- The berth that owns the region of a tile. -/
def tileOwner (s : State) (t : Nat) : Option Nat := (regionAtTile s t).map (fun r => (regionOf s r).owner)

/-- The access would reach a confidential berth's line, panel or save areas, or the device is confidential. Save areas hold the panels of
every berth, so an access to them is refused while any berth is confidential (DESIGN CHOICE). -/
def diagConfidential (s : State) (a : DiagAddr) : Bool :=
  let conf (b : Option Nat) : Bool := match b with
    | some b => (berthOf s b).conf
    | none => false
  s.berths.confDevice ||
  match a.space with
  | 0 => conf (tileOwner s (a.addr / 65536))
  | 1 =>
    let area := ((chanOf s a.unit).cap - 2) * 1073741824
    let saves := area + 1968 * 1048576
    if a.addr < area then conf ((tileAtFrame s a.unit a.addr).bind (tileOwner s))
    else decide (saves ≤ a.addr) && decide (a.addr < saves + 64 * 1048576) && s.berths.berths.any (fun p => p.2.conf)
  | _ => conf (some (panelOf s (panelOfCore a.unit)).berth)

/-- The core's panel is running. -/
def diagBusy (s : State) (a : DiagAddr) : Bool := a.space == 2 && (panelOf s (panelOfCore a.unit)).st == 1

/-- The status of an access before it starts (Table 21.2): 0 lets it go on. -/
def diagStatus (w : Who) (write : Bool) (s : State) : Nat :=
  let st := accessStatus Obj.DIAG_DATA w write s
  let a := diagAddr s
  if st ≠ 0 then st
  else if diagInRange s a && diagConfidential s a then 0x06
  else if !diagInRange s a then 0x07
  else if diagBusy s a then 0x08
  else 0

/-- Count an access refused under confidential mode. -/
def diagCount (st : Nat) (s : State) : State := if st = 0x06 then rinc Obj.DIAG_REFUSED 0 s else s

/-- The unit that reads for a path. -/
def diagUnit (path : Nat) : Nat := 0x300000 + path

/-- Read 64 bytes: none while the snooping read of a pool line still waits. Raw DRAM bytes, and a pool line of no region, are free values:
their contents are not stated. -/
def diagRead (path : Nat) (s : State) : Option (List Byte) × State :=
  let a := diagAddr s
  let line := a.addr / 64
  let u := diagUnit path
  let opened (s : State) : Option (List Byte) × State :=
    let (v, s1) := fresh s
    (some (natLE 64 v), s1)
  match a.space with
  | 0 =>
    if (regionAtLine s line).isNone then opened s
    else
      let s0 := if (servedFor s u).any (fun v => v.line != line) then dropServed u s else s
      let s1 := askLines u 0xFF [line] s0
      match gotLines s1 u [line] with
      | none => (none, s1)
      | some (b, poison) => (some (if poison then List.replicate 64 0 else b), dropServed u s1)
  | 2 => (some (loadBytes s.mem.ls (a.unit * 131072 + a.addr) 64), s)
  | _ => opened s

/-- Write 64 bytes: a device write of a pool line; raw bytes of a channel, which leave the line that is stored there with unknown contents;
or a local store block. -/
def diagWrite (data : List Byte) (s : State) : State :=
  let a := diagAddr s
  match a.space with
  | 0 => if (regionAtLine s (a.addr / 64)).isNone then s else devStore 0xFF a.addr data false s
  | 2 =>
    { s with mem := { s.mem with
        ls := storeBytes s.mem.ls (a.unit * 131072 + a.addr) data
        lsPoison := tput false s.mem.lsPoison (a.unit * 2048 + a.addr / 64) false } }
  | _ =>
    match tileAtFrame s a.unit a.addr with
    | none => s
    | some t =>
      let (v, s1) := fresh s
      { s1 with mem := { s1.mem with near := storeBytes s1.mem.near (t * 65536 + a.addr % 65536) (natLE 64 v) } }

/-- DIAG_DATA_READ: the bytes are the result on the requester's path. While a pool line's snoop waits nothing is answered, and the read is
made again (DESIGN CHOICE). -/
def execDiagDataRead (w : Who) (s : State) : Answer :=
  if !bookServed s then .next s
  else
    let st := diagStatus w false s
    if st ≠ 0 then .next (emit (.book w.path st) (diagCount st s))
    else match diagRead w.path s with
      | (none, s1) => .next s1
      | (some b, s1) => .next (emit (.book w.path 0) (setResult Obj.DIAG_DATA w.path b s1))

/-- DIAG_DATA_WRITE: 64 bytes. -/
def execDiagDataWrite (w : Who) (data : List Byte) (s : State) : Answer :=
  if !bookServed s then .next s
  else
    let st0 := diagStatus w true s
    let st := if (st0 = 0 ∨ st0 = 0x08) ∧ data.length ≠ 64 then 0x07 else st0
    if st ≠ 0 then .next (emit (.book w.path st) (diagCount st s))
    else .next (emit (.book w.path 0) (diagWrite data s))

end Sys2Proof.Machine
end

