-- ==== Sys2Proof/Machine/Mailbox.lean ====
section
/-! DEFINITION. The CXL mailbox of a logical device and the fabric manager's commands (R302, R310, R311, R403). Requests and responses are
given by their fields; the return codes are those of CXL 3.1 (PRESUMED). -/

namespace Sys2Proof.Machine

/-! ## Answering -/

/-- CXL return codes (PRESUMED: the spec names them and CXL 3.1 numbers them). -/
def rcOk : Nat := 0x00
def rcInvalidInput : Nat := 0x02
def rcUnsupported : Nat := 0x03
def rcInvalidHandle : Nat := 0x0E
def rcInvalidAddress : Nat := 0x0F

/-- The mailbox takes commands: the Pilot serves, the logical device is enabled and its link is up; a fabric manager's command comes
through the switch's tunnel or over MCTP and needs no link (R310). -/
def mboxServed (r : MboxReq) (s : State) : Bool :=
  bookServed s && decide (r.ld < 128) && (r.fm || ((ldOf s r.ld).enabled && linkServes s (linkOfLd s r.ld)))

/-- Run a command of the primary mailbox (`fm` false) or of the fabric manager's set: another channel answers Unsupported. -/
def mboxRun (r : MboxReq) (fm : Bool) (run : State → State) (s : State) : Answer :=
  if !mboxServed r s then .next s
  else if r.fm != fm then .next (emit (.mbox r.ld rcUnsupported []) s)
  else .next (run s)

/-- Answer with fields. -/
def mboxOk (r : MboxReq) (fields : List Nat) (s : State) : State := emit (.mbox r.ld rcOk fields) s

/-- Answer with a return code other than success. -/
def mboxFail (r : MboxReq) (code : Nat) (s : State) : State := emit (.mbox r.ld code []) s

/-- Mailbox `ld`. -/
def mboxOf (s : State) (ld : Nat) : Mbox := tget {} s.hosts.mboxes ld
def modMbox (ld : Nat) (f : Mbox → Mbox) (s : State) : State :=
  { s with hosts := { s.hosts with mboxes := tmod {} s.hosts.mboxes ld f } }

/-- Bytes of the visible pool. -/
def visibleBytes (s : State) : Nat := visibleGib s * gib

/-- UNSUPPORTED_COMMAND: every command that Table 13.6 does not name (R310). -/
def execUnsupportedCommand (r : MboxReq) (_opcode : Nat) (s : State) : Answer :=
  if mboxServed r s then .next (mboxFail r rcUnsupported s) else .next s

/-! ## Logical devices (R21, R302) -/

/-- Logical devices of the link that carries `ld`: sixteen, or eight on each link of a split port. -/
def linkLds (s : State) (ld : Nat) : List Nat :=
  (List.range 16).map (· + ld / 16 * 16) |>.filter (fun k => linkOfLd s k == linkOfLd s ld)

/-- GET_LD_INFO: memory size and the number of logical devices. -/
def execGetLdInfo (r : MboxReq) (s : State) : Answer :=
  mboxRun r true (fun s => mboxOk r [visibleBytes s, (linkLds s r.ld).length] s) s

/-- GET_LD_ALLOCATIONS: for each logical device from `start` on, 0 when disabled. The size that an enabled one reports is not stated (a
free value): all capacity is dynamic. -/
def execGetLdAllocations (r : MboxReq) (start limit : Nat) (s : State) : Answer :=
  mboxRun r true (fun s =>
    let l := ((linkLds s r.ld).drop start).take limit
    let (v, s1) := fresh s
    mboxOk r ([(linkLds s r.ld).length, start, l.length] ++ l.map (fun k => if (ldOf s k).enabled then v else 0)) s1) s

/-- SET_LD_ALLOCATIONS: the entries from `start` on are enabled or disabled, whole or not at all; the answer waits for the configuration
record (R517). -/
def execSetLdAllocations (r : MboxReq) (start : Nat) (allocs : List Nat) (s : State) : Answer :=
  mboxRun r true (fun s =>
    let lds := (linkLds s r.ld).drop start
    if lds.length < allocs.length then mboxFail r rcInvalidInput s
    else match allocate (lds.zip allocs) s with
      | none => mboxFail r rcInvalidInput s
      | some s1 => { s1 with cfg := { s1.cfg with posts := s1.cfg.posts ++
          [⟨0, [], some (.mbox r.ld rcOk ([(linkLds s r.ld).length, start, allocs.length] ++ allocs)), none, false, true⟩] } }) s

/-! ## Dynamic capacity (R22 to R24, R311) -/

/-- GET_DC_REGION_CONFIGURATION: one region, base 0, its length, block size 1 GiB (R22). -/
def execGetDcRegionConfiguration (r : MboxReq) (s : State) : Answer :=
  mboxRun r true (fun s => mboxOk r [1, 0, visibleBytes s, gib] s) s

/-- GET_DYNAMIC_CAPACITY_CONFIGURATION: the same on the primary mailbox. -/
def execGetDynamicCapacityConfiguration (r : MboxReq) (s : State) : Answer :=
  mboxRun r false (fun s => mboxOk r [1, 0, visibleBytes s, gib] s) s

/-- The extent list of a logical device: accepted extents and those whose release has not completed, by DPA (R311). -/
def extentList (s : State) (ld : Nat) : List (Nat × Nat) :=
  (((ldOf s ld).accepted ++ (ldOf s ld).releasing).map (fun n => ((regionOf s n).base * gib, (regionOf s n).size * gib))).mergeSort
    (fun a b => decide (a.1 ≤ b.1))

/-- Number of extents, then base and length of those from `start` on. -/
def extentFields (s : State) (ld start count : Nat) : List Nat :=
  let l := extentList s ld
  let part := (l.drop start).take count
  [l.length, start, part.length] ++ part.flatMap (fun e => [e.1, e.2])

/-- GET_DC_EXTENT_LISTS. -/
def execGetDcExtentLists (r : MboxReq) (start count : Nat) (s : State) : Answer :=
  mboxRun r true (fun s => mboxOk r (extentFields s r.ld start count) s) s

/-- GET_DYNAMIC_CAPACITY_EXTENT_LIST. -/
def execGetDynamicCapacityExtentList (r : MboxReq) (start count : Nat) (s : State) : Answer :=
  mboxRun r false (fun s => mboxOk r (extentFields s r.ld start count) s) s

/-- ADD_DYNAMIC_CAPACITY_RESPONSE (R24): of the extents answered, those accepted become usable and the others are refused. Naming an
extent that is not offered is Invalid Input (R312). -/
def execAddDynamicCapacityResponse (r : MboxReq) (answered accepted : List Nat) (s : State) : Answer :=
  mboxRun r false (fun s =>
    let l := ldOf s r.ld
    if !answered.all (fun n => l.offered.contains n) || !accepted.all (fun n => answered.contains n) then mboxFail r rcInvalidInput s
    else
      let refused := answered.filter (fun n => !accepted.contains n)
      mboxOk r [] (modLd r.ld (fun l => { l with
        offered := l.offered.filter (fun n => !answered.contains n)
        accepted := l.accepted ++ accepted.eraseDups
        refused := l.refused ++ refused.eraseDups }) s)) s

/-- RELEASE_DYNAMIC_CAPACITY (R311): each extent named must be accepted. One that the device did not ask for is not offered again. -/
def execReleaseDynamicCapacity (r : MboxReq) (regions : List Nat) (s : State) : Answer :=
  mboxRun r false (fun s =>
    if !regions.all (fun n => (ldOf s r.ld).accepted.contains n) then mboxFail r rcInvalidInput s
    else mboxOk r [] (each regions.eraseDups (fun n s =>
      let asked := (ldOf s r.ld).asked.contains n
      startRelease r.ld n (if asked then s else modLd r.ld (fun l => { l with refused := l.refused ++ [n] }) s)) s)) s

/-! ## Identity, logs, events (R310, R403) -/

/-- IDENTIFY_MEMORY_DEVICE: total, volatile and persistent capacity, and the poison list limit. -/
def execIdentifyMemoryDevice (r : MboxReq) (s : State) : Answer :=
  mboxRun r false (fun s => mboxOk r [visibleBytes s, 0, 0, 1024] s) s

/-- GET_SUPPORTED_LOGS: one log, the Command Effects Log. -/
def execGetSupportedLogs (r : MboxReq) (s : State) : Answer := mboxRun r false (fun s => mboxOk r [1] s) s

/-- GET_LOG: the Command Effects Log, whose entries are CXL's (a free value); any other log is Invalid Input. -/
def execGetLog (r : MboxReq) (cel : Bool) (_offset _len : Nat) (s : State) : Answer :=
  mboxRun r false (fun s =>
    if !cel then mboxFail r rcInvalidInput s
    else
      let (v, s1) := fresh s
      mboxOk r [v] s1) s

/-- The event log a queued record stands in: 2 Failure for class 3, 3 Fatal for class 4, 1 Warning for another (PRESUMED: the spec does not
say which). -/
def eventLog (e : Nat × Bool × ErrRec) : Nat := if e.2.2.cls = 4 then 3 else if e.2.2.cls = 3 then 2 else 1

/-- Fields of an event record: handle, whether it is a Memory Module record, SOURCE, CLASS, DPA, and the timestamp in ns with the offset that
Set Timestamp recorded. -/
def eventFields (m : Mbox) (e : Nat × Bool × ErrRec) : List Nat :=
  [e.1, b2n e.2.1, e.2.2.source, e.2.2.cls, e.2.2.line * 64, (Int.ofNat (e.2.2.time * 40) + m.stampOffset).toNat]

/-- GET_EVENT_RECORDS: the overflow indication, whether more remain, and the oldest records of a log that a payload of 2 KiB holds, 15 of 128
bytes (PRESUMED). -/
def execGetEventRecords (r : MboxReq) (log : Nat) (s : State) : Answer :=
  mboxRun r false (fun s =>
    let m := mboxOf s r.ld
    let l := m.events.filter (fun e => eventLog e == log)
    if 5 ≤ log then mboxFail r rcInvalidInput s
    else mboxOk r ([b2n m.overflow, b2n (decide (15 < l.length)), min 15 l.length] ++ (l.take 15).flatMap (eventFields m)) s) s

/-- CLEAR_EVENT_RECORDS: all of a log with its overflow indication, or the records named by handle. -/
def execClearEventRecords (r : MboxReq) (log : Nat) (all : Bool) (handles : List Nat) (s : State) : Answer :=
  mboxRun r false (fun s =>
    let m := mboxOf s r.ld
    let held := (m.events.filter (fun e => eventLog e == log)).map (·.1)
    if 5 ≤ log then mboxFail r rcInvalidInput s
    else if all then mboxOk r [] (modMbox r.ld (fun m => { m with
      events := m.events.filter (fun e => eventLog e != log), overflow := false }) s)
    else if !handles.all (fun h => held.contains h) then mboxFail r rcInvalidHandle s
    else mboxOk r [] (modMbox r.ld (fun m => { m with events := m.events.filter (fun e => !handles.contains e.1) }) s)) s

/-- GET_EVENT_INTERRUPT_POLICY. -/
def execGetEventInterruptPolicy (r : MboxReq) (s : State) : Answer :=
  mboxRun r false (fun s => mboxOk r [(mboxOf s r.ld).intPolicy] s) s

/-- SET_EVENT_INTERRUPT_POLICY. -/
def execSetEventInterruptPolicy (r : MboxReq) (policy : Nat) (s : State) : Answer :=
  mboxRun r false (fun s => mboxOk r [] (modMbox r.ld (fun m => { m with intPolicy := policy }) s)) s

/-- GET_TIMESTAMP: TIME48 in ns with the recorded offset. -/
def execGetTimestamp (r : MboxReq) (s : State) : Answer :=
  mboxRun r false (fun s => mboxOk r [(Int.ofNat (now s * 40) + (mboxOf s r.ld).stampOffset).toNat] s) s

/-- SET_TIMESTAMP records an offset from TIME48; TSX does not change. -/
def execSetTimestamp (r : MboxReq) (stamp : Nat) (s : State) : Answer :=
  mboxRun r false (fun s => mboxOk r [] (modMbox r.ld (fun m => { m with stampOffset := Int.ofNat stamp - Int.ofNat (now s * 40) }) s)) s

/-! ## Firmware over the mailbox (R310, R454, R455) -/

/-- An admin session is open on the mailbox. DESIGN CHOICE: the spec asks for the admin role and does not say how a mailbox command shows
it. -/
def adminOnMbox (s : State) (ld : Nat) : Bool :=
  s.tack.sessions.any (fun p => match p.2 with
    | some x => x.carrier == 2 && x.src == ld && x.live && decide (2 ≤ x.role)
    | none => false)

/-- GET_FW_INFO: for each image from 2 to 5 its active bank, its pending bank plus one, and its running triple. -/
def execGetFwInfo (r : MboxReq) (s : State) : Answer :=
  mboxRun r false (fun s =>
    if !adminOnMbox s r.ld then mboxFail r rcUnsupported s
    else mboxOk r ([2, 3, 4, 5].flatMap (fun i => [activeBank s i, (match tget none s.fw.pending i with
      | some b => b + 1
      | none => 0), fwIf s i])) s) s

/-- The bytes of a transfer's parts in order. -/
def partsBytes (p : Tab (List Byte)) : List Byte := p.flatMap (·.2)

/-- The end of a transfer stages the bundle. A status other than 0 is Invalid Input and stands in FW_STAGE_STATUS. -/
def endTransfer (r : MboxReq) (bytes : List Byte) (s : State) : State :=
  let s1 := stageBundle bytes (modMbox r.ld (fun m => { m with fwParts := none }) s)
  if rget Obj.FW_STAGE_STATUS 0 s1 = 0 then mboxOk r [] s1 else mboxFail r rcInvalidInput s1

/-- TRANSFER_FW: 0 the whole bundle, 1 its start, 2 a part at an offset of 128 bytes, 3 the last part, 4 abort. -/
def execTransferFw (r : MboxReq) (action offset : Nat) (data : List Byte) (s : State) : Answer :=
  mboxRun r false (fun s =>
    let m := mboxOf s r.ld
    if !adminOnMbox s r.ld then mboxFail r rcUnsupported (rset Obj.FW_STAGE_STATUS 0 5 s)
    else match action, m.fwParts with
      | 0, _ => endTransfer r data s
      | 1, _ => mboxOk r [] (modMbox r.ld (fun m => { m with fwParts := some [(0, data)] }) s)
      | 2, some p => mboxOk r [] (modMbox r.ld (fun m => { m with fwParts := some (tput [] p (offset * 128) data) }) s)
      | 3, some p => endTransfer r (partsBytes (tput [] p (offset * 128) data)) s
      | 4, _ => mboxOk r [] (modMbox r.ld (fun m => { m with fwParts := none }) s)
      | _, _ => mboxFail r rcInvalidInput s) s

/-- ACTIVATE_FW: FW_ACTIVATE with FORCE clear on the images of a mask, at the next reset; the online option (action 0) is Unsupported
(R455). -/
def execActivateFw (r : MboxReq) (action mask : Nat) (s : State) : Answer :=
  mboxRun r false (fun s =>
    let images := [2, 3, 4, 5].filter (bit mask)
    if action = 0 ∨ !adminOnMbox s r.ld then mboxFail r rcUnsupported s
    else if activateStatus images s ≠ 0 then mboxFail r rcInvalidInput s
    else mboxOk r [] (setPending images false s)) s

/-! ## Health (Table 13.6: device-wide values) -/

/-- GET_HEALTH_INFO: the health summary and the hottest sensor; what else CXL reports is a free value. -/
def execGetHealthInfo (r : MboxReq) (s : State) : Answer :=
  mboxRun r false (fun s =>
    let (v, s1) := fresh s
    let hottest := ((List.range 24).map (fun k => tget 25 s.power.temps k)).foldl max (tget 25 s.power.temps 0)
    mboxOk r [leNat (s.hlt.health.take 4), hottest.toNat, v] s1) s

/-- GET_ALERT_CONFIGURATION. -/
def execGetAlertConfiguration (r : MboxReq) (s : State) : Answer := mboxRun r false (fun s => mboxOk r [s.hosts.alert] s) s

/-- SET_ALERT_CONFIGURATION. -/
def execSetAlertConfiguration (r : MboxReq) (value : Nat) (s : State) : Answer :=
  mboxRun r false (fun s => mboxOk r [] { s with hosts := { s.hosts with alert := value } }) s

/-! ## Poison (Table 13.6) -/

/-- Poisoned ranges as the poison list gives them: DPA and length in lines, from the DRAM log's records of KIND 5 and 8 and the dead-agent
log. -/
def poisonRanges (s : State) : List (Nat × Nat) :=
  ((s.dram.log.filter (fun (d : DramRec) => d.kind == 5)).map (fun (d : DramRec) => (d.line * 64, 1))
    ++ (s.dram.log.filter (fun (d : DramRec) => d.kind == 8)).map (fun (d : DramRec) => (d.line / 1024 * 65536, 1024))
    ++ s.mf.deadLog.map (fun (d : DeadRec) => (d.line * 64, 1))).eraseDups

/-- GET_POISON_LIST: ranges that meet a DPA window and lie in the logical device's accepted extents; at most 1,024, with the More Records
flag. -/
def execGetPoisonList (r : MboxReq) (dpa len : Nat) (s : State) : Answer :=
  mboxRun r false (fun s =>
    let l := (poisonRanges s).filter (fun p => decide (dpa < p.1 + p.2 * 64) && decide (p.1 < dpa + len)
      && (acceptedRegion s r.ld (p.1 / 64)).isSome)
    mboxOk r ([b2n (decide (1024 < l.length)), min 1024 l.length] ++ (l.take 1024).flatMap (fun p => [p.1, p.2])) s) s

/-- The line of an address that Inject and Clear Poison may name: in an accepted extent on which the berth holds HOST_W. -/
def poisonTarget (s : State) (ld dpa : Nat) : Bool :=
  dpa % 64 == 0 && (match acceptedRegion s ld (dpa / 64) with
    | some n => hasRight s (ldOf s ld).berth n rHostW
    | none => false)

/-- INJECT_POISON: in DEVELOP and RETURNED only, and not in confidential mode (R425). The line is written as poison by a device write. -/
def execInjectPoison (r : MboxReq) (dpa : Nat) (s : State) : Answer :=
  mboxRun r false (fun s =>
    let lc := rget Obj.LC_STATE 0 s
    let b := (ldOf s r.ld).berth
    if (lc ≠ 1 ∧ lc ≠ 3) ∨ (berthOf s b).conf = true ∨ s.berths.confDevice = true then mboxFail r rcUnsupported s
    else if !poisonTarget s r.ld dpa then mboxFail r rcInvalidAddress s
    else mboxOk r [] (devStore b dpa (List.replicate 64 0) true s)) s

/-- CLEAR_POISON: a device write of the given 64 bytes (Table 03.4). -/
def execClearPoison (r : MboxReq) (dpa : Nat) (data : List Byte) (s : State) : Answer :=
  mboxRun r false (fun s =>
    if data.length ≠ 64 then mboxFail r rcInvalidInput s
    else if !poisonTarget s r.ld dpa then mboxFail r rcInvalidAddress s
    else mboxOk r [] (devStore (ldOf s r.ld).berth dpa data false s)) s

end Sys2Proof.Machine
end

