-- ==== Sys2Proof/Machine/Settings.lean ====
section
/-! DEFINITION. A SET of a Pattern Book object (R466 to R468, R475): ranges, what a new value does at once, and the objects that have a
command of their own. -/

namespace Sys2Proof.Machine

/-! ## Ranges -/

/-- Stated ranges of the objects, lowest and highest value (the object tables of each chapter). -/
def ranges : List (Obj × Nat × Nat) :=
  [(Obj.TACK_IDLE_TIMEOUT, 5, 3600), (Obj.EVENT_HEARTBEAT, 0, 3600), (Obj.MG_SELECT, 0, 1), (Obj.MG_PREFIX, 0, 128),
   (Obj.THERM_SELECT, 0, 23), (Obj.THERM_WARN, 80, 100), (Obj.FW_IMAGE_SELECT, 1, 5), (Obj.FW_TRIAL_HOLD, 10, 3600),
   (Obj.FW_COMPAT_POLICY, 0, 2), (Obj.RAIL_SELECT, 0, 6), (Obj.BERTH_SELECT, 0, 63), (Obj.KEY_BERTH_SELECT, 0, 63),
   (Obj.REKEY_SHARE, 1, 50), (Obj.BISNP_TIMEOUT, 20, 10000), (Obj.PRED_THRESHOLD, 1, 7), (Obj.PRED_DECAY, 100, 100000),
   (Obj.PLACE_REGION_MODE, 0, 2), (Obj.ATW_HOLD, 1, 20), (Obj.MERGE_WINDOW, 2, 100), (Obj.MF_SCRUB_PERIOD, 60, 86400),
   (Obj.PANEL_TEST_PERIOD, 10, 10000), (Obj.SEAM_LOOPBACK_PERIOD, 100, 60000), (Obj.PAIR_VERIFY_PERIOD, 1, 10000),
   (Obj.PAIR_MODE, 0, 1), (Obj.PAIR_SILENCE_POLICY, 0, 1), (Obj.PAIR_HB_LOSS, 200, 100000), (Obj.TILE_SELECT, 0, 8589934591),
   (Obj.FERRY_FREE_LOW, 5, 100), (Obj.FERRY_AGE_TICK, 250, 10000), (Obj.FERRY_AGING_LIMIT, 50, 5000), (Obj.FERRY_COMPRESS, 0, 1),
   (Obj.PIN_LIMIT_PCT, 0, 75)]

/-- The ranges of the later chapters. -/
def rangesRest : List (Obj × Nat × Nat) :=
  [(Obj.PANEL_SELECT, 0, 59), (Obj.CORE_SELECT, 0, 1199), (Obj.JOB_QUEUE_LIMIT, 1, 256), (Obj.JOB_QUANTUM, 1, 1000),
   (Obj.JOB_PRIO_CAP, 0, 3), (Obj.JOB_LEND_LIMIT, 0, 60), (Obj.HP_CLOCKING, 0, 1), (Obj.HP_RATE_MAX, 0, 2), (Obj.HP_SELECT, 0, 7),
   (Obj.HL_SELECT, 0, 15), (Obj.DC_RELEASE_TIMEOUT, 10, 60000), (Obj.SEAM_SELECT, 0, 1), (Obj.SEAM_LANE_SELECT, 0, 17),
   (Obj.SEAM_ACK_COALESCE, 1, 64), (Obj.SEAM_ACK_FORCE, 50, 1000), (Obj.SEAM_REPLAY_TIMEOUT, 1000, 20000),
   (Obj.WEAVE_EP_SELECT, 0, 511), (Obj.DRAM_CHAN_SELECT, 0, 23), (Obj.DRAM_SPEED_MAX, 0, 2), (Obj.DRAM_PAGE_IDLE, 0, 1000),
   (Obj.DRAM_SCRUB_PERIOD, 1, 168), (Obj.DRAM_TEMP_LIMIT, 86, 105), (Obj.FLASH_CHAN_SELECT, 0, 31), (Obj.FAR_ROW_FLUSH, 1, 1000),
   (Obj.FAR_WEAR_SPREAD, 16, 1000), (Obj.FAR_FREE_BANDS_LOW, 16, 1024), (Obj.FAR_MERGE_START, 10, 70),
   (Obj.METER_REBALANCE, 20, 10000), (Obj.HOLD_YELLOW_ATW, 1, 1000), (Obj.HOLD_YELLOW_HINT, 1, 1000),
   (Obj.HOLD_YELLOW_JOB, 1, 10000), (Obj.BMETER_BERTH, 0, 63), (Obj.BMETER_KIND, 0, 3), (Obj.PMETER_PORT, 0, 7),
   (Obj.CONTAIN_CHANNEL_SELECT, 0, 23), (Obj.CONTAIN_CHANNEL_MODE, 0, 1), (Obj.CONTAIN_CLASS_MODE, 0, 15), (Obj.REPORT_MODE, 0, 1),
   (Obj.CANARY_PERIOD, 10, 10000)]

/-- A value lies in its object's stated range and has no reserved bit set; an object with no stated range takes every value of its type
(R466). -/
def valueOk (o : Obj) (v : Nat) (s : State) : Bool :=
  (match (ranges ++ rangesRest).find? (fun r => sameObj r.1 o) with
   | some r => decide (r.2.1 ≤ v) && decide (v ≤ r.2.2)
   | none => decide (v < 2 ^ objWidth o.ty)) &&
  match o.index, o.sub with
  | 0x1201, 0x01 | 0x1201, 0x02 => decide (bits v 146 14 = 0)
  | 0x6103, 0x02 => decide (v % 64 = 0)
  | 0x9000, 0x02 => decide (1 ≤ v) && decide (v ≤ rget Obj.HOLD_RED_MEM 0 s)
  | 0x9000, 0x03 => decide (10 ≤ v) && decide (v ≤ 1000) && decide (rget Obj.HOLD_YELLOW_MEM 0 s ≤ v)
  | 0xF000, 0x03 => decide (bits v 31 225 = 0)
  | _, _ => true

/-- The secure world is needed for this value of an s* object (R466): a destination with its secure bit, or a region of the secure world. -/
def setNeedsSecure (o : Obj) (path v : Nat) (s : State) : Bool :=
  match o.index, o.sub with
  | 0x1201, 0x01 | 0x1201, 0x02 => bit v 145
  | 0x4201, 0x02 => (regionOf s (sel Obj.PLACE_REGION_SELECT path s)).world
  | _, _ => false

/-! ## What a new value does at once -/

/-- A host port is enabled: its links train; or disabled: its links go down (R317). -/
def portEnable (port v : Nat) (s : State) : State :=
  let s1 := rset Obj.HP_ENABLE port v s
  each [2 * port, 2 * port + 1] (fun h s =>
    if !linkThere s h then s
    else if v = 0 then (if linkServes s h || (linkOf s h).st == 4 then linkFalls h s
      else if (linkOf s h).st = 5 then s else modLink h (fun l => { l with st := 0 }) s)
    else if (linkOf s h).st = 0 ∧ portsServe s = true ∧ recoveryOnly s = false then modLink h (fun l => { l with st := 1 }) s else s) s1

/-- A Seam port is enabled: it leaves DISABLED for DETECT; or disabled (Table 14.2). -/
def seamEnable (p v : Nat) (s : State) : State :=
  let s1 := rset Obj.SEAM_ENABLE p v s
  if v = 0 then (if (seamOf s1 p).st = 0 then s1 else closePort p 0 7 s1)
  else if (seamOf s1 p).st = 0 ∧ portsServe s1 = true ∧ recoveryOnly s1 = false then modSeam p (fun q => { q with st := 1 }) s1 else s1

/-- Store a value for the entry that the path selects, with what it does at once. HP_BIFURCATE and HP_CLOCKING are kept as one more
than their value. A change of the pair's settings is told to the partner with JOIN. -/
def applyValue (o : Obj) (path v : Nat) (s : State) : State :=
  let i := instFor o path s
  match o.index, o.sub with
  | 0x7000, 0x01 => if rget o i s = v then s else portEnable i v s
  | 0x7000, 0x02 | 0x7000, 0x03 => rset o i (v + 1) s
  | 0x7102, 0x01 => if rget o i s = v then s else seamEnable i v s
  | 0x4400, 0x02 | 0x4400, 0x03 | 0x4400, 0x10 => sendJoin (rset o i v s)
  | _, _ => rset o i v s

/-- A SET of an object without a command of its own (R475). One that the configuration record holds is answered once the record holds
it; one kept in device memory or in Thimble NVM at once. -/
def setValue (o : Obj) (w : Who) (bs : List Byte) (s : State) : Answer :=
  let st := accessStatus o w true s
  let v := leNat bs
  let ok := bs.length == tySize o.ty && valueOk o v s
  if !bookServed s then .next s
  else if st ≠ 0 then .next (emit (.book w.path st) s)
  else if !w.secure && setNeedsSecure o w.path v s then .next (emit (.book w.path 0x04) s)
  else if !ok then .next (emit (.book w.path 0x07) s)
  else if configObj o then setStored o w true (applyValue o w.path v) s
  else .next (emit (.book w.path 0) (applyValue o w.path v s))

/-! ## Objects with a command of their own -/

/-- A command object's argument: its length in bytes and its meaning. -/
structure OwnRow where
  obj : Obj
  len : Nat
  run : Who → List Byte → State → Answer

/-- An 8-byte argument as a number, and commands without one, whose argument is not read (DESIGN CHOICE). -/
def rowArg (o : Obj) (f : Who → Nat → State → Answer) : OwnRow := ⟨o, 8, fun w b s => f w (leNat b) s⟩
def rowNone (o : Obj) (f : Who → State → Answer) : OwnRow := ⟨o, 8, fun w _ s => f w s⟩

/-- A shaper record in a SET (Table 16.2). -/
def shaperArg (b : List Byte) : ShaperArg :=
  ⟨bit (leAt b 0 1) 0, bit (leAt b 0 1) 1, leAt b 0 8 / 4, leAt b 8 8, leAt b 16 8, leAt b 24 4, leAt b 28 4⟩

/-- Commands of the pool, shores, grid and planes. -/
def ownRows1 : List OwnRow :=
  [rowArg Obj.REGION_CREATE execRegionCreate, rowNone Obj.PACE_LOW_WATER_CLEAR execPaceLowWaterClear,
   rowNone Obj.DEAD_POISON_LOG_CLEAR execDeadPoisonLogClear, rowNone Obj.GRID_SAVE_ALL execGridSaveAll,
   rowArg Obj.DRAM_RETIRE execDramRetire, rowNone Obj.DRAM_LOG_CLEAR execDramLogClear, rowArg Obj.FLASH_RETIRE execFlashRetire,
   rowArg Obj.PLANE_RETIRE execPlaneRetire, rowArg Obj.PLANE_REJOIN execPlaneRejoin, rowNone Obj.HEALTH_CLEAR execHealthClear,
   rowNone Obj.PAIR_HANDOVER execPairHandoverCmd, rowNone Obj.PAIR_FORCE_PRIMARY execPairForcePrimary,
   ⟨Obj.PAIR_PARTNER_UNIT, 8, fun w b s => execPairPartnerUnit w (leNat b) s⟩,
   ⟨Obj.BMETER_SHAPER_SET, 32, fun w b s => execBmeterShaperSet w (shaperArg b) s⟩,
   ⟨Obj.PMETER_SHAPER_SET, 32, fun w b s => execPmeterShaperSet w (shaperArg b) s⟩,
   rowNone Obj.ERR_LOG_CLEAR execErrLogClear, rowNone Obj.DIV_LOG_CLEAR execDivLogClear]

/-- Commands of berths, keys, firmware and start-up. -/
def ownRows2 : List OwnRow :=
  [rowArg Obj.BERTH_CREATE execBerthCreate, rowArg Obj.BERTH_DELETE execBerthDelete, rowArg Obj.PANEL_ASSIGN execPanelAssign,
   rowArg Obj.LD_BIND execLdBind, rowArg Obj.WORLD_LANDING_SET execWorldLandingSet, rowArg Obj.REGION_DELETE execRegionDelete,
   rowArg Obj.PERM_GRANT execPermGrant, rowArg Obj.CONF_SET execConfSet, ⟨Obj.KEY_ROTATE, 8, fun w _ s => execKeyRotate w s⟩,
   ⟨Obj.LC_TRANSITION, 152, fun w b s => lcTransition (leAt b 0 1) w (leAt b 1 7) (b.drop 8) s⟩,
   ⟨Obj.LC_UNLOCK, 144, fun w b s => execLcUnlock w b s⟩, ⟨Obj.PAIR_SECRET, 48, fun w b s => execPairSecret w b s⟩,
   rowArg Obj.FW_ACTIVATE execFwActivate, rowNone Obj.FW_SVN_COMMIT execFwSvnCommit, rowNone Obj.FW_ROLLBACK execFwRollback,
   ⟨Obj.DIAG_DATA, 64, fun w b s => execDiagDataWrite w b s⟩, ⟨Obj.POWER_CAP, 1, fun w b s => execPowerCap w (leNat b) s⟩,
   rowArg Obj.RESTART execRestart, rowNone Obj.FAR_FORMAT execFarFormat]

/-- The command that a SET of an object is, if it has one of its own. FW_STAGE takes a bundle of any length. -/
def ownRow (o : Obj) (n : Nat) : Option OwnRow :=
  if sameObj o Obj.FW_STAGE then some ⟨o, n, fun w b s => execFwStage w b s⟩
  else (ownRows1 ++ ownRows2).find? (fun r => sameObj r.obj o)

/-- A SET of an object. A value of another length than the object's ends with RANGE, after the checks that come before it. -/
def setObject (o : Obj) (w : Who) (bs : List Byte) (s : State) : Answer :=
  match ownRow o bs.length with
  | none => setValue o w bs s
  | some r =>
    if bs.length = r.len then r.run w bs s
    else
      let st := accessStatus o w true s
      .next (emit (.book w.path (if st = 0 then 0x07 else st)) s)

/-- What a SET did: the status it answered with, none while the answer waits for the configuration record, and the state without that
answer, which its response carries. -/
def runSet (o : Obj) (w : Who) (bs : List Byte) (s : State) : Option Nat × State :=
  match setObject o w bs { s with out := [] } with
  | .next t =>
    let mine (m : Out) : Option Nat := match m with
      | .book p v => if p = w.path then some v else none
      | _ => none
    (t.out.findSome? mine, { t with out := t.out.filter (fun m => (mine m).isNone) ++ s.out })
  | _ => (some 0, s)

end Sys2Proof.Machine
end

