-- ==== Sys2Proof/Machine/Tack.lean ====
section
/-! DEFINITION. Tack (R469 to R476, R480, R482, R490): messages, sessions, sequence numbers, reads and writes, segmented transfers and pair
frames. -/

namespace Sys2Proof.Machine

/-! ## Messages (Table 21.3) -/

/-- A received message: its header fields, its payload, and its tag if FLAGS says that it has one. -/
structure TackMsg where
  version : Nat
  op : Nat
  session : Nat
  seq : Nat
  len : Nat
  flags : Nat
  status : Nat
  payload : List Byte
  tag : List Byte
  deriving DecidableEq, Repr

/-- Read a message. One with no whole header, or with another MAGIC, is no Tack message. The tag is the last 16 bytes. -/
def parseTack (b : List Byte) : Option TackMsg :=
  let f (at_ n : Nat) : Nat := beNat ((b.drop at_).take n)
  if b.length < 16 ∨ f 0 2 ≠ 0x544B then none
  else
    let tagged := bit (f 14 1) 2
    let rest := b.drop 16
    let n := if tagged then rest.length - 16 else rest.length
    some ⟨f 2 1, f 3 1, f 4 4, f 8 4, f 12 2, f 14 1, f 15 1, rest.take n, if tagged then rest.drop n else []⟩

/-- The operations a client may send (Table 21.4). -/
def clientOps : List Nat := [0x01, 0x03, 0x04, 0x05, 0x10, 0x11, 0x12, 0x20, 0x21, 0x22]

/-- A well-formed request (R469, R470, FORMAT of Table 21.2): version, operation, no RESP or PENDING, STATUS, and a length that is LEN, with
the tag within 1,472 bytes. Reserved bits of the header and of the payload are ignored (R6). -/
def formatOk (t : TackMsg) : Bool :=
  t.version == 1 && clientOps.contains t.op && !bit t.flags 0 && !bit t.flags 3 && t.status == 0 && t.payload.length == t.len
    && decide (t.len ≤ 1440) && (t.tag.isEmpty || t.tag.length == 16) && decide (16 + t.len + t.tag.length ≤ 1472)

/-- The 16 bytes of a header. -/
def tackHeader (op session seq len flags status : Nat) : List Byte :=
  natBE 2 0x544B ++ natBE 1 1 ++ natBE 1 op ++ natBE 4 session ++ natBE 4 seq ++ natBE 2 len ++ natBE 1 flags ++ natBE 1 status

/-- What a request is answered with: STATUS, payload and PENDING. -/
structure Reply where
  status : Nat
  payload : List Byte := []
  pending : Bool := false

/-- A tag (R471). -/
def tackTag (skey msg : List Byte) : List Byte := (hmac skey msg).take 16

/-- The bytes of a response; `skey` is the key of a tagged session. -/
def responseBytes (t : TackMsg) (session : Nat) (skey : Option (List Byte)) (r : Reply) : List Byte :=
  let head := tackHeader t.op session t.seq r.payload.length (1 + (if skey.isSome then 4 else 0) + (if r.pending then 8 else 0)) r.status
  head ++ r.payload ++ (match skey with
    | some k => tackTag k (head ++ r.payload)
    | none => [])

/-- Answer outside a session, without a tag. -/
def answerPlain (m : TackIn) (t : TackMsg) (session : Nat) (r : Reply) (s : State) : State :=
  sendTack m.carrier m.src (responseBytes t session none r) s

/-- No response is produced. A mailbox command still ends; its return code is not stated then. -/
def noAnswer (m : TackIn) (s : State) : State :=
  if m.carrier = 2 then
    let (v, s1) := fresh s
    emit (.mbox m.src v []) s1
  else s

/-! ## Carriers (R473, R481 to R483) -/

/-- In RECOVERY with no valid PFW, the BROM serves MCTP alone, with one session (R460, R481). -/
def bromServes (s : State) : Bool := rget Obj.FW_STATE 0 s == 3 && !bankValid s 3 (activeBank s 3)

/-- A carrier is served. -/
def carrierOpen (m : TackIn) (s : State) : Bool :=
  bookServed s &&
  match m.carrier with
  | 0 => !bromServes s && !s.clk.nixSilent && (rget Obj.MG_LINK 0 s == 1 || rget Obj.MG_LINK 1 s == 1)
  | 1 => !bit s.clk.unlocked 6
  | 2 => !bromServes s && mboxServed ⟨m.src, false⟩ s
  | _ => false

/-- Sessions of a carrier at most. -/
def sessionLimit (carrier : Nat) (s : State) : Nat :=
  if bromServes s then 1 else if carrier = 0 then 16 else if carrier = 1 then 4 else 12

/-- Sessions open or opening on a carrier. -/
def sessionsOn (carrier : Nat) (s : State) : Nat := (s.tack.sessions.filter (fun p => match p.2 with
  | some x => x.carrier == carrier
  | none => false)).length

/-- Session `n`. -/
def sessionOf (s : State) (n : Nat) : Option Session := tget none s.tack.sessions n

/-- Replace session `n`. -/
def setSession (n : Nat) (x : Option Session) (s : State) : State :=
  { s with tack := { s.tack with sessions := tput none s.tack.sessions n x } }

/-- A session belongs to the sender: its carrier, and over MCTP and the mailbox its source. Over Ethernet it may send from any address
(R473). -/
def ownsSession (m : TackIn) (x : Session) : Bool := x.carrier == m.carrier && (m.carrier == 0 || x.src == m.src)

/-! ## HELLO and AUTH (R471, R474) -/

/-- The credential slot that ROLE and WORLD name. -/
def credentialFor (role : Nat) (world : Bool) : Obj :=
  if role = 3 then Obj.CRED_VENDOR
  else if role = 2 then (if world then Obj.CRED_ADMIN_S else Obj.CRED_ADMIN_NS)
  else if world then Obj.CRED_OPERATOR_S else Obj.CRED_OPERATOR_NS

/-- The sender's HELLOs go unanswered for 1 s after its failed AUTH. -/
def helloBarred (m : TackIn) (s : State) : Bool :=
  s.tack.barred.any (fun b => b.1 == m.carrier && b.2.1 == m.src && decide (ticksSince b.2.2 (now s) < 25000000))

/-- A session's world: that of its credential, and on a mailbox only if the landing of the logical device is secure too (R465). -/
def sessionWorld (m : TackIn) (world : Bool) (s : State) : Bool := world && (m.carrier != 2 || ldWorld s m.src)

/-- The bootstrap opens this session without AUTH (R474). -/
def bootstraps (m : TackIn) (role : Nat) (world : Bool) (s : State) : Bool :=
  m.carrier == 1 && (rget Obj.LC_STATE 0 s == 0 || (role == 2 && world && rget Obj.CRED_ADMIN_S 0 s == 0))

/-- HELLO. In BLANK every MCTP session is one of the vendor in the secure world. -/
def tackHello (m : TackIn) (t : TackMsg) (s : State) : State :=
  let role := leAt t.payload 0 1
  let world := leAt t.payload 1 1
  let fail (st : Nat) : State := answerPlain m t 0 ⟨st, [], false⟩ s
  if helloBarred m s then noAnswer m s
  else if !t.tag.isEmpty then fail 0x09
  else if !formatOk t || t.len != 34 || t.session != 0 then fail 0x0C
  else if rget Obj.LC_STATE 0 s = 4 then fail 0x05
  else if role = 0 ∨ 3 < role ∨ 1 < world then fail 0x07
  else if sessionLimit m.carrier s ≤ sessionsOn m.carrier s then fail 0x0D
  else match lowest 33 (fun n => n != 0 && (sessionOf s n).isNone) with
    | none => fail 0x0D
    | some n =>
      let (v, s1) := fresh s
      let dnonce := natLE 32 v
      let boot := bootstraps m role (world == 1) s
      let blank := rget Obj.LC_STATE 0 s == 0
      let x : Session := {
        carrier := m.carrier, src := m.src
        role := if boot && blank then 3 else role
        world := world
        secure := if boot then true else sessionWorld m (world == 1) s
        live := boot, tagged := !boot
        cnonce := t.payload.drop 2, dnonce := dnonce }
      answerPlain m t n ⟨0, dnonce, false⟩ (setSession n (some x) s1)

/-- m of R471. -/
def authMessage (n : Nat) (x : Session) : List Byte :=
  ascii ['T', 'A', 'C', 'K'] ++ natBE 4 n ++ natBE 1 x.role ++ natBE 1 x.world ++ x.cnonce ++ x.dnonce

/-- The credential admits its role in this life-cycle state (R465): the vendor's only in DEVELOP, and in RETURNED while debug is open. -/
def roleOpen (role : Nat) (s : State) : Bool :=
  role != 3 || rget Obj.LC_STATE 0 s == 1 || (rget Obj.LC_STATE 0 s == 3 && rget Obj.LC_DEBUG_OPEN 0 s == 1)

/-- AUTH. An empty slot admits nobody (DEDUCED). -/
def tackAuth (m : TackIn) (t : TackMsg) (s : State) : State :=
  let fail (st : Nat) (s : State) : State := answerPlain m t t.session ⟨st, [], false⟩ s
  match sessionOf s t.session with
  | none => fail 0x09 s
  | some x =>
    if x.live || !ownsSession m x || !t.tag.isEmpty then fail 0x09 s
    else if !formatOk t || t.len != 48 then fail 0x0C s
    else
      let key := rget (credentialFor x.role (x.world == 1)) 0 s
      let k := natLE 48 key
      let msg := authMessage t.session x
      if key ≠ 0 ∧ roleOpen x.role s = true ∧ t.payload = hmac k msg then
        let skey := hmac k (ascii ['T', 'K', 'S', 'K'] ++ x.cnonce ++ x.dnonce)
        answerPlain m t t.session ⟨0, hmac k (ascii ['T', 'K', 'D', 'V'] ++ msg), false⟩
          (setSession t.session (some { x with live := true, skey := skey }) s)
      else
        let s1 := rinc Obj.TACK_AUTH_FAILS 0 (setSession t.session none s)
        let rest := s1.tack.barred.filter (fun b => !(b.1 == m.carrier && b.2.1 == m.src))
        fail 0x09 { s1 with tack := { s1.tack with barred := (m.carrier, m.src, now s) :: rest } }

/-! ## Objects by identity (R485 to R490) -/

/-- The object at an index and subindex. -/
def findObj (index sub : Nat) : Option Obj := Obj.all.find? (fun o => o.index == index && o.sub == sub)

/-- Type codes (Table 21.1). -/
def typeCode : ObjTy → Nat
  | .u8 => 0x01
  | .u16 => 0x02
  | .u32 => 0x03
  | .u64 => 0x04
  | .i32 => 0x05
  | .bool => 0x06
  | .enum8 => 0x07
  | .bits32 => 0x08
  | .str => 0x09
  | .oct _ => 0x0A
  | .time48 => 0x0B
  | .cmd => 0x0C

/-- The bit of the ACCESS word that a marker sets (Table 22.2); L1, L2 and V stand in LCR and LCW. -/
def markBit : Mark → Nat
  | .secure => 2 ^ 6
  | .world => 2 ^ 7
  | .conf => 2 ^ 8
  | .path => 2 ^ 9
  | .nextReset => 2 ^ 10
  | .noSess => 2 ^ 11
  | .recov => 2 ^ 12
  | .seg => 2 ^ 13
  | .secureIf => 2 ^ 14
  | .l1 | .l2 | .v => 0

/-- The ACCESS word (R487). -/
def accessWord (o : Obj) : Nat :=
  o.kind + o.rrole * 4 + o.wrole * 16 + (o.marks.map markBit).sum + lcr o * 2 ^ 16 + lcw o * 2 ^ 21

/-- An object's identity as one number, in the order NEXT walks. -/
def objId (o : Obj) : Nat := o.index * 256 + o.sub

/-- NEXT (R490): the defined object next above the one named; the 0xF000 range only for a vendor in the states of marker V. -/
def nextObj (w : Who) (above : Nat) (s : State) : Option Obj :=
  let lc := rget Obj.LC_STATE 0 s
  let shown (o : Obj) : Bool := decide (o.index < 0xF000) || (w.role == 3 && (lc == 0 || lc == 1 || lc == 3))
  Obj.all.foldl (fun b o =>
    if objId o ≤ above ∨ shown o = false then b
    else match b with
      | some c => if objId o < objId c then some o else b
      | none => some o) none

/-! ## The operations of a session -/

/-- A command on a path has not ended (R475): what it waits for is the configuration record, a permission change, a rotation, saves, or a
panel's jobs. -/
def commandPending (o : Obj) (path : Nat) (s : State) : Bool :=
  cmdPending o path s
    || (sameObj o Obj.KEY_ROTATE && s.keys.recs.any (fun p => p.2.path == path && path != 0))
    || (sameObj o Obj.GRID_SAVE_ALL && s.jobs.saveAll.contains path)
    || (sameObj o Obj.PANEL_ASSIGN && s.grid.panels.any (fun p => p.2.leavePath == some path))

/-- GET: none while a diagnostic read still waits. -/
def tackGet (w : Who) (t : TackMsg) (s : State) : Option Reply × State :=
  let index := beNat (t.payload.take 2)
  let sub := beNat ((t.payload.drop 2).take 1)
  let off := beNat ((t.payload.drop 4).take 4)
  let fail (st : Nat) (s : State) : Option Reply × State := (some ⟨st, [], false⟩, s)
  if t.len ≠ 8 then fail 0x0C s
  else match findObj index sub with
    | none => fail (if w.role = 0 then 0x09 else 0x01) s
    | some o =>
      let value (b : List Byte) (s1 : State) : Option Reply × State :=
        if b.length < off then fail 0x07 s
        else (some ⟨0, t.payload.take 3 ++ natBE 1 (typeCode o.ty) ++ natBE 4 b.length ++ (b.drop off).take 1432,
          o.kind == 3 && commandPending o w.path s⟩, s1)
      if sameObj o Obj.DIAG_DATA then
        let st := diagStatus w false s
        if st ≠ 0 then fail st (diagCount st s)
        else match diagRead w.path s with
          | (none, s1) => (none, s1)
          | (some b, s1) => value b s1
      else
        let st := readStatus o w s
        if st ≠ 0 then fail st s
        else
          let (b, s1) := getBytes o w s
          value b s1

/-- A segmented transfer on the object is open in some session (R476). -/
def segOpen (o : Obj) (s : State) : Bool := s.tack.sessions.any (fun p => match p.2 with
  | some x => (match x.seg with
    | some g => g.index == o.index && g.sub == o.sub
    | none => false)
  | none => false)

/-- SET: no status while the answer waits for the configuration record (R475, R517). -/
def tackSet (w : Who) (t : TackMsg) (s : State) : Option Reply × State :=
  let index := beNat (t.payload.take 2)
  let sub := beNat ((t.payload.drop 2).take 1)
  let ok (s : State) : Option Reply × State := (some ⟨0, t.payload.take 3 ++ natBE 1 0, false⟩, s)
  let fail (st : Nat) (s : State) : Option Reply × State := (some ⟨st, [], false⟩, s)
  if t.len < 4 then fail 0x0C s
  else match findObj index sub with
    | none => fail 0x01 s
    | some o =>
      let st := accessStatus o w true s
      if st ≠ 0 then fail st s
      else if segOpen o s then fail 0x08 s
      else match runSet o w (t.payload.drop 4) s with
        | (some 0, s1) => ok s1
        | (some st, s1) => fail st s1
        | (none, s1) => (none, s1)

/-- NEXT. -/
def tackNext (w : Who) (t : TackMsg) (s : State) : Reply :=
  if t.len ≠ 4 then ⟨0x0C, [], false⟩
  else match nextObj w (beNat (t.payload.take 3)) s with
    | none => ⟨0x01, [], false⟩
    | some o =>
      ⟨0, natBE 2 o.index ++ natBE 1 o.sub ++ natBE 1 (typeCode o.ty) ++ natBE 4 (accessWord o), false⟩

/-- HEARTBEAT (R479). -/
def heartbeatReply (s : State) : Reply :=
  ⟨0, natLE 6 (now s) ++ s.hlt.health.take 4 ++ natLE 1 (rget Obj.FW_STATE 0 s) ++ natLE 1 (rget Obj.LC_STATE 0 s), false⟩

/-! ## Segmented transfers (R476) -/

/-- Change the transfer of a session. -/
def setSeg (n : Nat) (g : Option Seg) (s : State) : State :=
  match sessionOf s n with
  | none => s
  | some x => setSession n (some { x with seg := g }) s

/-- Bytes held contiguously from offset 0. -/
def segReceived (g : Seg) : Nat := g.parts.foldl (fun n p => if p.1 = n then n + p.2.length else n) 0

/-- SEG_BEGIN. -/
def tackSegBegin (n : Nat) (w : Who) (t : TackMsg) (s : State) : Reply × State :=
  let f (at_ k : Nat) : Nat := beNat ((t.payload.drop at_).take k)
  let fail (st : Nat) : Reply × State := (⟨st, [], false⟩, s)
  if t.len ≠ 12 then fail 0x0C
  else match findObj (f 0 2) (f 2 1) with
    | none => fail 0x01
    | some o =>
      let st := accessStatus o w true s
      let own : Bool := match sessionOf s n with
        | some x => x.seg.isSome
        | none => false
      if st ≠ 0 then fail st
      else if f 8 2 < 8 ∨ 1432 < f 8 2 ∨ o.marks.contains .seg = false then fail 0x07
      else if segOpen o s || own then fail 0x08
      else
        let tid := s.tack.nextTid % 65536
        let s1 := { s with tack := { s.tack with nextTid := (tid + 1) % 65536 } }
        (⟨0, natBE 2 tid ++ natBE 2 0, false⟩, setSeg n (some ⟨tid, o.index, o.sub, f 4 4, f 8 2, []⟩) s1)

/-- The open transfer of a session with this TID. -/
def segOf (n tid : Nat) (s : State) : Option Seg :=
  match sessionOf s n with
  | none => none
  | some x => (match x.seg with
    | some g => if g.tid = tid then some g else none
    | none => none)

/-- SEG_DATA: every segment but the last holds SEGSIZE bytes. -/
def tackSegData (n : Nat) (t : TackMsg) (s : State) : Reply × State :=
  let f (at_ k : Nat) : Nat := beNat ((t.payload.drop at_).take k)
  let fail (st : Nat) : Reply × State := (⟨st, [], false⟩, s)
  let data := t.payload.drop 8
  if t.len < 8 then fail 0x0C
  else match segOf n (f 0 2) s with
    | none => fail 0x07
    | some g =>
      if f 4 4 % g.size ≠ 0 ∨ g.total ≤ f 4 4 ∨ data.length ≠ min g.size (g.total - f 4 4) then fail 0x07
      else
        let g1 := { g with parts := tput [] g.parts (f 4 4) data }
        (⟨0, natBE 2 g.tid ++ natBE 2 0 ++ natBE 4 (segReceived g1), false⟩, setSeg n (some g1) s)

/-- SEG_END: with every byte held and CRC-32C right, the value is applied and the transfer closes. -/
def tackSegEnd (n : Nat) (w : Who) (t : TackMsg) (s : State) : Reply × State :=
  let f (at_ k : Nat) : Nat := beNat ((t.payload.drop at_).take k)
  let fail (st : Nat) : Reply × State := (⟨st, [], false⟩, s)
  if t.len ≠ 8 then fail 0x0C
  else match segOf n (f 0 2) s with
    | none => fail 0x07
    | some g =>
      let whole := g.parts.flatMap (·.2)
      if segReceived g ≠ g.total ∨ crc32c whole ≠ f 4 4 then fail 0x07
      else match findObj g.index g.sub with
        | none => fail 0x01
        | some o =>
          match runSet o w whole (setSeg n none s) with
          | (some 0, s1) => (⟨0, natBE 2 g.tid ++ natBE 2 0, false⟩, s1)
          | (some st, s1) => (⟨st, [], false⟩, s1)
          | (none, s1) => (⟨0, natBE 2 g.tid ++ natBE 2 0, false⟩, s1)

/-! ## Messages of a session (R472) -/

/-- Run one operation of a session: its reply, none while it waits. -/
def tackOp (n : Nat) (w : Who) (t : TackMsg) (s : State) : Option Reply × State :=
  let both (r : Reply × State) : Option Reply × State := (some r.1, r.2)
  match t.op with
  | 0x04 => if t.len = 0 then (some ⟨0, [], false⟩, closePath n s) else (some ⟨0x0C, [], false⟩, s)
  | 0x05 => (some (if t.len = 0 then heartbeatReply s else ⟨0x0C, [], false⟩), s)
  | 0x10 => tackGet w t s
  | 0x11 => tackSet w t s
  | 0x12 => (some (tackNext w t s), s)
  | 0x20 => both (tackSegBegin n w t s)
  | 0x21 => both (tackSegData n t s)
  | 0x22 => both (tackSegEnd n w t s)
  | _ => (some ⟨0x0C, [], false⟩, s)

/-- The last status that waits for the record gets the response it will be answered with. -/
def withReply (m : Out) : List Post → List Post
  | [] => []
  | [p] => [{ p with reply := some m }]
  | p :: q :: r => p :: withReply m (q :: r)

/-- A request of a live session whose tag holds. -/
def sessionRequest (m : TackIn) (t : TackMsg) (x : Session) (s : State) : State :=
  let n := t.session
  let key := if x.tagged then some x.skey else none
  let send (r : Reply) (s : State) : State := sendTack m.carrier m.src (responseBytes t n key r) s
  match x.cache.find? (fun c => c.1 == t.seq) with
  | some c => sendTack m.carrier m.src c.2 s
  | none =>
    if x.waits.contains t.seq then noAnswer m s
    else if t.seq = 0 ∨ x.h > t.seq + 7 ∨ t.seq > x.h + 8 then send ⟨0x0A, [], false⟩ s
    else
      let s1 := setSession n (some { x with h := max x.h t.seq }) s
      let w : Who := ⟨n, x.role, x.secure⟩
      let result := if formatOk t then tackOp n w t s1 else (some ⟨0x0C, [], false⟩, s1)
      match result with
      | (some r, s2) =>
        let b := responseBytes t n key r
        sendTack m.carrier m.src b (cacheTack b s2)
      | (none, s2) =>
        if t.op ≠ 0x11 then noAnswer m s2
        else
          let b := responseBytes t n key ⟨0, t.payload.take 3 ++ natBE 1 0, false⟩
          let s3 := { s2 with cfg := { s2.cfg with posts := withReply (.tack m.carrier m.src b) s2.cfg.posts } }
          match sessionOf s3 n with
          | some y => setSession n (some { y with waits := t.seq :: y.waits }) s3
          | none => s3

/-- A request that names a session: AUTH without a live one of this sender or with a bad tag. -/
def inSession (m : TackIn) (t : TackMsg) (s : State) : State :=
  match sessionOf s t.session with
  | none => answerPlain m t t.session ⟨0x09, [], false⟩ s
  | some x =>
    let signed := tackHeader t.op t.session t.seq t.len t.flags t.status
    let whole := signed.take 2 ++ natBE 1 t.version ++ signed.drop 3 ++ t.payload
    if !x.live || !ownsSession m x || (x.tagged && t.tag != tackTag x.skey whole) || (!x.tagged && !t.tag.isEmpty) then
      answerPlain m t t.session ⟨0x09, [], false⟩ s
    else sessionRequest m t x s

/-- A request outside any session: a GET of the objects that R465 opens, and nothing else. -/
def outsideSession (m : TackIn) (t : TackMsg) (s : State) : State :=
  let answer (r : Reply) (s : State) : State := answerPlain m t 0 r s
  if t.op ≠ 0x10 ∨ t.tag.isEmpty = false then
    answer ⟨if t.op ≠ 0x10 ∧ clientOps.contains t.op = false then 0x0C else 0x09, [], false⟩ s
  else if !formatOk t then answer ⟨0x0C, [], false⟩ s
  else match tackGet ⟨0, 0, false⟩ t s with
    | (some r, s1) => answer r s1
    | (none, s1) => s1

/-! ## Pair frames (R480) -/

/-- A pair frame's tag holds and its SEQ is above the last one accepted of its BOOT; a new BOOT comes only with JOIN. -/
def pairFrameOk (t : TackMsg) (s : State) : Bool :=
  let signed := tackHeader t.op t.session t.seq t.len t.flags t.status
  let whole := signed.take 2 ++ natBE 1 t.version ++ signed.drop 3 ++ t.payload
  t.version == 1 && t.payload.length == t.len && t.len == (if t.op = 0x40 then 32 else 40) && t.tag.length == 16
    && bit t.flags 2 && !bit t.flags 3 && (!bit t.flags 0 || t.op == 0x41) && t.tag == tackTag (pairKey 3 ['M', 'G', 'M', 'T'] s) whole
    && (if t.session = s.tack.partnerBoot then decide (s.tack.partnerSeq < t.seq)
        else t.op == 0x41 && (pairMsg t.payload).op == 1)

/-- PAIR_HB and PAIR_MSG come over management Ethernet; RESP marks the answer to a request (DEDUCED). None is accepted while PAIR_SECRET is
zero, and a rejected one is counted. -/
def pairFrame (m : TackIn) (t : TackMsg) (s : State) : State :=
  if m.carrier ≠ 0 then answerPlain m t t.session ⟨0x0C, [], false⟩ s
  else if rget Obj.PAIR_SECRET 0 s = 0 ∨ pairFrameOk t s = false then rinc Obj.PAIR_MGMT_DISCARDS 0 s
  else
    let s1 := { s with tack := { s.tack with partnerBoot := t.session, partnerSeq := t.seq } }
    let f (at_ n : Nat) : Nat := leAt t.payload at_ n
    if t.op = 0x40 then takeHeartbeat false (f 1 4) (f 5 8) (f 19 4) s1
    else if bit t.flags 0 then takePairRsp (pairMsg t.payload) s1
    else takePairReq (pairMsg t.payload) none s1

/-! ## The rows -/

/-- Take a message by its operation. -/
def takeTack (m : TackIn) (t : TackMsg) (s : State) : State :=
  match t.op with
  | 0x01 => tackHello m t s
  | 0x03 => tackAuth m t s
  | 0x40 | 0x41 => pairFrame m t s
  | _ => if t.session = 0 then outsideSession m t s else inSession m t s

/-- A message with the operation that names its command; the state is unchanged by another one, by one that is no Tack message, and on a
carrier that is not served. -/
def tackRow (op : Nat) (m : TackIn) (s : State) : Answer :=
  match parseTack m.bytes with
  | none => .next s
  | some t => if carrierOpen m s && t.op == op then .next (takeTack m t s) else .next s

/-- HELLO. -/
def execHello (m : TackIn) (s : State) : Answer := tackRow 0x01 m s
/-- AUTH. -/
def execAuth (m : TackIn) (s : State) : Answer := tackRow 0x03 m s
/-- CLOSE. -/
def execClose (m : TackIn) (s : State) : Answer := tackRow 0x04 m s
/-- HEARTBEAT. -/
def execHeartbeat (m : TackIn) (s : State) : Answer := tackRow 0x05 m s
/-- GET. -/
def execGet (m : TackIn) (s : State) : Answer := tackRow 0x10 m s
/-- SET. -/
def execSet (m : TackIn) (s : State) : Answer := tackRow 0x11 m s
/-- NEXT. -/
def execNext (m : TackIn) (s : State) : Answer := tackRow 0x12 m s
/-- SEG_BEGIN. -/
def execSegBegin (m : TackIn) (s : State) : Answer := tackRow 0x20 m s
/-- SEG_DATA. -/
def execSegData (m : TackIn) (s : State) : Answer := tackRow 0x21 m s
/-- SEG_END. -/
def execSegEnd (m : TackIn) (s : State) : Answer := tackRow 0x22 m s
/-- PAIR_HB. -/
def execPairHb (m : TackIn) (s : State) : Answer := tackRow 0x40 m s
/-- PAIR_MSG. -/
def execPairMsg (m : TackIn) (s : State) : Answer := tackRow 0x41 m s

/-- PATTERN_BOOK_TUNNEL: one Tack message and its response; Invalid Input when the payload is none. -/
def execPatternBookTunnel (r : MboxReq) (message : List Byte) (s : State) : Answer :=
  mboxRun r false (fun s =>
    let m : TackIn := ⟨2, r.ld, message⟩
    match parseTack message with
    | none => mboxFail r rcInvalidInput s
    | some t => if carrierOpen m s then takeTack m t s else noAnswer m s) s

/-- TACK_IDLE_TIMEOUT: no valid message came for TACK_IDLE_TIMEOUT, and the session closes (R473). -/
def execTackIdleTimeout (session : Nat) (s : State) : Answer :=
  if (sessionOf s session).isNone then .next s else .next (closePath session s)

/-- EVENT_HEARTBEAT: an event of ETYPE 0x70 with the health report, always sent; none while the object is 0 (R479). -/
def execEventHeartbeat (s : State) : Answer :=
  if bookServed s && rget Obj.EVENT_HEARTBEAT 0 s != 0 then
    let s1 := rinc Obj.EVENT_SEQ 0 s
    .next (sendEvent 0x70 (rget Obj.EVENT_SEQ 0 s1) (now s) (.health s.hlt.health) s1)
  else .next s

end Sys2Proof.Machine
end

