-- ==== Sys2Proof/Machine/Network.lean ====
section
/-! DEFINITION. The management carriers besides Tack (R481, R483) and the test access port (R443, R534). -/

namespace Sys2Proof.Machine

/-! ## MCTP control messages (R481); codes and fields are those of DSP0236 (PRESUMED) -/

/-- A control message is answered while SBX runs. -/
def mctpRun (src : Nat) (run : State → State) (s : State) : Answer :=
  if carrierOpen ⟨1, src, []⟩ s then .next (run s) else .next s

/-- GET_ENDPOINT_ID: the endpoint ID in force. -/
def execGetEndpointId (src : Nat) (s : State) : Answer := mctpRun src (fun s => emit (.mctp src 2 0 [s.tack.eid, 0, 0]) s) s

/-- SET_ENDPOINT_ID: the bus owner assigns the endpoint ID. Reserved IDs and other operations are answered with an invalid-data code. -/
def execSetEndpointId (src op eid : Nat) (s : State) : Answer :=
  mctpRun src (fun s =>
    if 2 ≤ op ∨ eid < 8 ∨ 254 < eid then emit (.mctp src 1 2 []) s
    else emit (.mctp src 1 0 [0, eid, 0]) { s with tack := { s.tack with eid := eid } }) s

/-- The message types it carries: SPDM, the CXL fabric manager's, and Tack in Vendor Defined – PCI. -/
def mctpTypes : List Nat := [0x05, 0x07, 0x7E]

/-- GET_MCTP_VERSION_SUPPORT: one version of the base specification or of a type; which, the spec does not say (a free value). -/
def execGetMctpVersionSupport (src type : Nat) (s : State) : Answer :=
  mctpRun src (fun s =>
    if type = 0xFF ∨ type = 0 ∨ mctpTypes.contains type then
      let (v, s1) := fresh s
      emit (.mctp src 4 0 [1, v]) s1
    else emit (.mctp src 4 0x80 []) s) s

/-- GET_MESSAGE_TYPE_SUPPORT. -/
def execGetMessageTypeSupport (src : Nat) (s : State) : Answer :=
  mctpRun src (fun s => emit (.mctp src 5 0 (mctpTypes.length :: mctpTypes)) s) s

/-! ## Management Ethernet (R483) -/

/-- MG_LINK_CHANGE: the PHY link of a port is up at 1,000 Mb/s, or down. -/
def execMgLinkChange (port : Nat) (up : Bool) (s : State) : Answer :=
  if 2 ≤ port then .next s else .next (rset Obj.MG_LINK port (b2n up) s)

/-- A port carries traffic. -/
def netOpen (s : State) (port : Nat) : Bool :=
  decide (port < 2) && bookServed s && !bromServes s && !s.clk.nixSilent && rget Obj.MG_LINK port s == 1

/-- A port's static address as a 128-bit number; an IPv4 address stands in its IPv6-mapped form. -/
def portAddress (s : State) (port : Nat) : Nat := beNat (natLE 16 (rget Obj.MG_ADDR port s))

/-- The IPv4-mapped form of an IPv4 address. -/
def mappedV4 (a : Nat) : Nat := 0xFFFF00000000 + a % 2 ^ 32

/-- A port's IPv6 link-local address, formed from its MAC address as a modified EUI-64 (PRESUMED). -/
def linkLocal (port : Nat) : Nat :=
  let m := Config.macAddress port % 2 ^ 48
  0xFE80 * 2 ^ 112 + (Nat.xor (m / 2 ^ 24) 0x020000) * 2 ^ 40 + 0xFFFE * 2 ^ 24 + m % 2 ^ 24

/-- The port's MAC address as bytes. -/
def macBytes (port : Nat) : List Byte := natBE 6 (Config.macAddress port)

/-- ARP_REQUEST for an IPv4 address. -/
def execArpRequest (port addr src : Nat) (s : State) : Answer :=
  if netOpen s port && decide (addr % 2 ^ 32 ≠ 0) && portAddress s port == mappedV4 addr then
    .next (emit (.netAnswer port 0 src (macBytes port)) s)
  else .next s

/-- NEIGHBOUR_DISCOVERY for an IPv6 address: the static one or the link-local one. -/
def execNeighbourDiscovery (port addr src : Nat) (s : State) : Answer :=
  if netOpen s port && decide (addr ≠ 0) && decide (addr / 2 ^ 32 ≠ 0xFFFF) && (portAddress s port == addr || linkLocal port == addr) then
    .next (emit (.netAnswer port 1 src (macBytes port)) s)
  else .next s

/-- ICMP_ECHO_REQUEST to one of the port's addresses, an IPv4 one in its mapped form. -/
def execIcmpEchoRequest (port addr src : Nat) (data : List Byte) (s : State) : Answer :=
  if netOpen s port && decide (addr ≠ 0) && (portAddress s port == addr || linkLocal port == addr) then
    .next (emit (.netAnswer port 2 src data) s)
  else .next s

/-! ## JTAG (R443, R534) -/

/-- IDCODE: revision code 0x5, 0x2432, the JEP106 code, and 1. -/
def idcode : Nat := 0x5 * 2 ^ 28 + 0x2432 * 2 ^ 12 + Config.jep106 % 2 ^ 11 * 2 + 1

/-- JTAG_INSTRUCTION: the four of IEEE 1149.1 work in every state, any other only where testing is open; a refused one leaves the
instruction in force. What the boundary-scan chain or a private register holds is outside the model. -/
def execJtagInstruction (i : JtagInstr) (s : State) : Answer :=
  let load (n : Nat) (register : String) (v : Option Nat) : Answer := .next (emit (.jtag register v) { s with test := { jtag := n } })
  match i with
  | .idcode => load 0 "IDCODE" (some idcode)
  | .bypass => load 1 "BYPASS" (some 0)
  | .samplePreload => load 2 "BOUNDARY" none
  | .extest => load 3 "BOUNDARY" none
  | .other code => if testOpen s then load (4 + code) "PRIVATE" none else .next s

end Sys2Proof.Machine
end

