-- ==== Sys2Proof/Machine/Spdm.lean ====
section
/-! DEFINITION. Attestation over SPDM (R427, R428): the requests of Table 18.7 and the berth leaf. Responses are given by their fields; the
bytes of certificates and signatures are not printed by the spec. -/

namespace Sys2Proof.Machine

/-- The request reaches the device: over MCTP on I3C, or on a mailbox. -/
def spdmServed (r : SpdmReq) (s : State) : Bool := carrierOpen ⟨if r.mbox then 2 else 1, r.src, []⟩ s

/-- Answer a request. -/
def spdmAnswer (r : SpdmReq) (name : String) (fields : List Nat) (s : State) : State := emit (.spdm r.mbox r.src name fields) s

/-- Error codes of SPDM 1.2 (PRESUMED: the spec names them). -/
def errUnspecified : Nat := 0x05
def errUnsupported : Nat := 0x07

/-- Run a request. In VOID every one is answered ERROR Unspecified (Table 19.6). -/
def spdmRun (r : SpdmReq) (run : State → State) (s : State) : Answer :=
  if !spdmServed r s then .next s
  else if rget Obj.LC_STATE 0 s = 4 then .next (spdmAnswer r "ERROR" [errUnspecified] s)
  else .next (run s)

/-- Requests that need a chain: in BLANK there is none, and they are answered as in VOID (DESIGN CHOICE). -/
def spdmChain (r : SpdmReq) (run : State → State) (s : State) : Answer :=
  spdmRun r (fun s => if rget Obj.LC_STATE 0 s = 0 then spdmAnswer r "ERROR" [errUnspecified] s else run s) s

/-! ## Contents of a chain -/

/-- The berth a requester attests: its logical device's, or the one that the copy of ATTEST_BERTH_SELECT of its endpoint names. -/
def spdmBerth (r : SpdmReq) (s : State) : Nat :=
  if r.mbox then (ldOf s r.src).berth else rget Obj.ATTEST_BERTH_SELECT (0x1000 + r.src) s

/-- What measurement entries 1 to 6 cover: the images, the matrix and the policy (Table 18.9). -/
def fwMeasure (s : State) : List Nat :=
  [1, 2, 3, 4, 5].flatMap (fun i => [fwIf s i, (runningBank s i).build, (runningBank s i).svn])
    ++ (runningBank s 3).rows.flatMap id ++ [rget Obj.FW_COMPAT_POLICY 0 s]

/-- What entry 16 covers: the berth's regions, grants given and held, panels, logical devices and shaper records. -/
def berthMeasure (s : State) (b : Nat) : List Nat :=
  (s.regions.filter (fun p => p.2.st != 0 && p.2.owner == b)).flatMap (fun p =>
      [p.1, p.2.base, p.2.size, p.2.cls, b2n p.2.world, b2n p.2.share, p.2.privLd])
    ++ (s.berths.grants.filter (fun g => g.1 % 64 == b || (regionOf s (g.1 / 64)).owner == b)).flatMap (fun g => [g.1, g.2])
    ++ (s.grid.panels.filter (fun p => p.2.berth == b)).map (·.1)
    ++ (s.lds.filter (fun p => p.2.berth == b)).map (·.1)
    ++ [0, 1, 2, 3].flatMap (fun k =>
      let x := shaperOf s (berthMeter b k)
      [b2n x.mode, b2n x.reset, x.cir, x.pir, x.cbs, x.pbs])

/-- What entry 17 covers: the world of every landing and panel. -/
def worldMeasure (s : State) : List Nat := s.berths.landingWorld :: (s.grid.panels.filter (fun p => p.2.world)).map (·.1)

/-- The generation of the berth's active data key. -/
def keyGeneration (s : State) (b : Nat) : Nat := (activeKey s b).2

/-- The values of a berth leaf's extensions (Table 18.8), without the time of its issue. -/
def leafContent (s : State) (b : Nat) : List Nat :=
  [b, (berthOf s b).drained, b2n (berthOf s b).conf, b2n s.berths.confDevice, rget Obj.LC_STATE 0 s, keyGeneration s b]
    ++ fwMeasure s ++ berthMeasure s b ++ worldMeasure s

/-- The last leaf of a berth. -/
def leafOf (s : State) (b : Nat) : Option Leaf := tget none s.berths.leafOf b

/-- The leaf that a GET_CERTIFICATE returns: the last one, or a new one when a value in its extensions has changed (R428). -/
def issueLeaf (b : Nat) (s : State) : Leaf × State :=
  let content := leafContent s b
  let fresh : Leaf × State :=
    let x : Leaf := ⟨s.berths.leafSerial + 1, now s, content⟩
    (x, { s with berths := { s.berths with leafSerial := x.serial, leafOf := tput none s.berths.leafOf b (some x) } })
  match leafOf s b with
  | some x => if x.content = content then (x, s) else fresh
  | none => fresh

/-- The device chain's contents: the identity, and the measurements that the alias certificate carries. -/
def deviceChain (s : State) : List Nat := unitId s :: fwMeasure s

/-- A chain's contents: slot 0 the device chain, slot 1 the chain that ends in the berth's last leaf. -/
def chainOf (s : State) (slot b : Nat) : List Nat :=
  if slot = 0 then deviceChain s
  else deviceChain s ++ (match leafOf s b with
    | some x => x.serial :: x.issued :: x.content
    | none => [])

/-! ## Requests -/

/-- GET_VERSION: SPDM 1.2. -/
def execGetVersion (r : SpdmReq) (s : State) : Answer := spdmRun r (spdmAnswer r "VERSION" [0x12]) s

/-- GET_CAPABILITIES: CERT_CAP and CHAL_CAP (their places in the flags are SPDM's, PRESUMED). -/
def execGetCapabilities (r : SpdmReq) (s : State) : Answer := spdmRun r (spdmAnswer r "CAPABILITIES" [0x06]) s

/-- NEGOTIATE_ALGORITHMS: ECDSA P-384 and SHA-384, where the requester offers them (their bits are SPDM's, PRESUMED). -/
def execNegotiateAlgorithms (r : SpdmReq) (asym hash : Nat) (s : State) : Answer :=
  spdmRun r (spdmAnswer r "ALGORITHMS" [if bit asym 7 then 0x80 else 0, if bit hash 1 then 0x02 else 0]) s

/-- GET_DIGESTS: slots 0 and 1. -/
def execGetDigests (r : SpdmReq) (s : State) : Answer :=
  spdmChain r (fun s => spdmAnswer r "DIGESTS"
    [0x03, Config.chainDigest (chainOf s 0 (spdmBerth r s)), Config.chainDigest (chainOf s 1 (spdmBerth r s))] s) s

/-- GET_CERTIFICATE: the chain of slot 0, or of slot 1 with the berth's leaf, newly issued if its extensions have changed. The bytes from
`offset` are a free value. Any other slot is answered ERROR Unspecified (DESIGN CHOICE). -/
def execGetCertificate (r : SpdmReq) (slot offset len : Nat) (s : State) : Answer :=
  spdmChain r (fun s =>
    if 2 ≤ slot then spdmAnswer r "ERROR" [errUnspecified] s
    else
      let b := spdmBerth r s
      let s1 := if slot = 1 then (issueLeaf b s).2 else s
      let (v, s2) := fresh s1
      spdmAnswer r "CERTIFICATE" ([slot, offset, len, v] ++ chainOf s1 slot b) s2) s

/-- CHALLENGE: the nonce is bound to the digest of the slot's chain by a signature, whose bytes are a free value. -/
def execChallenge (r : SpdmReq) (slot nonce : Nat) (s : State) : Answer :=
  spdmChain r (fun s =>
    if 2 ≤ slot then spdmAnswer r "ERROR" [errUnspecified] s
    else
      let (v, s1) := fresh s
      spdmAnswer r "CHALLENGE_AUTH" [slot, Config.chainDigest (chainOf s slot (spdmBerth r s)), nonce, v] s1) s

/-- Any other request is answered ERROR UnsupportedRequest. -/
def execSpdmUnsupportedRequest (r : SpdmReq) (code : Nat) (s : State) : Answer :=
  spdmRun r (spdmAnswer r "ERROR" [errUnsupported, code]) s

end Sys2Proof.Machine
end

