-- ==== Sys2Proof/Machine/Dispatch.lean ====
section
/-! DEFINITION. The meaning of each command: one arm for each constructor of Instr. -/

namespace Sys2Proof.Machine

/-- What a command does to everything but the queue. -/
def exec (i : Instr) (s : State) : Host.Outcome State Fault Refusal :=
  match i with
  | .regionCreate w arg => Sys2Proof.Machine.execRegionCreate w arg s
  | .regionLive region => Sys2Proof.Machine.execRegionLive region s
  | .paceWindowEnd readings => Sys2Proof.Machine.execPaceWindowEnd readings s
  | .paceLowWaterClear w => Sys2Proof.Machine.execPaceLowWaterClear w s
  | .sysclk25Loss => Sys2Proof.Machine.execSysclk25Loss s
  | .pllLockLoss island port => Sys2Proof.Machine.execPllLockLoss island port s
  | .pllRelock island port => Sys2Proof.Machine.execPllRelock island port s
  | .memRd ld tag hpa m => Sys2Proof.Machine.execMemRd ld tag hpa m s
  | .memRdData ld tag hpa => Sys2Proof.Machine.execMemRdData ld tag hpa s
  | .memInv ld tag hpa m => Sys2Proof.Machine.execMemInv ld tag hpa m s
  | .memWr ld tag hpa m data poison => Sys2Proof.Machine.execMemWr ld tag hpa m data poison s
  | .memWrPtl ld tag hpa m data mask poison => Sys2Proof.Machine.execMemWrPtl ld tag hpa m data mask poison s
  | .memClnEvct ld tag hpa => Sys2Proof.Machine.execMemClnEvct ld tag hpa s
  | .memSpecRd ld hpa => Sys2Proof.Machine.execMemSpecRd ld hpa s
  | .biRsp agent line resp wb => Sys2Proof.Machine.execBiRsp agent line resp wb s
  | .biConflict agent line => Sys2Proof.Machine.execBiConflict agent line s
  | .bisnpTimeout agent line => Sys2Proof.Machine.execBisnpTimeout agent line s
  | .deadAgentSweepEnd agent => Sys2Proof.Machine.execDeadAgentSweepEnd agent s
  | .manifestRemapMarker set => Sys2Proof.Machine.execManifestRemapMarker set s
  | .tileRecallComplete tile => Sys2Proof.Machine.execTileRecallComplete tile s
  | .rangeRecallComplete id => Sys2Proof.Machine.execRangeRecallComplete id s
  | .deadPoisonLogClear w => Sys2Proof.Machine.execDeadPoisonLogClear w s
  | .atwLoad r => Sys2Proof.Machine.execAtwLoad r s
  | .atwStore r => Sys2Proof.Machine.execAtwStore r s
  | .atwSwap r => Sys2Proof.Machine.execAtwSwap r s
  | .atwCas r => Sys2Proof.Machine.execAtwCas r s
  | .atwAdd r => Sys2Proof.Machine.execAtwAdd r s
  | .atwMin r => Sys2Proof.Machine.execAtwMin r s
  | .atwMax r => Sys2Proof.Machine.execAtwMax r s
  | .atwAnd r => Sys2Proof.Machine.execAtwAnd r s
  | .atwOr r => Sys2Proof.Machine.execAtwOr r s
  | .atwXor r => Sys2Proof.Machine.execAtwXor r s
  | .atwAddCap r => Sys2Proof.Machine.execAtwAddCap r s
  | .homeExecution line checkOk => Sys2Proof.Machine.execHomeExecution line checkOk s
  | .atwStatusRead ld slot tag => Sys2Proof.Machine.execAtwStatusRead ld slot tag s
  | .atwHoldExpiry ld slot => Sys2Proof.Machine.execAtwHoldExpiry ld slot s
  | .predDecayMarker => Sys2Proof.Machine.execPredDecayMarker s
  | .chunkPlaced tile chunk suspended => Sys2Proof.Machine.execChunkPlaced tile chunk suspended s
  | .farCopyCommit tile => Sys2Proof.Machine.execFarCopyCommit tile s
  | .evictionSweep chan => Sys2Proof.Machine.execEvictionSweep chan s
  | .ageTick => Sys2Proof.Machine.execAgeTick s
  | .slipwaySlotGranted endpoint => Sys2Proof.Machine.execSlipwaySlotGranted endpoint s
  | .slipwayAgingLimit endpoint tile => Sys2Proof.Machine.execSlipwayAgingLimit endpoint tile s
  | .hintPromote r => Sys2Proof.Machine.execHintPromote r s
  | .hintDemote r => Sys2Proof.Machine.execHintDemote r s
  | .hintStage r => Sys2Proof.Machine.execHintStage r s
  | .hintPin r => Sys2Proof.Machine.execHintPin r s
  | .hintUnpin r => Sys2Proof.Machine.execHintUnpin r s
  | .hintUnstage r => Sys2Proof.Machine.execHintUnstage r s
  | .stageExpiry tile => Sys2Proof.Machine.execStageExpiry tile s
  | .convert d => Sys2Proof.Machine.execConvert d s
  | .declare d => Sys2Proof.Machine.execDeclare d s
  | .undeclare d => Sys2Proof.Machine.execUndeclare d s
  | .aluAdd c rd ra rb => Sys2Proof.Machine.execAluAdd c rd ra rb s
  | .aluSub c rd ra rb => Sys2Proof.Machine.execAluSub c rd ra rb s
  | .aluAnd c rd ra rb => Sys2Proof.Machine.execAluAnd c rd ra rb s
  | .aluOr c rd ra rb => Sys2Proof.Machine.execAluOr c rd ra rb s
  | .aluXor c rd ra rb => Sys2Proof.Machine.execAluXor c rd ra rb s
  | .sll c rd ra rb => Sys2Proof.Machine.execSll c rd ra rb s
  | .srl c rd ra rb => Sys2Proof.Machine.execSrl c rd ra rb s
  | .sra c rd ra rb => Sys2Proof.Machine.execSra c rd ra rb s
  | .slt c rd ra rb => Sys2Proof.Machine.execSlt c rd ra rb s
  | .sltu c rd ra rb => Sys2Proof.Machine.execSltu c rd ra rb s
  | .mul c rd ra rb => Sys2Proof.Machine.execMul c rd ra rb s
  | .mulh c rd ra rb => Sys2Proof.Machine.execMulh c rd ra rb s
  | .mulhu c rd ra rb => Sys2Proof.Machine.execMulhu c rd ra rb s
  | .aluMin c rd ra rb => Sys2Proof.Machine.execAluMin c rd ra rb s
  | .aluMax c rd ra rb => Sys2Proof.Machine.execAluMax c rd ra rb s
  | .minu c rd ra rb => Sys2Proof.Machine.execMinu c rd ra rb s
  | .maxu c rd ra rb => Sys2Proof.Machine.execMaxu c rd ra rb s
  | .addi c rd ra imm => Sys2Proof.Machine.execAddi c rd ra imm s
  | .andi c rd ra imm => Sys2Proof.Machine.execAndi c rd ra imm s
  | .ori c rd ra imm => Sys2Proof.Machine.execOri c rd ra imm s
  | .xori c rd ra imm => Sys2Proof.Machine.execXori c rd ra imm s
  | .slti c rd ra imm => Sys2Proof.Machine.execSlti c rd ra imm s
  | .sltiu c rd ra imm => Sys2Proof.Machine.execSltiu c rd ra imm s
  | .shiLeft c rd ra amount => Sys2Proof.Machine.execShiLeft c rd ra amount s
  | .shiLogicalRight c rd ra amount => Sys2Proof.Machine.execShiLogicalRight c rd ra amount s
  | .shiArithmeticRight c rd ra amount => Sys2Proof.Machine.execShiArithmeticRight c rd ra amount s
  | .lui c rd imm => Sys2Proof.Machine.execLui c rd imm s
  | .rdsr c rd sr => Sys2Proof.Machine.execRdsr c rd sr s
  | .wrsr c ra sr => Sys2Proof.Machine.execWrsr c ra sr s
  | .lw c rd ra imm => Sys2Proof.Machine.execLw c rd ra imm s
  | .lh c rd ra imm => Sys2Proof.Machine.execLh c rd ra imm s
  | .lhu c rd ra imm => Sys2Proof.Machine.execLhu c rd ra imm s
  | .lb c rd ra imm => Sys2Proof.Machine.execLb c rd ra imm s
  | .lbu c rd ra imm => Sys2Proof.Machine.execLbu c rd ra imm s
  | .sw c rd ra imm => Sys2Proof.Machine.execSw c rd ra imm s
  | .sh c rd ra imm => Sys2Proof.Machine.execSh c rd ra imm s
  | .sb c rd ra imm => Sys2Proof.Machine.execSb c rd ra imm s
  | .beq c ra rb off => Sys2Proof.Machine.execBeq c ra rb off s
  | .bne c ra rb off => Sys2Proof.Machine.execBne c ra rb off s
  | .blt c ra rb off => Sys2Proof.Machine.execBlt c ra rb off s
  | .bge c ra rb off => Sys2Proof.Machine.execBge c ra rb off s
  | .bltu c ra rb off => Sys2Proof.Machine.execBltu c ra rb off s
  | .bgeu c ra rb off => Sys2Proof.Machine.execBgeu c ra rb off s
  | .jal c rd imm => Sys2Proof.Machine.execJal c rd imm s
  | .jalr c rd ra imm => Sys2Proof.Machine.execJalr c rd ra imm s
  | .lop c ps vd va vb pk gr => Sys2Proof.Machine.execLop c ps vd va vb pk gr s
  | .pld c slot ra imm => Sys2Proof.Machine.execPld c slot ra imm s
  | .vld c v ga n off => Sys2Proof.Machine.execVld c v ga n off s
  | .vst c v ga n off => Sys2Proof.Machine.execVst c v ga n off s
  | .vins c v g lane => Sys2Proof.Machine.execVins c v g lane s
  | .vext c v g lane => Sys2Proof.Machine.execVext c v g lane s
  | .accZero c v lane => Sys2Proof.Machine.execAccZero c v lane s
  | .accRead c v lane => Sys2Proof.Machine.execAccRead c v lane s
  | .accWrite c v lane => Sys2Proof.Machine.execAccWrite c v lane s
  | .lrd c gb gp gx => Sys2Proof.Machine.execLrd c gb gp gx s
  | .lwr c gb gp gx => Sys2Proof.Machine.execLwr c gb gp gx s
  | .lwp c gb gp gx => Sys2Proof.Machine.execLwp c gb gp gx s
  | .crd c gb gp gx => Sys2Proof.Machine.execCrd c gb gp gx s
  | .cwr c gb gp gx => Sys2Proof.Machine.execCwr c gb gp gx s
  | .hrd c gb gp gx => Sys2Proof.Machine.execHrd c gb gp gx s
  | .wopen c gb gp gx => Sys2Proof.Machine.execWopen c gb gp gx s
  | .wchk c gb gp gx => Sys2Proof.Machine.execWchk c gb gp gx s
  | .hwr c gb gp gx => Sys2Proof.Machine.execHwr c gb gp gx s
  | .poolDataLanded core xfer => Sys2Proof.Machine.execPoolDataLanded core xfer s
  | .amo c rd gp gx gs => Sys2Proof.Machine.execAmo c rd gp gx gs s
  | .fence c => Sys2Proof.Machine.execFence c s
  | .send c first target len port tag => Sys2Proof.Machine.execSend c first target len port tag s
  | .recv c first hdr len port tag => Sys2Proof.Machine.execRecv c first hdr len port tag s
  | .coreMessage panel => Sys2Proof.Machine.execCoreMessage panel s
  | .bar c ra barrier => Sys2Proof.Machine.execBar c ra barrier s
  | .tchk c cond ra rb fn => Sys2Proof.Machine.execTchk c cond ra rb fn s
  | .crcb c rd ra imm => Sys2Proof.Machine.execCrcb c rd ra imm s
  | .taskEnd c => Sys2Proof.Machine.execTaskEnd c s
  | .jobSubmit r action => Sys2Proof.Machine.execJobSubmit r action s
  | .jobCancel r => Sys2Proof.Machine.execJobCancel r s
  | .jobPlace => Sys2Proof.Machine.execJobPlace s
  | .quantumExpiry job => Sys2Proof.Machine.execQuantumExpiry job s
  | .saveComplete job => Sys2Proof.Machine.execSaveComplete job s
  | .restoreComplete job scrcOk => Sys2Proof.Machine.execRestoreComplete job scrcOk s
  | .imageLoaded job => Sys2Proof.Machine.execImageLoaded job s
  | .tlimitCheck job => Sys2Proof.Machine.execTlimitCheck job s
  | .gridSaveAll w => Sys2Proof.Machine.execGridSaveAll w s
  | .routeChange => Sys2Proof.Machine.execRouteChange s
  | .routeDrainComplete => Sys2Proof.Machine.execRouteDrainComplete s
  | .acknowledgement src ref refkind delivered sunk endpoint => Sys2Proof.Machine.execAcknowledgement src ref refkind delivered sunk endpoint s
  | .deadEndpointAnswer src ref endpoint => Sys2Proof.Machine.execDeadEndpointAnswer src ref endpoint s
  | .creditReturn kind src dst n => Sys2Proof.Machine.execCreditReturn kind src dst n s
  | .waitNotice src ref => Sys2Proof.Machine.execWaitNotice src ref s
  | .replyTimeout src ref => Sys2Proof.Machine.execReplyTimeout src ref s
  | .dramLineRead chan line o => Sys2Proof.Machine.execDramLineRead chan line o s
  | .allBankRefresh chan rank drift => Sys2Proof.Machine.execAllBankRefresh chan rank drift s
  | .pageIdlePrecharge chan bank => Sys2Proof.Machine.execPageIdlePrecharge chan bank s
  | .dimmTempSample temps => Sys2Proof.Machine.execDimmTempSample temps s
  | .dramScrubRead chan area line o => Sys2Proof.Machine.execDramScrubRead chan area line o s
  | .caParityAlert chan replays failed => Sys2Proof.Machine.execCaParityAlert chan replays failed s
  | .writeCrcAlert chan replays failed => Sys2Proof.Machine.execWriteCrcAlert chan replays failed s
  | .dramRetire w arg => Sys2Proof.Machine.execDramRetire w arg s
  | .dramRetirementStep => Sys2Proof.Machine.execDramRetirementStep s
  | .dramChannelLost chan cause => Sys2Proof.Machine.execDramChannelLost chan cause s
  | .dramLogClear w => Sys2Proof.Machine.execDramLogClear w s
  | .farReadFailure tile chunk check => Sys2Proof.Machine.execFarReadFailure tile chunk check s
  | .rebuildComplete tile chunk ok => Sys2Proof.Machine.execRebuildComplete tile chunk ok s
  | .programFailure chan block => Sys2Proof.Machine.execProgramFailure chan block s
  | .eraseFailure chan block => Sys2Proof.Machine.execEraseFailure chan block s
  | .rowFlush group => Sys2Proof.Machine.execRowFlush group s
  | .merge group => Sys2Proof.Machine.execMerge group s
  | .bandReclaim group => Sys2Proof.Machine.execBandReclaim group s
  | .translationCheckpoint => Sys2Proof.Machine.execTranslationCheckpoint s
  | .pfail => Sys2Proof.Machine.execPfail s
  | .flashChannelLost chan => Sys2Proof.Machine.execFlashChannelLost chan s
  | .flxLossTimeout => Sys2Proof.Machine.execFlxLossTimeout s
  | .flxRelock => Sys2Proof.Machine.execFlxRelock s
  | .flashRetire w arg => Sys2Proof.Machine.execFlashRetire w arg s
  | .flashRetirementEnd => Sys2Proof.Machine.execFlashRetirementEnd s
  | .linkUp link flit256 rate width => Sys2Proof.Machine.execLinkUp link flit256 rate width s
  | .linkDown link => Sys2Proof.Machine.execLinkDown link s
  | .linkRecovery link => Sys2Proof.Machine.execLinkRecovery link s
  | .recoveryEnd link ok sameFlit => Sys2Proof.Machine.execRecoveryEnd link ok sameFlit s
  | .perst link => Sys2Proof.Machine.execPerst link s
  | .decoderCommit ld n hpa size dpa ways => Sys2Proof.Machine.execDecoderCommit ld n hpa size dpa ways s
  | .decoderUncommit ld n => Sys2Proof.Machine.execDecoderUncommit ld n s
  | .functionLevelReset ld => Sys2Proof.Machine.execFunctionLevelReset ld s
  | .cxlReset ld => Sys2Proof.Machine.execCxlReset ld s
  | .setLdAllocations r start allocs => Sys2Proof.Machine.execSetLdAllocations r start allocs s
  | .getLdInfo r => Sys2Proof.Machine.execGetLdInfo r s
  | .getLdAllocations r start limit => Sys2Proof.Machine.execGetLdAllocations r start limit s
  | .getDcRegionConfiguration r => Sys2Proof.Machine.execGetDcRegionConfiguration r s
  | .getDcExtentLists r start count => Sys2Proof.Machine.execGetDcExtentLists r start count s
  | .unsupportedCommand r opcode => Sys2Proof.Machine.execUnsupportedCommand r opcode s
  | .identifyMemoryDevice r => Sys2Proof.Machine.execIdentifyMemoryDevice r s
  | .getSupportedLogs r => Sys2Proof.Machine.execGetSupportedLogs r s
  | .getLog r cel offset len => Sys2Proof.Machine.execGetLog r cel offset len s
  | .getEventRecords r log => Sys2Proof.Machine.execGetEventRecords r log s
  | .clearEventRecords r log all handles => Sys2Proof.Machine.execClearEventRecords r log all handles s
  | .getEventInterruptPolicy r => Sys2Proof.Machine.execGetEventInterruptPolicy r s
  | .setEventInterruptPolicy r policy => Sys2Proof.Machine.execSetEventInterruptPolicy r policy s
  | .getTimestamp r => Sys2Proof.Machine.execGetTimestamp r s
  | .setTimestamp r stamp => Sys2Proof.Machine.execSetTimestamp r stamp s
  | .getFwInfo r => Sys2Proof.Machine.execGetFwInfo r s
  | .transferFw r action offset data => Sys2Proof.Machine.execTransferFw r action offset data s
  | .activateFw r action mask => Sys2Proof.Machine.execActivateFw r action mask s
  | .getHealthInfo r => Sys2Proof.Machine.execGetHealthInfo r s
  | .getAlertConfiguration r => Sys2Proof.Machine.execGetAlertConfiguration r s
  | .setAlertConfiguration r value => Sys2Proof.Machine.execSetAlertConfiguration r value s
  | .getPoisonList r dpa len => Sys2Proof.Machine.execGetPoisonList r dpa len s
  | .injectPoison r dpa => Sys2Proof.Machine.execInjectPoison r dpa s
  | .clearPoison r dpa data => Sys2Proof.Machine.execClearPoison r dpa data s
  | .getDynamicCapacityConfiguration r => Sys2Proof.Machine.execGetDynamicCapacityConfiguration r s
  | .getDynamicCapacityExtentList r start count => Sys2Proof.Machine.execGetDynamicCapacityExtentList r start count s
  | .addDynamicCapacityResponse r answered accepted => Sys2Proof.Machine.execAddDynamicCapacityResponse r answered accepted s
  | .releaseDynamicCapacity r regions => Sys2Proof.Machine.execReleaseDynamicCapacity r regions s
  | .releaseComplete ld region => Sys2Proof.Machine.execReleaseComplete ld region s
  | .dcReleaseTimeout ld region => Sys2Proof.Machine.execDcReleaseTimeout ld region s
  | .patternBookTunnel r message => Sys2Proof.Machine.execPatternBookTunnel r message s
  | .seamDetect port => Sys2Proof.Machine.execSeamDetect port s
  | .seamTrainingEnd port unit flight ok rx tx => Sys2Proof.Machine.execSeamTrainingEnd port unit flight ok rx tx s
  | .seamDownTimeout port => Sys2Proof.Machine.execSeamDownTimeout port s
  | .seamLinkDown port cause => Sys2Proof.Machine.execSeamLinkDown port cause s
  | .idleFrame port frame => Sys2Proof.Machine.execIdleFrame port frame s
  | .cellFrame port frame => Sys2Proof.Machine.execCellFrame port frame s
  | .dataFrame port frame => Sys2Proof.Machine.execDataFrame port frame s
  | .ctrlFrame port frame => Sys2Proof.Machine.execCtrlFrame port frame s
  | .ackForce port => Sys2Proof.Machine.execAckForce port s
  | .seamReplayTimeout port => Sys2Proof.Machine.execSeamReplayTimeout port s
  | .spareReq port lane spare sseq => Sys2Proof.Machine.execSpareReq port lane spare sseq s
  | .spareConf port sseq ok => Sys2Proof.Machine.execSpareConf port sseq ok s
  | .spareDone port lane spare sseq => Sys2Proof.Machine.execSpareDone port lane spare sseq s
  | .loopbackRequest port pattern => Sys2Proof.Machine.execLoopbackRequest port pattern s
  | .loopbackEcho port pattern => Sys2Proof.Machine.execLoopbackEcho port pattern s
  | .seamLoopbackPeriod => Sys2Proof.Machine.execSeamLoopbackPeriod s
  | .seamHeartbeat port hseq claim unit time health => Sys2Proof.Machine.execSeamHeartbeat port hseq claim unit time health s
  | .mwrite port => Sys2Proof.Machine.execMwrite port s
  | .mpoison port => Sys2Proof.Machine.execMpoison port s
  | .mack port => Sys2Proof.Machine.execMack port s
  | .fetch port => Sys2Proof.Machine.execFetch port s
  | .fdata port => Sys2Proof.Machine.execFdata port s
  | .fnak port => Sys2Proof.Machine.execFnak port s
  | .claim port => Sys2Proof.Machine.execClaim port s
  | .claimAck port => Sys2Proof.Machine.execClaimAck port s
  | .pairJoin port => Sys2Proof.Machine.execPairJoin port s
  | .pairLease port => Sys2Proof.Machine.execPairLease port s
  | .pairHandover port => Sys2Proof.Machine.execPairHandover port s
  | .pairTakeover port => Sys2Proof.Machine.execPairTakeover port s
  | .pairStepdown port => Sys2Proof.Machine.execPairStepdown port s
  | .pairRegion port => Sys2Proof.Machine.execPairRegion port s
  | .pairVerify port => Sys2Proof.Machine.execPairVerify port s
  | .pairRsp port => Sys2Proof.Machine.execPairRsp port s
  | .planeAnswer tag cmp same => Sys2Proof.Machine.execPlaneAnswer tag cmp same s
  | .planeCommand plane stage tag step line what claim => Sys2Proof.Machine.execPlaneCommand plane stage tag step line what claim s
  | .mergeWindowExpiry tag => Sys2Proof.Machine.execMergeWindowExpiry tag s
  | .resolveMarker line failed => Sys2Proof.Machine.execResolveMarker line failed s
  | .planeHeartbeat plane path => Sys2Proof.Machine.execPlaneHeartbeat plane path s
  | .planeSilence plane path => Sys2Proof.Machine.execPlaneSilence plane path s
  | .takeover plane claim => Sys2Proof.Machine.execTakeover plane claim s
  | .dualIssueWindowEnd => Sys2Proof.Machine.execDualIssueWindowEnd s
  | .planeRetire w arg => Sys2Proof.Machine.execPlaneRetire w arg s
  | .planeRejoin w arg => Sys2Proof.Machine.execPlaneRejoin w arg s
  | .copyMarker set => Sys2Proof.Machine.execCopyMarker set s
  | .mfScrubMarker set failA failB differ => Sys2Proof.Machine.execMfScrubMarker set failA failB differ s
  | .panelTest panel ok => Sys2Proof.Machine.execPanelTest panel ok s
  | .healthRefresh => Sys2Proof.Machine.execHealthRefresh s
  | .healthClear w => Sys2Proof.Machine.execHealthClear w s
  | .pairHeartbeatSend => Sys2Proof.Machine.execPairHeartbeatSend s
  | .partnerSilent => Sys2Proof.Machine.execPartnerSilent s
  | .leaseLapse => Sys2Proof.Machine.execLeaseLapse s
  | .takingServeStart => Sys2Proof.Machine.execTakingServeStart s
  | .overlapWindowEnd => Sys2Proof.Machine.execOverlapWindowEnd s
  | .pairVerifyPeriod => Sys2Proof.Machine.execPairVerifyPeriod s
  | .pairHandoverCmd w => Sys2Proof.Machine.execPairHandoverCmd w s
  | .pairForcePrimary w => Sys2Proof.Machine.execPairForcePrimary w s
  | .pairPartnerUnit w unit => Sys2Proof.Machine.execPairPartnerUnit w unit s
  | .resyncClaim span => Sys2Proof.Machine.execResyncClaim span s
  | .meterRebalance => Sys2Proof.Machine.execMeterRebalance s
  | .redQueueRetest link => Sys2Proof.Machine.execRedQueueRetest link s
  | .holdRedMemExpiry link => Sys2Proof.Machine.execHoldRedMemExpiry link s
  | .holdYellowExpiry kind link => Sys2Proof.Machine.execHoldYellowExpiry kind link s
  | .bmeterShaperSet w rec => Sys2Proof.Machine.execBmeterShaperSet w rec s
  | .pmeterShaperSet w rec => Sys2Proof.Machine.execPmeterShaperSet w rec s
  | .bucketLeak source inst => Sys2Proof.Machine.execBucketLeak source inst s
  | .tileChecksumFailure tile => Sys2Proof.Machine.execTileChecksumFailure tile s
  | .canaryStep o => Sys2Proof.Machine.execCanaryStep o s
  | .errLogClear w => Sys2Proof.Machine.execErrLogClear w s
  | .divLogClear w => Sys2Proof.Machine.execDivLogClear w s
  | .berthCreate w arg => Sys2Proof.Machine.execBerthCreate w arg s
  | .berthDelete w arg => Sys2Proof.Machine.execBerthDelete w arg s
  | .panelAssign w arg => Sys2Proof.Machine.execPanelAssign w arg s
  | .ldBind w arg => Sys2Proof.Machine.execLdBind w arg s
  | .worldLandingSet w arg => Sys2Proof.Machine.execWorldLandingSet w arg s
  | .regionDelete w arg => Sys2Proof.Machine.execRegionDelete w arg s
  | .regionRemovalEnd region => Sys2Proof.Machine.execRegionRemovalEnd region s
  | .permGrant w arg => Sys2Proof.Machine.execPermGrant w arg s
  | .permDrainComplete => Sys2Proof.Machine.execPermDrainComplete s
  | .confSet w arg => Sys2Proof.Machine.execConfSet w arg s
  | .getVersion r => Sys2Proof.Machine.execGetVersion r s
  | .getCapabilities r => Sys2Proof.Machine.execGetCapabilities r s
  | .negotiateAlgorithms r asym hash => Sys2Proof.Machine.execNegotiateAlgorithms r asym hash s
  | .getDigests r => Sys2Proof.Machine.execGetDigests r s
  | .getCertificate r slot offset len => Sys2Proof.Machine.execGetCertificate r slot offset len s
  | .challenge r slot nonce => Sys2Proof.Machine.execChallenge r slot nonce s
  | .spdmUnsupportedRequest r code => Sys2Proof.Machine.execSpdmUnsupportedRequest r code s
  | .keyRotate w => Sys2Proof.Machine.execKeyRotate w s
  | .rekeyCrossing tile => Sys2Proof.Machine.execRekeyCrossing tile s
  | .rekeySweepComplete berth => Sys2Proof.Machine.execRekeySweepComplete berth s
  | .lcToDevelop w rsvd token => Sys2Proof.Machine.execLcToDevelop w rsvd token s
  | .lcToSealed w rsvd token => Sys2Proof.Machine.execLcToSealed w rsvd token s
  | .lcToReturned w rsvd token => Sys2Proof.Machine.execLcToReturned w rsvd token s
  | .lcToVoid w rsvd token => Sys2Proof.Machine.execLcToVoid w rsvd token s
  | .lcUnlock w token => Sys2Proof.Machine.execLcUnlock w token s
  | .pairSecret w secret => Sys2Proof.Machine.execPairSecret w secret s
  | .fwStage w bundle => Sys2Proof.Machine.execFwStage w bundle s
  | .fwActivate w arg => Sys2Proof.Machine.execFwActivate w arg s
  | .fwSvnCommit w => Sys2Proof.Machine.execFwSvnCommit w s
  | .fwRollback w => Sys2Proof.Machine.execFwRollback w s
  | .trialHoldExpiry => Sys2Proof.Machine.execTrialHoldExpiry s
  | .hello m => Sys2Proof.Machine.execHello m s
  | .auth m => Sys2Proof.Machine.execAuth m s
  | .close m => Sys2Proof.Machine.execClose m s
  | .heartbeat m => Sys2Proof.Machine.execHeartbeat m s
  | .get m => Sys2Proof.Machine.execGet m s
  | .set m => Sys2Proof.Machine.execSet m s
  | .next m => Sys2Proof.Machine.execNext m s
  | .segBegin m => Sys2Proof.Machine.execSegBegin m s
  | .segData m => Sys2Proof.Machine.execSegData m s
  | .segEnd m => Sys2Proof.Machine.execSegEnd m s
  | .pairHb m => Sys2Proof.Machine.execPairHb m s
  | .pairMsg m => Sys2Proof.Machine.execPairMsg m s
  | .tackIdleTimeout session => Sys2Proof.Machine.execTackIdleTimeout session s
  | .eventHeartbeat => Sys2Proof.Machine.execEventHeartbeat s
  | .getEndpointId src => Sys2Proof.Machine.execGetEndpointId src s
  | .setEndpointId src op eid => Sys2Proof.Machine.execSetEndpointId src op eid s
  | .getMctpVersionSupport src type => Sys2Proof.Machine.execGetMctpVersionSupport src type s
  | .getMessageTypeSupport src => Sys2Proof.Machine.execGetMessageTypeSupport src s
  | .diagDataRead w => Sys2Proof.Machine.execDiagDataRead w s
  | .diagDataWrite w data => Sys2Proof.Machine.execDiagDataWrite w data s
  | .powerCap w cap => Sys2Proof.Machine.execPowerCap w cap s
  | .controlPeriod power temps vcore => Sys2Proof.Machine.execControlPeriod power temps vcore s
  | .avsRetry => Sys2Proof.Machine.execAvsRetry s
  | .powerOn straps => Sys2Proof.Machine.execPowerOn straps s
  | .warmResetInput => Sys2Proof.Machine.execWarmResetInput s
  | .restart w arg => Sys2Proof.Machine.execRestart w arg s
  | .pilotWatchdog => Sys2Proof.Machine.execPilotWatchdog s
  | .bootStepEnd r => Sys2Proof.Machine.execBootStepEnd r s
  | .landingOpen link => Sys2Proof.Machine.execLandingOpen link s
  | .farFormat w => Sys2Proof.Machine.execFarFormat w s
  | .railOutOfTolerance rail => Sys2Proof.Machine.execRailOutOfTolerance rail s
  | .thermtripRelease => Sys2Proof.Machine.execThermtripRelease s
  | .unassignedOpcode c word => Sys2Proof.Machine.execUnassignedOpcode c word s
  | .poolWriteAccepted core xfer => Sys2Proof.Machine.execPoolWriteAccepted core xfer s
  | .yellowHoldRelease kind link => Sys2Proof.Machine.execYellowHoldRelease kind link s
  | .blockLockLoss port lanes lost => Sys2Proof.Machine.execBlockLockLoss port lanes lost s
  | .skpOrderedSet port => Sys2Proof.Machine.execSkpOrderedSet port s
  | .nakResendTimeout port => Sys2Proof.Machine.execNakResendTimeout port s
  | .spareResend port => Sys2Proof.Machine.execSpareResend port s
  | .loopbackEchoTimeout port => Sys2Proof.Machine.execLoopbackEchoTimeout port s
  | .flitError link lanes => Sys2Proof.Machine.execFlitError link lanes s
  | .perstRelease link => Sys2Proof.Machine.execPerstRelease link s
  | .porstAssert => Sys2Proof.Machine.execPorstAssert s
  | .mgLinkChange port up => Sys2Proof.Machine.execMgLinkChange port up s
  | .arpRequest port addr src => Sys2Proof.Machine.execArpRequest port addr src s
  | .neighbourDiscovery port addr src => Sys2Proof.Machine.execNeighbourDiscovery port addr src s
  | .icmpEchoRequest port addr src data => Sys2Proof.Machine.execIcmpEchoRequest port addr src data s
  | .jtagInstruction j => Sys2Proof.Machine.execJtagInstruction j s
  | .configRecordWritten => Sys2Proof.Machine.execConfigRecordWritten s
  | .mergeComplete group => Sys2Proof.Machine.execMergeComplete group s
  | .eraseComplete group => Sys2Proof.Machine.execEraseComplete group s
  | .waitNoticeInterval src ref => Sys2Proof.Machine.execWaitNoticeInterval src ref s

end Sys2Proof.Machine
end

