-- ==== Sys2Proof/Safety.lean ====
section
/-! DEFINITION. What a safe state of the device is, and the words that claims are stated in: memories in their canonical form, the throttle
ladder within its positions, and what one command leaves unchanged. -/

namespace Sys2Proof.Machine

/-! ## Safe states -/

/-- The byte memories are in canonical form: addresses strictly rising and no entry equal to what an unlisted address reads as. -/
def Memory.wf (m : Mem) : Bool := tabWf 0 m.near && tabWf 0 m.far && tabWf 0 m.ls

/-- A crossing's snapshot is in canonical form too: a commit writes it to the far shore (R107). -/
def crossingWf (c : Crossing) : Bool := tabWf 0 c.snap

/-- Every byte memory of the state, and every snapshot on its way, is in canonical form. -/
def memoryWf (s : State) : Bool := Memory.wf s.mem && s.ferry.crossings.all crossingWf

/-- The ladder's cap and thermal positions lie on the ladder of positions 0 to 32 (R496, R497). -/
def ladderOk (s : State) : Bool := decide (s.power.pc ≤ 32) && decide (s.power.pt ≤ 32)

/-- A safe state. -/
def Safe (s : State) : Bool := memoryWf s && ladderOk s

/-! ## What a command leaves unchanged -/

/-- Every byte of the near shore, the far shore and the local stores reads as before. -/
def SameBytes (s t : State) : Prop :=
  ∀ a, tget 0 t.mem.near a = tget 0 s.mem.near a ∧ tget 0 t.mem.far a = tget 0 s.mem.far a ∧ tget 0 t.mem.ls a = tget 0 s.mem.ls a

/-- Every byte reads as before but for `n` local store bytes of core `c` from address `a` on. -/
def SameBytesBut (c a n : Nat) (s t : State) : Prop :=
  ∀ x, tget 0 t.mem.near x = tget 0 s.mem.near x ∧ tget 0 t.mem.far x = tget 0 s.mem.far x
    ∧ (x < c * lsBytes + a ∨ c * lsBytes + a + n ≤ x → tget 0 t.mem.ls x = tget 0 s.mem.ls x)

/-- Every register of the Pattern Book reads as before but for those that `p` names. -/
def SameRegsBut (p : Obj → Nat → Prop) (s t : State) : Prop := ∀ o i, ¬ p o i → rget o i t = rget o i s

/-- Register `(o, i)` and register `(o', i')` are one register. -/
def SameReg (o : Obj) (i : Nat) (o' : Obj) (i' : Nat) : Prop := objKey o i = objKey o' i'

/-- The core can issue, its residue check passes and its local store words are sound. -/
def Ready (c : CoreCtx) (s : State) : Prop := mayIssue s c.core = true ∧ c.chk = .pass ∧ c.ls = .ok

/-- An instruction that completes on core `c` and changes no memory: every other core, every register of the Pattern Book but the
core's instruction counter, and everything else, are as before; the counter has counted it (Table 07.8). -/
structure OnlyCore (c : Nat) (s t : State) : Prop where
  cores : ∀ k, k ≠ c → coreOf t k = coreOf s k
  counted : rget Obj.CORE_INSTRUCTIONS c t = (rget Obj.CORE_INSTRUCTIONS c s + 1) % 2 ^ 64
  registers : SameRegsBut (SameReg Obj.CORE_INSTRUCTIONS c) s t
  bytes : SameBytes s t
  rest : t = { s with regs := t.regs, grid := { s.grid with cores := t.grid.cores } }

/-- An instruction that completes with `v` in general register `rd` and goes on at word `pc`; g0 discards it (Table 07.1). -/
structure WritesG (c rd : Nat) (v : Word) (pc : Nat) (s t : State) : Prop where
  value : ∀ n, greg (coreOf t c) n = if n = rd ∧ n ≠ 0 then v else greg (coreOf s c) n
  core : coreOf t c = { coreOf s c with g := (coreOf t c).g, pc := pc, wait := 0 }
  frame : OnlyCore c s t

/-- A store that completes: the bytes stand at the address, every other byte reads as before, and no register of the core changes. -/
structure StoresBytes (c addr : Nat) (bs : List Byte) (s t : State) : Prop where
  stored : lsLoad t c addr bs.length = bs
  bytes : SameBytesBut c addr bs.length s t
  core : coreOf t c = { coreOf s c with pc := nextPc (coreOf s c), wait := 0 }
  cores : ∀ k, k ≠ c → coreOf t k = coreOf s k
  registers : SameRegsBut (SameReg Obj.CORE_INSTRUCTIONS c) s t
  rest : t = { s with regs := t.regs, grid := { s.grid with cores := t.grid.cores }, mem := t.mem }

/-- Local store bytes that a load may read: inside the store, aligned, no block filling and none poison (R163, R174, R181). -/
def Loads (s : State) (c addr n align : Nat) : Prop :=
  addr + n ≤ lsBytes ∧ addr % align = 0 ∧ (∀ b ∈ blocksOf addr n, blkOf (coreOf s c) b ≠ 1) ∧ (∀ b ∈ blocksOf addr n, lsPoisoned s c b = false)

/-- Local store bytes that a store may write: inside the store, aligned, every block free (R174, R181). -/
def Stores (s : State) (c addr n align : Nat) : Prop :=
  addr + n ≤ lsBytes ∧ addr % align = 0 ∧ ∀ b ∈ blocksOf addr n, blkOf (coreOf s c) b = 0

end Sys2Proof.Machine
end

