-- ==== Sys2Proof/WellFormed.lean ====
section
/-! DEFINITION. Well-formed commands: every operand lies in the field that the spec's tables give it. A meaning does not assume it: a
command whose operand names nothing (a port that does not exist, say) changes nothing or ends with the status its rule gives. -/

namespace Sys2Proof

/-- An operand lies below a bound. -/
def below (n v : Nat) : Bool := decide (v < n)

/-- A core number (R149). -/
def coreOk (c : CoreCtx) : Bool := below 1200 c.core

/-- A requester: roles 0 to 3, and a path number of 32 bits (R466, R467). -/
def whoOk (w : Who) : Bool := below 4 w.role && below (2 ^ 32) w.path

/-- A REQUEST word and operands of the atomic window (Tables 04.1, 04.2): 512 slots per logical device. -/
def atwOk (r : AtwReq) : Bool :=
  below 128 r.ld && below 512 r.slot && below (2 ^ 49) r.addr && below 16 r.type && below 32 r.rsvd
    && (r.op1.all (below (2 ^ 64))) && (r.op2.all (below (2 ^ 64)))

/-- A hint slot write (Tables 05.11, 05.12): 64 slots per logical device. -/
def hintOk (r : HintReq) : Bool :=
  below 128 r.ld && below 64 r.slot && below (2 ^ 33) r.tile && below (2 ^ 16) r.count && below (2 ^ 12) r.rsvd
    && (r.hold.all (below (2 ^ 32)))

/-- A SUBMIT word (R201): 64 slots per logical device. -/
def jobReqOk (r : JobReq) : Bool := below 128 r.ld && below 64 r.slot && below (2 ^ 49) r.addr && below (2 ^ 13) r.rsvd

/-- A tile descriptor of a job: JOBREF has 16 bits, and a job lists at most 65,535 (R142, R201). -/
def descOk (d : DescRef) : Bool := below 65536 d.job && below 65536 d.index

/-- A mailbox of one of 128 logical devices (R302). -/
def mboxOk (r : MboxReq) : Bool := below 128 r.ld

/-- The fields of a shaper record (Table 16.2). -/
def shaperOk (r : ShaperArg) : Bool :=
  below (2 ^ 64) r.cir && below (2 ^ 64) r.pir && below (2 ^ 32) r.cbs && below (2 ^ 32) r.pbs && below (2 ^ 62) r.rsvd

/-- A management message: carriers 0 to 2, and a source address of 128 bits. -/
def tackOk (m : TackIn) : Bool := below 3 m.carrier && below (2 ^ 128) m.src

/-- A requester of SPDM: a logical device or an endpoint ID. -/
def spdmOk (r : SpdmReq) : Bool := below 256 r.src

/-- A corrected read names one of the nibbles of a DRAM line's code word. -/
def eccOk (o : EccOutcome) : Bool :=
  match o with
  | .corrected nibble => below 256 nibble
  | _ => true

/-- A canary step: the step that did not match. -/
def canaryOk (o : CanaryOutcome) : Bool := below 4 o.failed

/-- A boot report lists at most the channels there are (24 DRAM, 32 flash). -/
def bootOk (r : BootReport) : Bool := decide (r.dram.length ≤ 24) && decide (r.flash.length ≤ 32)

/-- A line of data, a byte mask of a line, a Seam frame (R326), a pair secret (R441) and a token (R445). -/
def lineOk (bs : List Byte) : Bool := bs.length == 64
def maskOk (bs : List Bool) : Bool := bs.length == 64
def frameOk (bs : List Byte) : Bool := bs.length == 256
def secretOk (bs : List Byte) : Bool := bs.length == 48
def tokenOk (bs : List Byte) : Bool := bs.length == 144

/-- Data that an answer to a back-invalidation writes back. -/
def wbOk (wb : Option (List Byte)) : Bool := wb.all lineOk

/-- A well-formed command. -/
def wellFormed (i : Instr) : Bool :=
  match i with
  | .regionCreate w arg => whoOk w && below (2 ^ 64) arg
  | .regionLive region => below 8192 region
  | .paceWindowEnd _ => true
  | .paceLowWaterClear w => whoOk w
  | .sysclk25Loss => true
  | .pllLockLoss island port => below 9 island && below 8 port
  | .pllRelock island port => below 9 island && below 8 port
  | .memRd ld tag hpa _ => below 128 ld && below 65536 tag && below (2 ^ 52) hpa
  | .memRdData ld tag hpa => below 128 ld && below 65536 tag && below (2 ^ 52) hpa
  | .memInv ld tag hpa _ => below 128 ld && below 65536 tag && below (2 ^ 52) hpa
  | .memWr ld tag hpa _ data _ => below 128 ld && below 65536 tag && below (2 ^ 52) hpa && lineOk data
  | .memWrPtl ld tag hpa _ data mask _ => below 128 ld && below 65536 tag && below (2 ^ 52) hpa && lineOk data && maskOk mask
  | .memClnEvct ld tag hpa => below 128 ld && below 65536 tag && below (2 ^ 52) hpa
  | .memSpecRd ld hpa => below 128 ld && below (2 ^ 52) hpa
  | .biRsp agent line _ wb => below 64 agent && below (2 ^ 43) line && wbOk wb
  | .biConflict agent line => below 64 agent && below (2 ^ 43) line
  | .bisnpTimeout agent line => below 64 agent && below (2 ^ 43) line
  | .deadAgentSweepEnd agent => below 64 agent
  | .manifestRemapMarker set => below 16777216 set
  | .tileRecallComplete tile => below (2 ^ 33) tile
  | .rangeRecallComplete _ => true
  | .deadPoisonLogClear w => whoOk w
  | .atwLoad r => atwOk r
  | .atwStore r => atwOk r
  | .atwSwap r => atwOk r
  | .atwCas r => atwOk r
  | .atwAdd r => atwOk r
  | .atwMin r => atwOk r
  | .atwMax r => atwOk r
  | .atwAnd r => atwOk r
  | .atwOr r => atwOk r
  | .atwXor r => atwOk r
  | .atwAddCap r => atwOk r
  | .homeExecution line _ => below (2 ^ 43) line
  | .atwStatusRead ld slot tag => below 128 ld && below 512 slot && below 65536 tag
  | .atwHoldExpiry ld slot => below 128 ld && below 512 slot
  | .predDecayMarker => true
  | .chunkPlaced tile chunk _ => below (2 ^ 33) tile && below 16 chunk
  | .farCopyCommit tile => below (2 ^ 33) tile
  | .evictionSweep chan => below 24 chan
  | .ageTick => true
  | .slipwaySlotGranted endpoint => below 512 endpoint
  | .slipwayAgingLimit endpoint tile => below 512 endpoint && below (2 ^ 33) tile
  | .hintPromote r => hintOk r
  | .hintDemote r => hintOk r
  | .hintStage r => hintOk r
  | .hintPin r => hintOk r
  | .hintUnpin r => hintOk r
  | .hintUnstage r => hintOk r
  | .stageExpiry tile => below (2 ^ 33) tile
  | .convert d => descOk d
  | .declare d => descOk d
  | .undeclare d => descOk d
  | .aluAdd c rd ra rb => coreOk c && below 64 rd && below 64 ra && below 64 rb
  | .aluSub c rd ra rb => coreOk c && below 64 rd && below 64 ra && below 64 rb
  | .aluAnd c rd ra rb => coreOk c && below 64 rd && below 64 ra && below 64 rb
  | .aluOr c rd ra rb => coreOk c && below 64 rd && below 64 ra && below 64 rb
  | .aluXor c rd ra rb => coreOk c && below 64 rd && below 64 ra && below 64 rb
  | .sll c rd ra rb => coreOk c && below 64 rd && below 64 ra && below 64 rb
  | .srl c rd ra rb => coreOk c && below 64 rd && below 64 ra && below 64 rb
  | .sra c rd ra rb => coreOk c && below 64 rd && below 64 ra && below 64 rb
  | .slt c rd ra rb => coreOk c && below 64 rd && below 64 ra && below 64 rb
  | .sltu c rd ra rb => coreOk c && below 64 rd && below 64 ra && below 64 rb
  | .mul c rd ra rb => coreOk c && below 64 rd && below 64 ra && below 64 rb
  | .mulh c rd ra rb => coreOk c && below 64 rd && below 64 ra && below 64 rb
  | .mulhu c rd ra rb => coreOk c && below 64 rd && below 64 ra && below 64 rb
  | .aluMin c rd ra rb => coreOk c && below 64 rd && below 64 ra && below 64 rb
  | .aluMax c rd ra rb => coreOk c && below 64 rd && below 64 ra && below 64 rb
  | .minu c rd ra rb => coreOk c && below 64 rd && below 64 ra && below 64 rb
  | .maxu c rd ra rb => coreOk c && below 64 rd && below 64 ra && below 64 rb
  | .addi c rd ra imm => coreOk c && below 64 rd && below 64 ra && below 16384 imm
  | .andi c rd ra imm => coreOk c && below 64 rd && below 64 ra && below 16384 imm
  | .ori c rd ra imm => coreOk c && below 64 rd && below 64 ra && below 16384 imm
  | .xori c rd ra imm => coreOk c && below 64 rd && below 64 ra && below 16384 imm
  | .slti c rd ra imm => coreOk c && below 64 rd && below 64 ra && below 16384 imm
  | .sltiu c rd ra imm => coreOk c && below 64 rd && below 64 ra && below 16384 imm
  | .shiLeft c rd ra amount => coreOk c && below 64 rd && below 64 ra && below 32 amount
  | .shiLogicalRight c rd ra amount => coreOk c && below 64 rd && below 64 ra && below 32 amount
  | .shiArithmeticRight c rd ra amount => coreOk c && below 64 rd && below 64 ra && below 32 amount
  | .lui c rd imm => coreOk c && below 64 rd && below (2 ^ 20) imm
  | .rdsr c rd sr => coreOk c && below 64 rd && below 16384 sr
  | .wrsr c ra sr => coreOk c && below 64 ra && below 16384 sr
  | .lw c rd ra imm => coreOk c && below 64 rd && below 64 ra && below 16384 imm
  | .lh c rd ra imm => coreOk c && below 64 rd && below 64 ra && below 16384 imm
  | .lhu c rd ra imm => coreOk c && below 64 rd && below 64 ra && below 16384 imm
  | .lb c rd ra imm => coreOk c && below 64 rd && below 64 ra && below 16384 imm
  | .lbu c rd ra imm => coreOk c && below 64 rd && below 64 ra && below 16384 imm
  | .sw c rd ra imm => coreOk c && below 64 rd && below 64 ra && below 16384 imm
  | .sh c rd ra imm => coreOk c && below 64 rd && below 64 ra && below 16384 imm
  | .sb c rd ra imm => coreOk c && below 64 rd && below 64 ra && below 16384 imm
  | .beq c ra rb off => coreOk c && below 64 ra && below 64 rb && below 16384 off
  | .bne c ra rb off => coreOk c && below 64 ra && below 64 rb && below 16384 off
  | .blt c ra rb off => coreOk c && below 64 ra && below 64 rb && below 16384 off
  | .bge c ra rb off => coreOk c && below 64 ra && below 64 rb && below 16384 off
  | .bltu c ra rb off => coreOk c && below 64 ra && below 64 rb && below 16384 off
  | .bgeu c ra rb off => coreOk c && below 64 ra && below 64 rb && below 16384 off
  | .jal c rd imm => coreOk c && below 64 rd && below (2 ^ 20) imm
  | .jalr c rd ra imm => coreOk c && below 64 rd && below 64 ra && below 16384 imm
  | .lop c ps vd va vb pk gr => coreOk c && below 8 ps && below 32 vd && below 32 va && below 32 vb && below 4 pk && below 64 gr
  | .pld c slot ra imm => coreOk c && below 64 slot && below 64 ra && below 16384 imm
  | .vld c v ga n off => coreOk c && below 32 v && below 64 ga && below 16 n && below 2048 off
  | .vst c v ga n off => coreOk c && below 32 v && below 64 ga && below 16 n && below 2048 off
  | .vins c v g lane => coreOk c && below 32 v && below 64 g && below 16 lane
  | .vext c v g lane => coreOk c && below 32 v && below 64 g && below 16 lane
  | .accZero c v lane => coreOk c && below 32 v && below 16 lane
  | .accRead c v lane => coreOk c && below 32 v && below 16 lane
  | .accWrite c v lane => coreOk c && below 32 v && below 16 lane
  | .lrd c gb gp gx => coreOk c && below 64 gb && below 64 gp && below 64 gx
  | .lwr c gb gp gx => coreOk c && below 64 gb && below 64 gp && below 64 gx
  | .lwp c gb gp gx => coreOk c && below 64 gb && below 64 gp && below 64 gx
  | .crd c gb gp gx => coreOk c && below 64 gb && below 64 gp && below 64 gx
  | .cwr c gb gp gx => coreOk c && below 64 gb && below 64 gp && below 64 gx
  | .hrd c gb gp gx => coreOk c && below 64 gb && below 64 gp && below 64 gx
  | .wopen c gb gp gx => coreOk c && below 64 gb && below 64 gp && below 64 gx
  | .wchk c gb gp gx => coreOk c && below 64 gb && below 64 gp && below 64 gx
  | .hwr c gb gp gx => coreOk c && below 64 gb && below 64 gp && below 64 gx
  | .poolDataLanded core xfer => below 1200 core && below (2 ^ 32) xfer
  | .amo c rd gp gx gs => coreOk c && below 64 rd && below 64 gp && below 64 gx && below 64 gs
  | .fence c => coreOk c
  | .send c first target len port tag => coreOk c && below 64 first && below 64 target && below 8 len && below 8 port && below 256 tag
  | .recv c first hdr len port tag => coreOk c && below 64 first && below 64 hdr && below 8 len && below 8 port && below 256 tag
  | .coreMessage panel => below 60 panel
  | .bar c ra barrier => coreOk c && below 64 ra && below 4 barrier
  | .tchk c cond ra rb fn => coreOk c && below 8 cond && below 64 ra && below 64 rb && below 256 fn
  | .crcb c rd ra imm => coreOk c && below 64 rd && below 64 ra && below 16384 imm
  | .taskEnd c => coreOk c
  | .jobSubmit r action => jobReqOk r && below 4 action
  | .jobCancel r => jobReqOk r
  | .jobPlace => true
  | .quantumExpiry job => below 65536 job
  | .saveComplete job => below 65536 job
  | .restoreComplete job _ => below 65536 job
  | .imageLoaded job => below 65536 job
  | .tlimitCheck job => below 65536 job
  | .gridSaveAll w => whoOk w
  | .routeChange => true
  | .routeDrainComplete => true
  | .acknowledgement src ref refkind delivered sunk endpoint => below 512 src && below 65536 ref && below 4 refkind && below (2 ^ 64) delivered && below (2 ^ 64) sunk && below 512 endpoint
  | .deadEndpointAnswer src ref endpoint => below 512 src && below 65536 ref && below 512 endpoint
  | .creditReturn kind src dst n => below 256 kind && below 512 src && below 512 dst && below 65536 n
  | .waitNotice src ref => below 512 src && below 65536 ref
  | .replyTimeout src ref => below 512 src && below 65536 ref
  | .dramLineRead chan line o => below 24 chan && below (2 ^ 43) line && eccOk o
  | .allBankRefresh chan rank _ => below 24 chan && below 2 rank
  | .pageIdlePrecharge chan bank => below 24 chan && below 128 bank
  | .dimmTempSample _ => true
  | .dramScrubRead chan area line o => below 24 chan && below 3 area && below (2 ^ 43) line && eccOk o
  | .caParityAlert chan replays _ => below 24 chan && below 65536 replays
  | .writeCrcAlert chan replays _ => below 24 chan && below 65536 replays
  | .dramRetire w arg => whoOk w && below (2 ^ 64) arg
  | .dramRetirementStep => true
  | .dramChannelLost chan cause => below 24 chan && below 256 cause
  | .dramLogClear w => whoOk w
  | .farReadFailure tile chunk _ => below (2 ^ 33) tile && below 16 chunk
  | .rebuildComplete tile chunk _ => below (2 ^ 33) tile && below 16 chunk
  | .programFailure chan block => below 32 chan && below (2 ^ 32) block
  | .eraseFailure chan block => below 32 chan && below (2 ^ 32) block
  | .rowFlush group => below 2 group
  | .merge group => below 2 group
  | .bandReclaim group => below 2 group
  | .translationCheckpoint => true
  | .pfail => true
  | .flashChannelLost chan => below 32 chan
  | .flxLossTimeout => true
  | .flxRelock => true
  | .flashRetire w arg => whoOk w && below (2 ^ 64) arg
  | .flashRetirementEnd => true
  | .linkUp link _ rate width => below 16 link && below 256 rate && below 32 width
  | .linkDown link => below 16 link
  | .linkRecovery link => below 16 link
  | .recoveryEnd link _ _ => below 16 link
  | .perst link => below 16 link
  | .decoderCommit ld n hpa size dpa ways => below 128 ld && below 8 n && below (2 ^ 52) hpa && below (2 ^ 52) size && below (2 ^ 49) dpa && below 256 ways
  | .decoderUncommit ld n => below 128 ld && below 8 n
  | .functionLevelReset ld => below 128 ld
  | .cxlReset ld => below 128 ld
  | .setLdAllocations r start _ => mboxOk r && below (2 ^ 8) start
  | .getLdInfo r => mboxOk r
  | .getLdAllocations r start limit => mboxOk r && below (2 ^ 32) start && below (2 ^ 32) limit
  | .getDcRegionConfiguration r => mboxOk r
  | .getDcExtentLists r start count => mboxOk r && below (2 ^ 32) start && below (2 ^ 32) count
  | .unsupportedCommand r opcode => mboxOk r && below 65536 opcode
  | .identifyMemoryDevice r => mboxOk r
  | .getSupportedLogs r => mboxOk r
  | .getLog r _ offset len => mboxOk r && below (2 ^ 32) offset && below (2 ^ 32) len
  | .getEventRecords r log => mboxOk r && below 8 log
  | .clearEventRecords r log _ _ => mboxOk r && below 8 log
  | .getEventInterruptPolicy r => mboxOk r
  | .setEventInterruptPolicy r policy => mboxOk r && below (2 ^ 64) policy
  | .getTimestamp r => mboxOk r
  | .setTimestamp r stamp => mboxOk r && below (2 ^ 64) stamp
  | .getFwInfo r => mboxOk r
  | .transferFw r action offset _ => mboxOk r && below 4 action && below (2 ^ 32) offset
  | .activateFw r action mask => mboxOk r && below 4 action && below (2 ^ 32) mask
  | .getHealthInfo r => mboxOk r
  | .getAlertConfiguration r => mboxOk r
  | .setAlertConfiguration r value => mboxOk r && below (2 ^ 64) value
  | .getPoisonList r dpa len => mboxOk r && below (2 ^ 49) dpa && below (2 ^ 49) len
  | .injectPoison r dpa => mboxOk r && below (2 ^ 49) dpa
  | .clearPoison r dpa data => mboxOk r && below (2 ^ 49) dpa && lineOk data
  | .getDynamicCapacityConfiguration r => mboxOk r
  | .getDynamicCapacityExtentList r start count => mboxOk r && below (2 ^ 32) start && below (2 ^ 32) count
  | .addDynamicCapacityResponse r _ _ => mboxOk r
  | .releaseDynamicCapacity r _ => mboxOk r
  | .releaseComplete ld region => below 128 ld && below 8192 region
  | .dcReleaseTimeout ld region => below 128 ld && below 8192 region
  | .patternBookTunnel r _ => mboxOk r
  | .seamDetect port => below 2 port
  | .seamTrainingEnd port unit flight _ _ _ => below 2 port && below (2 ^ 64) unit && below 65536 flight
  | .seamDownTimeout port => below 2 port
  | .seamLinkDown port cause => below 2 port && below 256 cause
  | .idleFrame port frame => below 2 port && frameOk frame
  | .cellFrame port frame => below 2 port && frameOk frame
  | .dataFrame port frame => below 2 port && frameOk frame
  | .ctrlFrame port frame => below 2 port && frameOk frame
  | .ackForce port => below 2 port
  | .seamReplayTimeout port => below 2 port
  | .spareReq port lane spare sseq => below 2 port && below 16 lane && below 2 spare && below 256 sseq
  | .spareConf port sseq _ => below 2 port && below 256 sseq
  | .spareDone port lane spare sseq => below 2 port && below 16 lane && below 2 spare && below 256 sseq
  | .loopbackRequest port _ => below 2 port
  | .loopbackEcho port _ => below 2 port
  | .seamLoopbackPeriod => true
  | .seamHeartbeat port hseq claim unit time health => below 2 port && below 65536 hseq && below (2 ^ 32) claim && below (2 ^ 64) unit && below (2 ^ 48) time && below (2 ^ 32) health
  | .mwrite port => below 2 port
  | .mpoison port => below 2 port
  | .mack port => below 2 port
  | .fetch port => below 2 port
  | .fdata port => below 2 port
  | .fnak port => below 2 port
  | .claim port => below 2 port
  | .claimAck port => below 2 port
  | .pairJoin port => below 2 port
  | .pairLease port => below 2 port
  | .pairHandover port => below 2 port
  | .pairTakeover port => below 2 port
  | .pairStepdown port => below 2 port
  | .pairRegion port => below 2 port
  | .pairVerify port => below 2 port
  | .pairRsp port => below 2 port
  | .planeAnswer tag cmp _ => below (2 ^ 27) tag && below 3 cmp
  | .planeCommand plane stage tag step line what claim => below 2 plane && below 256 stage && below (2 ^ 27) tag && below 32 step && below (2 ^ 43) line && below 256 what && below (2 ^ 32) claim
  | .mergeWindowExpiry tag => below (2 ^ 27) tag
  | .resolveMarker line failed => below (2 ^ 43) line && below 4 failed
  | .planeHeartbeat plane path => below 2 plane && below 2 path
  | .planeSilence plane path => below 2 plane && below 2 path
  | .takeover plane claim => below 2 plane && below (2 ^ 32) claim
  | .dualIssueWindowEnd => true
  | .planeRetire w arg => whoOk w && below (2 ^ 64) arg
  | .planeRejoin w arg => whoOk w && below (2 ^ 64) arg
  | .copyMarker set => below 16777216 set
  | .mfScrubMarker set _ _ _ => below 16777216 set
  | .panelTest panel _ => below 60 panel
  | .healthRefresh => true
  | .healthClear w => whoOk w
  | .pairHeartbeatSend => true
  | .partnerSilent => true
  | .leaseLapse => true
  | .takingServeStart => true
  | .overlapWindowEnd => true
  | .pairVerifyPeriod => true
  | .pairHandoverCmd w => whoOk w
  | .pairForcePrimary w => whoOk w
  | .pairPartnerUnit w unit => whoOk w && below (2 ^ 64) unit
  | .resyncClaim span => below (2 ^ 32) span
  | .meterRebalance => true
  | .redQueueRetest link => below 16 link
  | .holdRedMemExpiry link => below 16 link
  | .holdYellowExpiry kind link => below 4 kind && below 16 link
  | .bmeterShaperSet w rec => whoOk w && shaperOk rec
  | .pmeterShaperSet w rec => whoOk w && shaperOk rec
  | .bucketLeak source inst => below 256 source && below 65536 inst
  | .tileChecksumFailure tile => below (2 ^ 33) tile
  | .canaryStep o => canaryOk o
  | .errLogClear w => whoOk w
  | .divLogClear w => whoOk w
  | .berthCreate w arg => whoOk w && below (2 ^ 64) arg
  | .berthDelete w arg => whoOk w && below (2 ^ 64) arg
  | .panelAssign w arg => whoOk w && below (2 ^ 64) arg
  | .ldBind w arg => whoOk w && below (2 ^ 64) arg
  | .worldLandingSet w arg => whoOk w && below (2 ^ 64) arg
  | .regionDelete w arg => whoOk w && below (2 ^ 64) arg
  | .regionRemovalEnd region => below 8192 region
  | .permGrant w arg => whoOk w && below (2 ^ 64) arg
  | .permDrainComplete => true
  | .confSet w arg => whoOk w && below (2 ^ 64) arg
  | .getVersion r => spdmOk r
  | .getCapabilities r => spdmOk r
  | .negotiateAlgorithms r asym hash => spdmOk r && below (2 ^ 32) asym && below (2 ^ 32) hash
  | .getDigests r => spdmOk r
  | .getCertificate r slot offset len => spdmOk r && below 256 slot && below 65536 offset && below 65536 len
  | .challenge r slot nonce => spdmOk r && below 256 slot && below (2 ^ 256) nonce
  | .spdmUnsupportedRequest r code => spdmOk r && below 256 code
  | .keyRotate w => whoOk w
  | .rekeyCrossing tile => below (2 ^ 33) tile
  | .rekeySweepComplete berth => below 64 berth
  | .lcToDevelop w rsvd token => whoOk w && below (2 ^ 56) rsvd && tokenOk token
  | .lcToSealed w rsvd token => whoOk w && below (2 ^ 56) rsvd && tokenOk token
  | .lcToReturned w rsvd token => whoOk w && below (2 ^ 56) rsvd && tokenOk token
  | .lcToVoid w rsvd token => whoOk w && below (2 ^ 56) rsvd && tokenOk token
  | .lcUnlock w token => whoOk w && tokenOk token
  | .pairSecret w secret => whoOk w && secretOk secret
  | .fwStage w _ => whoOk w
  | .fwActivate w arg => whoOk w && below (2 ^ 64) arg
  | .fwSvnCommit w => whoOk w
  | .fwRollback w => whoOk w
  | .trialHoldExpiry => true
  | .hello m => tackOk m
  | .auth m => tackOk m
  | .close m => tackOk m
  | .heartbeat m => tackOk m
  | .get m => tackOk m
  | .set m => tackOk m
  | .next m => tackOk m
  | .segBegin m => tackOk m
  | .segData m => tackOk m
  | .segEnd m => tackOk m
  | .pairHb m => tackOk m
  | .pairMsg m => tackOk m
  | .tackIdleTimeout session => below 65536 session
  | .eventHeartbeat => true
  | .getEndpointId src => below 256 src
  | .setEndpointId src op eid => below 256 src && below 256 op && below 256 eid
  | .getMctpVersionSupport src type => below 256 src && below 256 type
  | .getMessageTypeSupport src => below 256 src
  | .diagDataRead w => whoOk w
  | .diagDataWrite w data => whoOk w && lineOk data
  | .powerCap w cap => whoOk w && below 256 cap
  | .controlPeriod power _ vcore => below 65536 power && below 65536 vcore
  | .avsRetry => true
  | .powerOn straps => below (2 ^ 32) straps
  | .warmResetInput => true
  | .restart w arg => whoOk w && below (2 ^ 64) arg
  | .pilotWatchdog => true
  | .bootStepEnd r => bootOk r
  | .landingOpen link => below 16 link
  | .farFormat w => whoOk w
  | .railOutOfTolerance rail => below 7 rail
  | .thermtripRelease => true
  | .unassignedOpcode c word => coreOk c && below (2 ^ 32) word
  | .poolWriteAccepted core xfer => below 1200 core && below (2 ^ 32) xfer
  | .yellowHoldRelease kind link => below 4 kind && below 16 link
  | .blockLockLoss port _ _ => below 2 port
  | .skpOrderedSet port => below 2 port
  | .nakResendTimeout port => below 2 port
  | .spareResend port => below 2 port
  | .loopbackEchoTimeout port => below 2 port
  | .flitError link _ => below 16 link
  | .perstRelease link => below 16 link
  | .porstAssert => true
  | .mgLinkChange port _ => below 2 port
  | .arpRequest port addr src => below 2 port && below (2 ^ 128) addr && below (2 ^ 128) src
  | .neighbourDiscovery port addr src => below 2 port && below (2 ^ 128) addr && below (2 ^ 128) src
  | .icmpEchoRequest port addr src _ => below 2 port && below (2 ^ 128) addr && below (2 ^ 128) src
  | .jtagInstruction _ => true
  | .configRecordWritten => true
  | .mergeComplete group => below 2 group
  | .eraseComplete group => below 2 group
  | .waitNoticeInterval src ref => below 512 src && below 65536 ref

end Sys2Proof
end

