-- ==== Sys2Proof/Certificates/Slice0/Obligations.lean ====
section
/-! DEFINITION. The statements for the provers. Each says what a command does to the state by the numbered rules of the spec. A statement about
a next state says that exec answers it, under conditions on the state and the operands alone, and what it leaves unchanged. -/

open Sys2Proof Sys2Proof.Machine

/-! ## The queue -/

/-- A step takes the command at the front of the queue and carries it out with the queue's rest. -/
def Obligations.StepRunsFrontCommand : Prop :=
  ∀ (c : Instr) (rest : List Instr) (s : State),
    step { s with pending := c :: rest } = exec c { s with pending := rest }
/-! ## Cores: scalar instructions (chapter 8) -/

/-- Table 08.3: each ALU instruction writes the named function of RA and RB to RD and goes on to the next word; shift amounts are
RB[4:0] (R172). -/
def Obligations.ScalarArithmeticResults : Prop :=
  ∀ (c : CoreCtx) (rd ra rb : Nat) (s : State), Ready c s →
    let a := greg (coreOf s c.core) ra
    let b := greg (coreOf s c.core) rb
    let answers (i : Instr) (v : Word) : Prop := ∃ t, exec i s = .next t ∧ WritesG c.core rd v (nextPc (coreOf s c.core)) s t
    answers (.aluAdd c rd ra rb) (a + b) ∧ answers (.aluSub c rd ra rb) (a - b)
    ∧ answers (.aluAnd c rd ra rb) (a &&& b) ∧ answers (.aluOr c rd ra rb) (a ||| b) ∧ answers (.aluXor c rd ra rb) (a ^^^ b)
    ∧ answers (.sll c rd ra rb) (a <<< (b.toNat % 32)) ∧ answers (.srl c rd ra rb) (a >>> (b.toNat % 32))
    ∧ answers (.sra c rd ra rb) (a.sshiftRight (b.toNat % 32))
    ∧ answers (.slt c rd ra rb) (if a.toInt < b.toInt then 1 else 0) ∧ answers (.sltu c rd ra rb) (if a.toNat < b.toNat then 1 else 0)
    ∧ answers (.mul c rd ra rb) (a * b)
    ∧ answers (.mulh c rd ra rb) (BitVec.ofInt 32 (a.toInt * b.toInt / 2 ^ 32))
    ∧ answers (.mulhu c rd ra rb) (BitVec.ofNat 32 (a.toNat * b.toNat / 2 ^ 32))
    ∧ answers (.aluMin c rd ra rb) (if b.toInt < a.toInt then b else a) ∧ answers (.aluMax c rd ra rb) (if a.toInt < b.toInt then b else a)
    ∧ answers (.minu c rd ra rb) (if b.toNat < a.toNat then b else a) ∧ answers (.maxu c rd ra rb) (if a.toNat < b.toNat then b else a)

/-- R171: immediates of 14 bits are sign-extended for ADDI, SLTI and SLTIU and zero-extended for the logic instructions; SHI shifts by
IMM[4:0]; LUI puts 20 bits at [31:12]. -/
def Claims.ScalarImmediateResults : Prop :=
  ∀ (c : CoreCtx) (rd ra imm amount upper : Nat) (s : State), Ready c s → imm < 2 ^ 14 → amount < 32 → upper < 2 ^ 20 →
    let a := greg (coreOf s c.core) ra
    let se : Word := (BitVec.ofNat 14 imm).signExtend 32
    let ze : Word := (BitVec.ofNat 14 imm).zeroExtend 32
    let answers (i : Instr) (v : Word) : Prop := ∃ t, exec i s = .next t ∧ WritesG c.core rd v (nextPc (coreOf s c.core)) s t
    answers (.addi c rd ra imm) (a + se)
    ∧ answers (.andi c rd ra imm) (a &&& ze) ∧ answers (.ori c rd ra imm) (a ||| ze) ∧ answers (.xori c rd ra imm) (a ^^^ ze)
    ∧ answers (.slti c rd ra imm) (if a.toInt < se.toInt then 1 else 0)
    ∧ answers (.sltiu c rd ra imm) (if a.toNat < se.toNat then 1 else 0)
    ∧ answers (.shiLeft c rd ra amount) (a <<< amount) ∧ answers (.shiLogicalRight c rd ra amount) (a >>> amount)
    ∧ answers (.shiArithmeticRight c rd ra amount) (a.sshiftRight amount)
    ∧ answers (.lui c rd upper) (BitVec.ofNat 32 (upper * 4096))

/-- R173: RDSR reads special registers 0 to 6, and a read of number 5 latches TIME48 into TIME (R46); WRSR writes FLAGS[3:0] and nothing
else. -/
def Claims.SpecialRegisterInstructions : Prop :=
  ∀ (c : CoreCtx) (r : Nat) (s : State), Ready c s →
    let k := coreOf s c.core
    let panel := panelOfCore c.core
    let reads (sr : Nat) (v : Nat) : Prop :=
      ∃ t, exec (.rdsr c r sr) s = .next t ∧ (∀ n, greg (coreOf t c.core) n = if n = r ∧ n ≠ 0 then BitVec.ofNat 32 v else greg k n)
        ∧ coreOf t c.core = { k with g := (coreOf t c.core).g, pc := nextPc k, wait := 0, time := if sr = 5 then now s else k.time }
        ∧ OnlyCore c.core s t
    reads 0 c.core ∧ reads 1 panel ∧ reads 2 (panelOf s panel).berth ∧ reads 3 ((jobOfCore s c.core).getD 0) ∧ reads 4 k.flags
    ∧ reads 5 (now s % 2 ^ 32) ∧ reads 6 (k.time / 2 ^ 32)
    ∧ ∃ t, exec (.wrsr c r 4) s = .next t
        ∧ coreOf t c.core = { k with flags := (greg k r).toNat % 16, pc := nextPc k, wait := 0 } ∧ OnlyCore c.core s t

/-- R174: loads read 4, 2 or 1 bytes of local store at RA + IMM, sign- or zero-extended into RD. -/
def Claims.ScalarLoads : Prop :=
  ∀ (c : CoreCtx) (rd ra imm : Nat) (s : State), Ready c s →
    let k := coreOf s c.core
    let addr := effAddr k ra imm
    let answers (i : Instr) (n : Nat) (v : Word) : Prop :=
      Loads s c.core addr n n → ∃ t, exec i s = .next t ∧ WritesG c.core rd v (nextPc k) s t
    let word (n : Nat) : Nat := leNat (lsLoad s c.core addr n)
    answers (.lw c rd ra imm) 4 (BitVec.ofNat 32 (word 4))
    ∧ answers (.lh c rd ra imm) 2 ((BitVec.ofNat 16 (word 2)).signExtend 32) ∧ answers (.lhu c rd ra imm) 2 (BitVec.ofNat 32 (word 2))
    ∧ answers (.lb c rd ra imm) 1 ((BitVec.ofNat 8 (word 1)).signExtend 32) ∧ answers (.lbu c rd ra imm) 1 (BitVec.ofNat 32 (word 1))

/-- R174 and R178: stores write the low bytes of RD, and VST the lanes 0 to N of V, to local store; every other byte reads as before. -/
def Claims.LocalStoreWrites : Prop :=
  ∀ (c : CoreCtx) (rd ra imm v ga n off : Nat) (s : State), Ready c s →
    let k := coreOf s c.core
    let addr := effAddr k ra imm
    let answers (i : Instr) (a align : Nat) (bs : List Byte) : Prop :=
      Stores s c.core a bs.length align → ∃ t, exec i s = .next t ∧ StoresBytes c.core a bs s t
    answers (.sw c rd ra imm) addr 4 (natLE 4 (greg k rd).toNat)
    ∧ answers (.sh c rd ra imm) addr 2 (natLE 2 (greg k rd).toNat)
    ∧ answers (.sb c rd ra imm) addr 1 (natLE 1 (greg k rd).toNat)
    ∧ answers (.vst c v ga n off) (vecAddr k ga off) 4
        ((List.range (n % 16 + 1)).flatMap (fun i => natLE 4 (laneOf k v i).toNat))

/-- Branches add OFF words when the comparison holds and go on to the next word when not; JAL and JALR write the byte address of the next
instruction to RD (Table 08.2). The target lies in local store and is aligned. -/
def Obligations.BranchesAndJumps : Prop :=
  ∀ (c : CoreCtx) (rd ra rb off : Nat) (s : State), Ready c s →
    let k := coreOf s c.core
    let a := greg k ra
    let b := greg k rb
    let inStore (target : Int) : Prop := 0 ≤ target ∧ target < 131072 ∧ target % 4 = 0
    let goes (i : Instr) (link : Nat) (pc : Nat) : Prop :=
      ∃ t, exec i s = .next t ∧ WritesG c.core link (BitVec.ofNat 32 (k.pc * 4 + 4)) pc s t
    let taken : Int := k.pc * 4 + sx 14 off * 4
    let branch (i : Instr) (p : Prop) : Prop := (p → inStore taken → goes i 0 (taken.toNat / 4)) ∧ (¬ p → goes i 0 (nextPc k))
    branch (.beq c ra rb off) (a = b) ∧ branch (.bne c ra rb off) (a ≠ b)
    ∧ branch (.blt c ra rb off) (a.toInt < b.toInt) ∧ branch (.bge c ra rb off) (b.toInt ≤ a.toInt)
    ∧ branch (.bltu c ra rb off) (a.toNat < b.toNat) ∧ branch (.bgeu c ra rb off) (b.toNat ≤ a.toNat)
    ∧ (inStore (k.pc * 4 + sx 20 off * 4) → goes (.jal c rd off) rd ((k.pc * 4 + sx 20 off * 4).toNat / 4))
    ∧ (inStore (effAddr k ra off) → goes (.jalr c rd ra off) rd (effAddr k ra off / 4))

/-- CRCB continues a CRC-32C over the 64-byte block at RA + IMM (R190), and a check trap whose comparison does not hold goes on to the
next word. -/
def Claims.ChecksumAndCheckTrap : Prop :=
  ∀ (c : CoreCtx) (rd ra rb imm cond fn : Nat) (s : State), Ready c s →
    let k := coreOf s c.core
    let addr := effAddr k ra imm
    (Loads s c.core addr 64 64 → ∃ t, exec (.crcb c rd ra imm) s = .next t
      ∧ WritesG c.core rd (BitVec.ofNat 32 (crc32cRaw (greg k rd).toNat (lsLoad s c.core addr 64))) (nextPc k) s t)
    ∧ (cond < 6 → tchkHolds cond (greg k ra) (greg k rb) = false → ∃ t, exec (.tchk c cond ra rb fn) s = .next t
      ∧ coreOf t c.core = { k with pc := nextPc k, wait := 0 } ∧ OnlyCore c.core s t)

/-- A job that goes on for a while after an exception of one of its cores: it is not ending yet, and a core of it still has a pool
transfer outstanding (R209). -/
def Claims.Lingers (s : State) (core ref : Nat) (j : Job) : Prop :=
  jobOfCore s core = some ref ∧ jobOf s ref = some j ∧ j.ending = none ∧ ∃ n ∈ jobCores j, (coreOf s n).xfers ≠ []

/-- R192 and R190: an illegal instruction and a check trap whose comparison holds stop the core with their cause record, and the job
ends with FAULT_CHECK once its transfers have ended. Only the core's stop and the job change. -/
def Obligations.CoreExceptionStopsCoreAndJob : Prop :=
  ∀ (c : CoreCtx) (word cond ra rb fn ref : Nat) (j : Job) (s : State), Ready c s → Claims.Lingers s c.core ref j →
    let k := coreOf s c.core
    let stops (i : Instr) (cause : Cause) : Prop :=
      ∃ t, exec i s = .next t ∧ coreOf t c.core = { k with task := 3, cause := some cause, wait := 0, atBar := none }
        ∧ jobOf t ref = some { j with cause := some cause, causeCore := c.core, ending := some (0x31, cause.cause) }
        ∧ (∀ n, n ≠ c.core → coreOf t n = coreOf s n) ∧ t.regs = s.regs ∧ SameBytes s t
    stops (.unassignedOpcode c word) ⟨1, 0, k.pc, 0, 0⟩
    ∧ (cond < 6 → tchkHolds cond (greg k ra) (greg k rb) = true → stops (.tchk c cond ra rb fn) ⟨8, fn % 256, k.pc, 0, 0⟩)

/-- R171, R173 and R190: immediate arithmetic, the special registers, CRCB and a check trap that does not fire. -/
def Obligations.ImmediatesSpecialRegistersAndChecks : Prop := Claims.ScalarImmediateResults ∧ Claims.SpecialRegisterInstructions ∧ Claims.ChecksumAndCheckTrap

/-- R174 and R178: scalar loads, and the stores of scalars and lanes, to local store. -/
def Obligations.LocalStoreAccesses : Prop := Claims.ScalarLoads ∧ Claims.LocalStoreWrites
/-! ## Cores: lane instructions -/

/-- R151, Table 08.2: VINS writes one lane, VEXT reads one, ACC zeroes, reads and writes an accumulator's 16 lanes of 64 bits through V (low
halves) and V + 1 (high halves). V is even and LANE[3:2] zero for ACC. -/
def Claims.LaneMovesAndAccumulators : Prop :=
  ∀ (c : CoreCtx) (v g lane : Nat) (s : State), Ready c s → lane < 16 →
    let k := coreOf s c.core
    let onlyLanes (t : State) : Prop := coreOf t c.core = { k with v := (coreOf t c.core).v, pc := nextPc k, wait := 0 } ∧ OnlyCore c.core s t
    let onlyAccs (t : State) : Prop := coreOf t c.core = { k with acc := (coreOf t c.core).acc, pc := nextPc k, wait := 0 } ∧ OnlyCore c.core s t
    (∃ t, exec (.vins c v g lane) s = .next t ∧ onlyLanes t
      ∧ ∀ r l, l < 16 → laneOf (coreOf t c.core) r l = if r = v ∧ l = lane then greg k g else laneOf k r l)
    ∧ (∃ t, exec (.vext c v g lane) s = .next t ∧ WritesG c.core g (laneOf k v lane) (nextPc k) s t)
    ∧ (v % 2 = 0 → lane < 4 →
      (∃ t, exec (.accZero c v lane) s = .next t ∧ onlyAccs t
        ∧ ∀ a l, l < 16 → accOf (coreOf t c.core) a l = if a = lane then 0 else accOf k a l)
      ∧ (∃ t, exec (.accRead c v lane) s = .next t ∧ onlyLanes t
        ∧ ∀ r l, l < 16 → laneOf (coreOf t c.core) r l =
            if r = v then BitVec.ofNat 32 (accOf k lane l).toNat
            else if r = v + 1 then BitVec.ofNat 32 ((accOf k lane l).toNat / 2 ^ 32) else laneOf k r l)
      ∧ (∃ t, exec (.accWrite c v lane) s = .next t ∧ onlyAccs t
        ∧ ∀ a l, l < 16 → accOf (coreOf t c.core) a l =
            if a = lane then BitVec.ofNat 64 ((laneOf k v l).toNat + 2 ^ 32 * (laneOf k (v + 1) l).toNat) else accOf k a l))

/-- R178 and R179: VLD fills lanes 0 to N from consecutive words and the lanes above with zero; PLD writes a pattern slot with a word that
passes its checks. -/
def Claims.VectorAndPatternLoads : Prop :=
  ∀ (c : CoreCtx) (v ga n off slot ra imm : Nat) (s : State), Ready c s →
    let k := coreOf s c.core
    let from_ := vecAddr k ga off
    let addr := effAddr k ra imm
    (n < 16 → Loads s c.core from_ (4 * (n + 1)) 4 → ∃ t, exec (.vld c v ga n off) s = .next t
      ∧ coreOf t c.core = { k with v := (coreOf t c.core).v, pc := nextPc k, wait := 0 } ∧ OnlyCore c.core s t
      ∧ ∀ r l, l < 16 → laneOf (coreOf t c.core) r l =
          if r = v then (if l ≤ n then BitVec.ofNat 32 (leAt (lsLoad s c.core from_ (4 * (n + 1))) (4 * l) 4) else 0) else laneOf k r l)
    ∧ (slot < 8 → Loads s c.core addr 8 8 → patOk (leNat (lsLoad s c.core addr 8)) = true → ∃ t, exec (.pld c slot ra imm) s = .next t
      ∧ coreOf t c.core = { k with ps := (coreOf t c.core).ps, pc := nextPc k, wait := 0 } ∧ OnlyCore c.core s t
      ∧ ∀ p, tget none (coreOf t c.core).ps p = if p = slot then some (leNat (lsLoad s c.core addr 8)) else tget none k.ps p)

/-- R153, R155 and R175 to R177: a lane operation of class LOGIC, or ADD on INT32, on unpacked 32-bit elements writes the named function
of the two operands to every enabled lane of VD; a disabled lane keeps its destination, no flag is set, and nothing else changes. -/
def Obligations.LaneOperationResults : Prop :=
  ∀ (c : CoreCtx) (ps vd va vb w : Nat) (s : State), Ready c s → vd < 32 → va < 32 → vb < 32 →
    let k := coreOf s c.core
    let p := patOf w
    tget none k.ps ps = some w → p.df = p.af → p.sbs = false → p.dbs = false →
    let answers (f : Word → Word → Word) : Prop :=
      ∃ t, exec (.lop c ps vd va vb 0 0) s = .next t
        ∧ coreOf t c.core = { k with v := (coreOf t c.core).v, pc := nextPc k, wait := 0 } ∧ OnlyCore c.core s t
        ∧ ∀ r l, l < 16 → laneOf (coreOf t c.core) r l =
            if r = vd ∧ bit p.lmask l = true then f (laneOf k va l) (laneOf k vb l) else laneOf k r l
    (p.cls = 6 → fmtBits p.af = 32 → fmtBits p.bf = 32 →
      (p.subop = 0 → answers (fun a b => a &&& b)) ∧ (p.subop = 1 → answers (fun a b => a ||| b))
      ∧ (p.subop = 2 → answers (fun a b => a ^^^ b)) ∧ (p.subop = 3 → answers (fun a b => a &&& ~~~ b)))
    ∧ (p.cls = 1 → p.af = 8 → p.bf = 8 →
      (p.subop = 0 → answers (fun a b => a + b)) ∧ (p.subop = 1 → answers (fun a b => a - b)))

/-- R151, R178 and R179: moves between lanes, registers and accumulators, and loads of lanes and pattern slots. -/
def Obligations.LaneMovesAndLoads : Prop := Claims.LaneMovesAndAccumulators ∧ Claims.VectorAndPatternLoads
/-! ## Cores: messages, barriers, transfers -/

/-- R185 and R187: SEND appends one message to the neighbour's inbound queue while the link is open and the queue has room, or to the
panel's outbound cells through the weave port; CORE_MESSAGE moves the oldest cell that may leave to its target's weave queue. No byte
of memory changes. -/
def Claims.MessagesAreSent : Prop :=
  ∀ (c : CoreCtx) (first target len port tag n : Nat) (s : State), Ready c s → len < 8 → first + len < 64 →
    let k := coreOf s c.core
    let p := panelOfCore c.core
    let words := (List.range (len + 1)).map (fun i => (greg k (first + i)).toNat)
    let dst := (greg k target).toNat
    let goesOn (t : State) : Prop := coreOf t c.core = { k with pc := nextPc k, wait := 0 } ∧ SameBytes s t
    (port < 4 → neighbour c.core port = some n → n ≠ c.core → linkOpen s c.core n = true → (queueOf s n ((port + 2) % 4)).length < 4 →
      ∃ t, exec (.send c first 0 len port tag) s = .next t ∧ goesOn t
        ∧ (∀ q, queueOf t n q = if q = (port + 2) % 4 then queueOf s n q ++ [⟨c.core, n, tag, words⟩] else queueOf s n q)
        ∧ (∀ m, m ≠ c.core → coreOf t m = { coreOf s m with queues := (coreOf t m).queues }))
    ∧ (dst < 1200 → (panelOf s p).berth = (panelOf s (panelOfCore dst)).berth → (panelOf s p).world = (panelOf s (panelOfCore dst)).world →
      (panelOf s p).outbound.length < 32 → ∃ t, exec (.send c first target len 4 tag) s = .next t ∧ goesOn t
        ∧ panelOf t p = { panelOf s p with outbound := (panelOf s p).outbound ++ [⟨c.core, dst, tag, words⟩] }
        ∧ (∀ m, m ≠ c.core → coreOf t m = coreOf s m))

/-- R186: RECV takes the oldest message of the named queue, or with PORT 5 of the first of N, E, S, W and weave that holds one, into
registers from `first` on, and its header word of Table 08.5 into the second register. With TAG bit 0 set and no message the header is
0. -/
def Claims.MessagesAreReceived : Prop :=
  ∀ (c : CoreCtx) (first hdr tag q : Nat) (m : Msg) (rest : List Msg) (s : State), Ready c s → first ≤ 56 → m.words.length ≤ 8 →
    let k := coreOf s c.core
    let received (i : Instr) : Prop := ∃ t, exec i s = .next t ∧ queueOf t c.core q = rest ∧ (∀ r, r ≠ q → queueOf t c.core r = queueOf s c.core r)
      ∧ (∀ g, greg (coreOf t c.core) g =
          if g = hdr ∧ g ≠ 0 then headerWord m q
          else if first ≤ g ∧ g < first + m.words.length ∧ g ≠ 0 then BitVec.ofNat 32 (m.words.getD (g - first) 0) else greg k g)
      ∧ coreOf t c.core = { k with g := (coreOf t c.core).g, queues := (coreOf t c.core).queues, pc := nextPc k, wait := 0 }
      ∧ OnlyCore c.core s t
    (q < 5 → (q < 4 → ∃ n, neighbour c.core q = some n ∧ linkOpen s c.core n = true) → queueOf s c.core q = m :: rest →
      received (.recv c first hdr 0 q tag))
    ∧ (q < 5 → (∀ r, r < q → queueOf s c.core r = []) → queueOf s c.core q = m :: rest → received (.recv c first hdr 0 5 tag))
    ∧ (tag % 2 = 1 → (∀ r, r < 5 → queueOf s c.core r = []) →
      ∃ t, exec (.recv c first hdr 0 5 tag) s = .next t ∧ WritesG c.core hdr 0 (nextPc k) s t)

/-- R160, R187 and R188: the oldest cell of a panel whose target panel runs and whose target core's weave queue has room arrives there. -/
def Claims.MessageCellsArrive : Prop :=
  ∀ (panel : Nat) (m : Msg) (rest : List Msg) (s : State),
    (panelOf s panel).outbound = m :: rest → (panelOf s (panelOfCore m.dst)).st = 1 → jobRuns s m.dst = true → (queueOf s m.dst 4).length < 8 →
    ∃ t, exec (.coreMessage panel) s = .next t
      ∧ (∀ c q, queueOf t c q = if c = m.dst ∧ q = 4 then queueOf s c q ++ [m] else queueOf s c q)
      ∧ (∀ c, coreOf t c = { coreOf s c with queues := (coreOf t c).queues })
      ∧ (∀ p, panelOf t p = if p = panel then { panelOf s p with outbound := rest } else panelOf s p)
      ∧ rget Obj.PANEL_WEAVE_BYTES_IN (panelOfCore m.dst) t = (rget Obj.PANEL_WEAVE_BYTES_IN (panelOfCore m.dst) s + 48) % 2 ^ 64
      ∧ SameRegsBut (SameReg Obj.PANEL_WEAVE_BYTES_IN (panelOfCore m.dst)) s t ∧ SameBytes s t

/-- R189: a core that arrives at a barrier before the last core of its mask waits there; with the last arrival every core of the mask goes
on to its next word and the barrier resets. -/
def Claims.BarrierReleasesTogether : Prop :=
  ∀ (c : CoreCtx) (ra barrier : Nat) (s : State), Ready c s → barrier < 4 →
    let k := coreOf s c.core
    let p := panelOfCore c.core
    let mask := (greg k ra).toNat
    let arrived := (barOf s p barrier).arrived ||| 2 ^ panelIndex c.core
    mask < 2 ^ 20 → bit mask (panelIndex c.core) = true → ((barOf s p barrier).arrived = 0 ∨ (barOf s p barrier).mask = mask) →
    (∀ n ∈ barCores p mask, (coreOf s n).task = 1) →
    (arrived ≠ mask → ∃ t, exec (.bar c ra barrier) s = .next t ∧ barOf t p barrier = ⟨mask, arrived⟩
      ∧ coreOf t c.core = { k with atBar := some barrier, wait := 4 } ∧ (∀ n, n ≠ c.core → coreOf t n = coreOf s n) ∧ SameBytes s t)
    ∧ (arrived = mask → (barCores p mask).Nodup → ∃ t, exec (.bar c ra barrier) s = .next t ∧ barOf t p barrier = {}
      ∧ coreOf t c.core = { k with pc := nextPc k, wait := 0 }
      ∧ (∀ n, n ∈ barCores p mask → n ≠ c.core → coreOf t n = { coreOf s n with pc := nextPc (coreOf s n), wait := 0, atBar := none })
      ∧ (∀ n, n ∉ barCores p mask → n ≠ c.core → coreOf t n = coreOf s n) ∧ SameBytes s t)

/-- R183 and R191: FENCE and END wait for the core's pool transfers; with none outstanding FENCE goes on, and END ends the core's task while
another task of the job still runs. -/
def Claims.FenceAndEnd : Prop :=
  ∀ (c : CoreCtx) (ref : Nat) (j : Job) (s : State), Ready c s →
    let k := coreOf s c.core
    (k.xfers = [] → ∃ t, exec (.fence c) s = .next t ∧ coreOf t c.core = { k with pc := nextPc k, wait := 0 } ∧ OnlyCore c.core s t)
    ∧ (k.xfers ≠ [] → ∃ t, exec (.fence c) s = .next t ∧ coreOf t c.core = { k with wait := 5 })
    ∧ (k.xfers = [] → (∀ b, b < 4 → (barOf s (panelOfCore c.core) b).arrived = 0) →
      jobOfCore s c.core = some ref → jobOf s ref = some j → (∃ n ∈ jobCores j, n ≠ c.core ∧ (coreOf s n).task = 1) →
      ∃ t, exec (.taskEnd c) s = .next t ∧ coreOf t c.core = { k with task := 2, pc := nextPc k, wait := 0 } ∧ OnlyCore c.core s t)

/-- What a pool transfer asks of its operands and of the core (Table 08.4, R160, R161, R180, R181): the pair GP holds an aligned DPA below
2⁴⁹, GB an aligned local store address with room for the blocks, the berth may access the lines, and with blocks to use each is free and
neither the core nor its panel is at its limit. -/
structure Claims.TransferOk (c gb gp align blocks : Nat) (write : Bool) (s : State) : Prop where
  even : gp % 2 = 0
  dpa : pairOf (coreOf s c) gp < 2 ^ 49 ∧ pairOf (coreOf s c) gp % align = 0
  addr : (greg (coreOf s c) gb).toNat % 64 = 0 ∧ (greg (coreOf s c) gb).toNat + blocks * 64 ≤ lsBytes
  allowed : devMay s (coreBerth s c) (coreWorld s c) (pairOf (coreOf s c) gp / 64) write = true
  free : ∀ i, i < blocks → blkOf (coreOf s c) ((greg (coreOf s c) gb).toNat / 64 + i) = 0
  room : blocks ≠ 0 → atLimit s c (align == 4096) = false

/-- A core has issued a transfer: it is the core's newest, its blocks are in state `st` (1 filling, 2 draining), and nothing else of any core,
panel or memory has changed. -/
structure Claims.Issued (c fn line block n st : Nat) (s u : State) : Prop where
  core : ∃ x : Xfer, x = ⟨(coreOf s c).nextXfer, fn, line, block, 0, n, epochOf s (coreBerth s c), []⟩ ∧
    coreOf u c = { coreOf s c with xfers := (coreOf s c).xfers ++ [x], nextXfer := x.id + 1, blk := (coreOf u c).blk }
  blocks : ∀ b, blkOf (coreOf u c) b = if block ≤ b ∧ b < block + n then st else blkOf (coreOf s c) b
  cores : ∀ k, k ≠ c → coreOf u k = coreOf s k
  panels : u.grid.panels = s.grid.panels
  bytes : u.mem = s.mem

/-- R180 to R183 and Table 08.4: a line or chunk transfer that its checks allow is recorded with its blocks filling or draining, its line
accesses go to their home slices in ascending order, and the core goes on to the next word. LWP writes the bytes that GX names, and a
poison block is written as poison (R163). -/
def Claims.PoolTransfersStart : Prop :=
  ∀ (c : CoreCtx) (gb gp gx : Nat) (s : State), Ready c s →
    let k := coreOf s c.core
    let line := pairOf k gp / 64
    let block := (greg k gb).toNat / 64
    let b := coreBerth s c.core
    let reads (i : Instr) (fn n align : Nat) : Prop := Claims.TransferOk c.core gb gp align n false s →
      ∃ u, Claims.Issued c.core fn line block n 1 s u ∧ exec i s = .next (complete c.core (nextPc k)
        (each (List.range n) (fun j v => devReq (.core c.core k.nextXfer) (line + j) .devRead b v) u))
    let writes (i : Instr) (fn n align : Nat) (mask : List Bool) : Prop := Claims.TransferOk c.core gb gp align n true s →
      ∃ u, Claims.Issued c.core fn line block n 2 s u ∧ exec i s = .next (complete c.core (nextPc k)
        (each (List.range n) (fun j v => devReq (.core c.core k.nextXfer) (line + j)
          (if lsPoisoned s c.core (block + j) = true then .devWrite (List.replicate 64 0) fullMask true
           else .devWrite (lsLoad s c.core (block * 64 + 64 * j) 64) mask false) b v) u))
    reads (.lrd c gb gp 0) 0 1 64 ∧ reads (.crd c gb gp 0) 3 64 4096
    ∧ writes (.lwr c gb gp 0) 1 1 64 fullMask ∧ writes (.cwr c gb gp 0) 4 64 4096 fullMask
    ∧ ((greg k gx).toNat % 64 ≤ (greg k gx).toNat / 256 % 64 →
        writes (.lwp c gb gp gx) 2 1 64 ((List.range 64).map (fun i =>
          decide ((greg k gx).toNat % 64 ≤ i) && decide (i ≤ (greg k gx).toNat / 256 % 64))))

/-- R182: WOPEN starts a watch of the panel on the tile, WCHK reads whether it is intact, and HRD and HWR start a header transfer of the tile
with its block filling or draining, HRD with a watch as well. -/
def Obligations.WatchesAndHeaderTransfers : Prop :=
  ∀ (c : CoreCtx) (gb gp gx : Nat) (s : State), Ready c s →
    let k := coreOf s c.core
    let p := panelOfCore c.core
    let tile := pairOf k gp / 65536
    let block := (greg k gb).toNat / 64
    let others := (panelOf s p).watches.filter (fun w => w.tile != tile)
    let watched : Panel := { panelOf s p with watches := others ++ [⟨tile, decide (watchesAt s (homeOf s tile) < 2048)⟩] }
    (Claims.TransferOk c.core 0 gp 65536 0 false s → watchFull s p tile = false →
      ∃ t, exec (.wopen c 0 gp 0) s = .next t ∧ panelOf t p = watched ∧ (∀ q, q ≠ p → panelOf t q = panelOf s q)
        ∧ coreOf t c.core = { k with pc := nextPc k, wait := 0 } ∧ (∀ n, n ≠ c.core → coreOf t n = coreOf s n) ∧ SameBytes s t)
    ∧ (Claims.TransferOk c.core 0 gp 65536 0 false s → ∃ t, exec (.wchk c 0 gp gx) s = .next t
        ∧ WritesG c.core gx (if (panelOf s p).watches.any (fun w => w.tile == tile && w.intact) then 1 else 0) (nextPc k) s t)
    ∧ (Claims.TransferOk c.core gb gp 65536 1 false s → watchFull s p tile = false →
      ∃ u, panelOf u p = watched ∧ blkOf (coreOf u c.core) block = 1 ∧ u.mem = s.mem
        ∧ (coreOf u c.core).xfers.length = k.xfers.length + 1
        ∧ exec (.hrd c gb gp 0) s = .next (complete c.core (nextPc k) (hdrReady tile false u).1))
    ∧ (Claims.TransferOk c.core gb gp 65536 1 true s →
      ∃ u, panelOf u p = panelOf s p ∧ blkOf (coreOf u c.core) block = 2 ∧ u.mem = s.mem
        ∧ (∃ x, (coreOf u c.core).xfers = k.xfers ++ [x] ∧ x.fn = 8 ∧ x.gx = gx ∧ x.bytes = lsLoad s c.core (block * 64) 64)
        ∧ exec (.hwr c gb gp gx) s = .next (complete c.core (nextPc k) (hdrReady tile true u).1))

/-- R163 and R181: when every line of a read has been served it lands in its blocks with its poison, and a write whose lines are all accepted
ends; the transfer leaves its core and its blocks are free. The job is not ending. -/
def Claims.PoolTransfersEnd : Prop :=
  ∀ (core id ref : Nat) (x : Xfer) (j : Job) (v : Served) (s : State),
    xferOf s core id = some x → x.id = id → x.owed = 1 → s.mf.served.filter (fun u => u.src == .core core id) = [v] → v.line = x.line →
    v.data.length = 64 → jobOfCore s core = some ref → jobOf s ref = some j → j.ending = none →
    let freed (t : State) : Prop :=
      (coreOf t core).xfers = (coreOf s core).xfers.filter (fun y => y.id != id) ∧ blkOf (coreOf t core) x.block = 0
      ∧ (∀ b, b ≠ x.block → blkOf (coreOf t core) b = blkOf (coreOf s core) b) ∧ (∀ n, n ≠ core → coreOf t n = coreOf s n)
    (x.fn = 0 → ∃ t, exec (.poolDataLanded core id) s = .next t ∧ freed t ∧ lsLoad t core (x.block * 64) 64 = v.data
      ∧ lsPoisoned t core x.block = v.poison ∧ SameBytesBut core (x.block * 64) 64 s t)
    ∧ (x.fn = 1 ∨ x.fn = 2 → ∃ t, exec (.poolWriteAccepted core id) s = .next t ∧ freed t ∧ SameBytes s t)

/-- R184: AMO hands the request word of the pair GP, with its operands, to the home slice of the line, and the core holds at the
instruction for its result. -/
def Claims.CoreAtomicStarts : Prop :=
  ∀ (c : CoreCtx) (rd gp gx gs : Nat) (s : State), Ready c s →
    let k := coreOf s c.core
    let w := pairOf k gp
    let addr := bits w 0 49
    let type := bits w 49 4
    let op := bits w 53 6
    gp % 2 = 0 → rd % 2 = 0 → gx % 4 = 0 → bits w 59 5 = 0 → atwPaired op type = true → addr % atwSize type = 0 →
    devMay s (coreBerth s c.core) (coreWorld s c.core) (addr / 64) (op != 0) = true →
    ∃ u, coreOf u c.core = { k with amoWait := some (rd, gs) } ∧ (∀ n, n ≠ c.core → coreOf u n = coreOf s n) ∧ u.mem = s.mem
      ∧ exec (.amo c rd gp gx gs) s = .next (startWait c.core 0
          (devReq (.amo c.core) (addr / 64) (.window op type addr (pairOf k gx) (pairOf k (gx + 2)) 0) (coreBerth s c.core) u))

/-- R152 and R157: while residue checking is on, a result that passes on its one re-run is written as if it had passed at once and the event is
counted; one that fails twice writes nothing, is counted, and the core raises the check trap. -/
def Claims.ResidueChecksCountAndTrap : Prop :=
  ∀ (n rd ra rb : Nat) (s : State), mayIssue s n = true → rget Obj.GRID_RESIDUE_ENABLE 0 s = 1 →
    let p := panelOfCore n
    let k := coreOf s n
    (∃ t, exec (.aluAdd ⟨n, .retried, .ok⟩ rd ra rb) s = .next t
      ∧ (∀ g, greg (coreOf t n) g = if g = rd ∧ g ≠ 0 then greg k ra + greg k rb else greg k g) ∧ (coreOf t n).pc = nextPc k
      ∧ rget Obj.PANEL_RESIDUE_RETRIES p t = (rget Obj.PANEL_RESIDUE_RETRIES p s + 1) % 2 ^ 64 ∧ SameBytes s t)
    ∧ ∃ u, exec (.aluAdd ⟨n, .failed, .ok⟩ rd ra rb) s = .next (raiseExc n 9 0 0 0 u)
      ∧ (∀ m, coreOf u m = coreOf s m)
      ∧ rget Obj.PANEL_RESIDUE_TRAPS p u = (rget Obj.PANEL_RESIDUE_TRAPS p s + 1) % 2 ^ 64 ∧ SameBytes s u

/-- R160 and R185 to R188: messages are sent, cross the weave and are received. -/
def Obligations.MessagesTravel : Prop := Claims.MessagesAreSent ∧ Claims.MessagesAreReceived ∧ Claims.MessageCellsArrive

/-- R183, R189 and R191: barriers, fences and task ends. -/
def Obligations.BarriersFencesAndEnds : Prop := Claims.BarrierReleasesTogether ∧ Claims.FenceAndEnd

/-- R163 and R180 to R183: pool transfers start and end. -/
def Obligations.PoolTransfersRun : Prop := Claims.PoolTransfersStart ∧ Claims.PoolTransfersEnd

/-- R152, R157 and R184: a core starts its atomics, and residue checks count and trap. -/
def Obligations.CoreAtomicsAndResidueChecks : Prop := Claims.CoreAtomicStarts ∧ Claims.ResidueChecksCountAndTrap

/-! ## The Pattern Book's command objects, regions, pace and clocks -/

/-- A command object's write is run: the book is served and no status of Table 21.2 applies. -/
def Claims.Runs (o : Obj) (w : Who) (s : State) : Prop := bookServed s = true ∧ accessStatus o w true s = 0

/-- What a read of a command's result on its path returns (R467, R489). -/
def Claims.resultAt (o : Obj) (path : Nat) (s : State) : Option (List Byte) := tget none s.cmdRes (cmdKey o path)

/-- A result that waits for the configuration record, and for the drain of `change` if it has one (R517). -/
def Claims.Posted (o : Obj) (path v : Nat) (change : Option Nat) (s t : State) : Prop :=
  t.cfg.posts = s.cfg.posts ++ [⟨cmdKey o path, natLE 8 v, none, change, false, change.isNone⟩]

/-- R19, R20 and R423: REGION_CREATE writes the lowest unused region record, LIVE for the plain class and CREATING for a class that
reserves, and posts its number; a creation with a status has that status as its result and no other effect. REGION_LIVE makes a CREATING
region LIVE once its frames are free. REGION_DELETE makes a region RETIRING, and REGION_REMOVAL_END unuses its record and leaves its tiles
ZERO. -/
def Obligations.RegionsComeAndGo : Prop :=
  ∀ (w : Who) (arg region n base : Nat) (s : State),
    let a := createArg arg
    let g := regionOf s region
    (Claims.Runs .REGION_CREATE w s → createStatus s w.secure a = 0 → lowest 8192 (fun n => (regionOf s n).st == 0) = some n →
      baseFor s a = some base → a.cls ≠ 2 →
      ∃ t, exec (.regionCreate w arg) s = .next t ∧ Claims.Posted .REGION_CREATE w.path n none s t ∧ SameBytes s t
        ∧ (∀ k, k ≠ n → regionOf t k = regionOf s k)
        ∧ (let r := regionOf t n
           r.st = (if a.cls = 0 then 2 else 1) ∧ r.base = base ∧ r.size = a.size ∧ r.cls = a.cls ∧ r.owner = a.owner ∧ r.world = a.world
           ∧ r.share = a.share ∧ r.privLd = a.privLd))
    ∧ (∀ st, Claims.Runs .REGION_CREATE w s → createStatus s w.secure a = st → st ≠ 0 → ∃ t, exec (.regionCreate w arg) s = .next t
        ∧ Claims.resultAt .REGION_CREATE w.path t = some (natLE 8 (0xFFFF + st * 65536)) ∧ t.regions = s.regions ∧ t.regs = s.regs ∧ t.mem = s.mem)
    ∧ (g.st = 1 → framesReady s g = true → ∃ t, exec (.regionLive region) s = .next t ∧ regionOf t region = { g with st := 2 }
        ∧ (∀ k, k ≠ region → regionOf t k = regionOf s k) ∧ SameBytes s t)
    ∧ (Claims.Runs .REGION_DELETE w s → region = bits arg 0 13 → g.st = 2 → (g.world = true → w.secure = true) → (berthOf s g.owner).st = 1 →
        ∃ t, exec (.regionDelete w arg) s = .next t ∧ (regionOf t region).st = 3 ∧ (regionOf t region).base = g.base
        ∧ (∀ k, (regionOf s k).st = 2 → k ≠ region → (regionOf t k).st = 2) ∧ Claims.Posted .REGION_DELETE w.path 0 none s t ∧ SameBytes s t)
    ∧ (removalDone s region = true → ∃ t, exec (.regionRemovalEnd region) s = .next t ∧ regionOf t region = {}
        ∧ (∀ k, k ≠ region → regionOf t k = regionOf s k)
        ∧ (∀ b, g.base * 2 ^ 30 ≤ b → b < (g.base + g.size) * 2 ^ 30 → tget 0 t.mem.near b = 0 ∧ tget 0 t.mem.far b = 0)
        ∧ (∀ b, b < g.base * 2 ^ 30 ∨ (g.base + g.size) * 2 ^ 30 ≤ b →
            tget 0 t.mem.near b = tget 0 s.mem.near b ∧ tget 0 t.mem.far b = tget 0 s.mem.far b)
        ∧ t.mem.ls = s.mem.ls)

/-- R31, R34, R35 and R37: at the end of a pace window each block publishes the slowest good reading of its loops, at most 600 when one is
faulty, unless a VCORE step holds it back; a faulty loop counts its windows, and PACE_LOW_WATER keeps the lowest PACE_MIN.
PACE_LOW_WATER_CLEAR takes the present one. -/
def Claims.PaceWindowsPublish : Prop :=
  (∀ (readings : List LoopReading) (block : Nat) (s : State), block < 7 → s.clk.projWindows ≤ 1 → ∃ t, exec (.paceWindowEnd readings) s = .next t
    ∧ paceOf t block = blockPace t block
    ∧ (∀ n, n < 148 → tget 0 t.clk.loopBad n = (match readings.getD n .bad with
        | .pace (_ + 1) => 0
        | _ => tget 0 s.clk.loopBad n + 1))
    ∧ (∀ n p, n < 148 → readings.getD n .bad = .pace (p + 1) → tget 1000 t.clk.loopPace n = p + 1)
    ∧ rget Obj.PACE_LOW_WATER 0 t = min (rget Obj.PACE_LOW_WATER 0 s) (paceMin t) ∧ SameBytes s t)
  ∧ (∀ (readings : List LoopReading) (block : Nat) (s : State), 1 < s.clk.projWindows → ∃ t, exec (.paceWindowEnd readings) s = .next t
    ∧ t.clk.projWindows = s.clk.projWindows - 1 ∧ paceOf t block = paceOf s block ∧ SameBytes s t)
  ∧ (∀ (w : Who) (s : State), Claims.Runs .PACE_LOW_WATER_CLEAR w s → ∃ t, exec (.paceLowWaterClear w) s = .next t
    ∧ rget Obj.PACE_LOW_WATER 0 t = paceMin s ∧ SameRegsBut (SameReg .PACE_LOW_WATER 0) s t ∧ t.clk = s.clk ∧ SameBytes s t)

/-- R40 and R41: the loss of SYSCLK25 puts the islands on the backup oscillator and silences NIX; the loss of a PLL's lock marks the
island, stops TSX in TSX's island and NIX in its own, and the relock lets them go on. -/
def Claims.ClockLossAndRelock : Prop :=
  ∀ (s : State),
    (s.clk.backupOsc = false → ∃ t, exec .sysclk25Loss s = .next t ∧ t.clk = { s.clk with backupOsc := true, nixSilent := true }
      ∧ rget Obj.CLOCK_SOURCE 0 t = 1 ∧ SameBytes s t)
    ∧ (∀ island port, s.boot.held = 0 → island = 5 ∨ island = 6 ∨ island = 7 ∨ island = 8 → ∃ t, exec (.pllLockLoss island port) s = .next t
      ∧ t.clk.unlocked = s.clk.unlocked ||| 2 ^ island ∧ t.clk.nixSilent = (s.clk.nixSilent || island == 5)
      ∧ t.clk.tsxHeld = (s.clk.tsxHeld || island == 7) ∧ t.clk.tsx = s.clk.tsx ∧ SameBytes s t)
    ∧ (∀ island port, s.boot.held = 0 → island < 4 → port < 2 → ∃ t, exec (.pllLockLoss island port) s = .next t
      ∧ bit t.clk.unlocked island = true)
    ∧ (∀ island port, island = 5 ∨ island = 6 ∨ island = 7 ∨ island = 8 → bit s.clk.unlocked island = true →
      let c := { s.clk with unlocked := s.clk.unlocked - 2 ^ island, tsxHeld := s.clk.tsxHeld && island != 7 }
      exec (.pllRelock island port) s = .next { s with clk := { c with nixSilent := if island = 5 then s.clk.backupOsc else s.clk.nixSilent } })

/-- R31 to R41: pace windows, and the loss and return of clocks. -/
def Obligations.PaceAndClocks : Prop := Claims.PaceWindowsPublish ∧ Claims.ClockLossAndRelock

/-! ## Host requests: the landing, the home slice, the atomic window and hints -/

/-- A host request passes its landing with SEQ `seq` at device address `dpa` in region `n` (R26, R305, R314, Table 18.3): its link serves
and its landing is open, it is accepted (leaving `u`), its agent lives, a decoder covers it, the region lies in an accepted extent, the
device has both rights, and the region is not tandem. -/
structure Claims.Lands (ld hpa seq dpa n : Nat) (s u : State) : Prop where
  link : linkAccepts s ld = true
  opened : landingOpen s ld = true
  taken : accept ld s = (some seq, u)
  alive : agentDead s (ldOf s ld).agent = false
  address : translate s ld hpa = some dpa
  region : acceptedRegion s ld (dpa / 64) = some n
  rights : hostRight s ld n rHostR = true ∧ hostRight s ld n rHostW = true
  single : tandemLine s (dpa / 64) = false

/-- What a landing leaves as it is while it passes a request on. -/
structure Claims.LandingOnly (s v : State) : Prop where
  bytes : v.mem = s.mem
  manifest : v.mf = s.mf
  ferry : v.ferry = s.ferry
  regions : v.regions = s.regions
  lds : v.lds = s.lds
  grid : v.grid = s.grid
  sent : v.out = s.out

/-- R49, R305, R306 and R314: a CXL.mem request that its landing lets through goes to the home slice of its line, stamped with the port's
next SEQ, the berth, its epoch and the time; a partial write with poison goes on as a full-line write of poison (R309). -/
def Claims.HostRequestsReachHome : Prop :=
  ∀ (ld tag hpa seq dpa n : Nat) (m : MetaVal) (data : List Byte) (mask : List Bool) (poison : Bool) (s u : State), Claims.Lands ld hpa seq dpa n s u →
    let b := (ldOf s ld).berth
    let h := linkOfLd s ld
    let req (k : ReqKind) : Req := ⟨.host ld tag, trackedAgent s ld, dpa / 64, k, b, epochOf s b, false, h, seq, now s, .cmp⟩
    let reaches (i : Instr) (k : ReqKind) : Prop := unmetered u (req k) = true ∨ (colourReq (memMeters s ld) h 64 none u).colour = 0 →
      ∃ v, exec i s = .next (homeRequest (req k) v) ∧ Claims.LandingOnly s v ∧ tget 0 v.hosts.seq (h / 2) = (seq + 1) % 16777216
    reaches (.memRd ld tag hpa m) (.memRd m) ∧ reaches (.memRdData ld tag hpa) .memRdData ∧ reaches (.memInv ld tag hpa m) (.memInv m)
    ∧ reaches (.memWr ld tag hpa m data poison) (.memWr m data poison)
    ∧ reaches (.memWrPtl ld tag hpa m data mask false) (.memWrPtl m data mask false)
    ∧ reaches (.memWrPtl ld tag hpa m data mask true) (.memWr m (List.replicate 64 0) true)
    ∧ reaches (.memClnEvct ld tag hpa) .clnEvct

/-- R54 and R304: a speculative read takes a SEQ and gets no response; nothing of the memory or the manifest changes. R26 and R314: a
request that no committed decoder covers, or outside every accepted extent, is answered at the landing: a read with poison, a write with its
completion. -/
def Claims.LandingAnswersItself : Prop :=
  ∀ (ld tag hpa seq : Nat) (m : MetaVal) (data : List Byte) (poison : Bool) (s u : State),
    linkAccepts s ld = true → landingOpen s ld = true → accept ld s = (some seq, u) →
    let here (i : Instr) (zeros : Option (List Byte)) (bad : Bool) : Prop := ∃ t load, exec i s = .next t ∧ Claims.LandingOnly { s with out := t.out } t
      ∧ t.out = .memRsp ld tag .cmp zeros bad load :: s.out
    (∃ t, exec (.memSpecRd ld hpa) s = .next t ∧ Claims.LandingOnly s t ∧ tget 0 t.hosts.seq (linkOfLd s ld / 2) = (seq + 1) % 16777216)
    ∧ (agentDead s (ldOf s ld).agent = false → translate s ld hpa = none →
        here (.memRd ld tag hpa m) (some (List.replicate 64 0)) true ∧ here (.memWr ld tag hpa m data poison) none false)
    ∧ (agentDead s (ldOf s ld).agent = true →
        here (.memRd ld tag hpa m) (some (List.replicate 64 0)) true ∧ here (.memWr ld tag hpa m data poison) none false)

/-- A host request of agent `h` finds its home slice ready: its line is in no recall, queue or fetch and I, its tile is resident, no
crossing of it is open and it does not leave a retiring channel, its agent lives and its link serves, a plane leads and a way is free. -/
structure Claims.AtHome (r : Req) (ld tag h : Nat) (s : State) : Prop where
  source : r.src = .host ld tag ∧ r.agent = some h ∧ h < 64 ∧ r.revoked = false
  idle : lineBusy s r.line = false ∧ entryOf s r.line = {}
  alive : agentDead s h = false ∧ agentDead s (ldOf s ld).agent = false
  leads : s.red.stA = 0 ∨ s.red.stB = 0
  way : (freeWay s r.line).isSome = true
  resident : (tagOf s (tileOfLine r.line)).st = 3 ∨ (tagOf s (tileOfLine r.line)).st = 4
  free : crossingOf s (tileOfLine r.line) = none ∧ s.ferry.misses = [] ∧ s.mf.conflicts = [] ∧ tandemLine s r.line = false ∧ leaving s (tileOfLine r.line) = false
  answers : (ldOf s ld).enabled = true ∧ linkServes s (linkOfLd s ld) = true

/-- Table 03.3 from state I: MemRd S, MemRdData and MemInv S leave the requester a sharer and answer Cmp-S, MemRd A and MemInv A make it
the owner and answer Cmp-E, MemRd I leaves the line I; a read returns the line's 64 bytes and its poison. A write leaves the line I with the
bytes it names written, a full-line write setting the poison mark to its own (R396). -/
def Obligations.HomeSliceServesLinesInI : Prop :=
  ∀ (r : Req) (ld tag h : Nat) (s : State), Claims.AtHome r ld tag h s →
    let t := homeRequest r s
    let e := entryOf t r.line
    let answered (c : Cmp) (data : Option (List Byte)) (bad : Bool) : Prop := ∃ load, t.out = .memRsp ld tag c data bad load :: s.out
    let bytes := some (nearLine s r.line)
    let bad := nearPoisoned s r.line
    let shares : Prop := e.st = .s ∧ e.sharers = withAgent 0 h
    let owns : Prop := e.st = .o ∧ e.owner = h
    (r.kind = .memRd .s ∨ r.kind = .memRdData → answered .cmpS bytes bad ∧ shares ∧ t.mem = s.mem)
    ∧ (r.kind = .memInv .s → answered .cmpS none false ∧ shares ∧ t.mem = s.mem)
    ∧ (r.kind = .memRd .a → answered .cmpE bytes bad ∧ owns ∧ t.mem = s.mem)
    ∧ (r.kind = .memInv .a → answered .cmpE none false ∧ owns ∧ t.mem = s.mem)
    ∧ (r.kind = .memRd .i → answered .cmp bytes bad ∧ e = {} ∧ t.mem = s.mem)
    ∧ (r.kind = .memInv .i ∨ r.kind = .clnEvct → answered .cmp none false ∧ e = {} ∧ t.mem = s.mem)
    ∧ (∀ m d, r.kind = .memWr m d false → d.length = 64 → answered .cmp none false ∧ e = {} ∧ nearLine t r.line = d
        ∧ nearPoisoned t r.line = false ∧ (tagOf t (tileOfLine r.line)).st = 4
        ∧ (∀ a, a < r.line * 64 ∨ r.line * 64 + 64 ≤ a → tget 0 t.mem.near a = tget 0 s.mem.near a) ∧ t.mem.far = s.mem.far ∧ t.mem.ls = s.mem.ls)
    ∧ (∀ m d, r.kind = .memWr m d true → answered .cmp none false ∧ e = {} ∧ nearPoisoned t r.line = true)

/-- Table 03.3 and R60: a request for a line that another live agent owns starts its recall: the entry enters RO, the owner gets the
back-invalidation that the request's kind asks for under a free credit, and the recall keeps the request. -/
def Claims.OwnedLinesAreRecalled : Prop :=
  ∀ (r : Req) (ld tag h g : Nat) (e : MfEntry) (s : State), r.src = .host ld tag → r.agent = some h → h ≠ g → r.revoked = false →
    lineBusy s r.line = false → entryOf s r.line = e → e.st = .o → e.owner = g → e.atomic = 0 → agentDead s g = false → agentDead s h = false →
    (s.red.stA = 0 ∨ s.red.stB = 0) → recallsFull s = false → tget 0 s.weave.snpUsed (portOfAgent s g) < 512 →
    let t := homeRequest r s
    let recalls (k : Snp) : Prop := entryOf t r.line = { e with st := .ro } ∧ recallOf t r.line = some ⟨k, .request r, now s, false, false, 0⟩
      ∧ t.out = .bisnp g r.line k :: s.out ∧ t.mem = s.mem ∧ t.ferry = s.ferry
    (r.kind = .memRd .s ∨ r.kind = .memRdData ∨ r.kind = .memInv .s → recalls .data)
    ∧ (r.kind = .memRd .a ∨ r.kind = .memInv .a → recalls .inv) ∧ (r.kind = .memRd .i → recalls .cur)

/-- R53 and R54: an answer that no recall waits for is counted as a protocol anomaly and has no other effect; the last sharer's BIRspI ends
its recall and frees the entry, and an owner's answer leaves what it keeps. R58: a conflict on a line whose recall waits for the agent is
acknowledged at once. R52: a re-map marker passes its set, the entries of other sets standing as they are. R85: a decay marker lowers C of
every untouched AHT record by 1 and drops those at 0. -/
def Claims.RecallsAndMarkers : Prop :=
  ∀ (agent line set : Nat) (resp : BiResp) (wb : Option (List Byte)) (rc : Recall) (s : State),
    (recallOf s line = none → exec (.biRsp agent line resp wb) s = .next (rinc Obj.MF_PROTOCOL_ANOMALIES 0 s))
    ∧ (recallOf s line = some rc → rc.why = .sweep → owesAnswer (entryOf s line) agent = true → answerFits rc.kind resp (entryOf s line).st = true →
        (entryOf s line).st = .ro → agent < 64 → s.mf.waits = [] → (s.red.stA = 0 ∨ s.red.stB = 0) →
        ∃ t, exec (.biRsp agent line resp none) s = .next t ∧ recallOf t line = none ∧ t.mem = s.mem
          ∧ (entryOf t line).st = (match resp with
              | .i => .free
              | .s => .s
              | .e => .o))
    ∧ (owesAnswer (entryOf s line) agent = true → orderedFirst s agent line = false →
        exec (.biConflict agent line) s = .next (emit (.conflictAck agent line) s))
    ∧ (s.mf.newK ≠ s.mf.setK → set ∉ s.mf.remapDone → set < 2097152 * s.mf.setK → s.mf.remapDone.length + 1 ≠ 2097152 * s.mf.setK →
        linesWhere s (fun l _ => setAt s.mf.setK l == set) = [] →
        exec (.manifestRemapMarker set) s = .next { s with mf := { s.mf with remapDone := set :: s.mf.remapDone } })
    ∧ (s.red.stA = 0 → ∃ t, exec .predDecayMarker s = .next t ∧ t = { s with mf := t.mf } ∧ t.mf.planeA.entries = s.mf.planeA.entries
        ∧ (∀ l a, (l, a) ∈ t.mf.planeA.aht ↔ ∃ b, (l, b) ∈ s.mf.planeA.aht ∧ ((b.touched = true ∧ a = { b with touched := false })
            ∨ (b.touched = false ∧ 1 < b.c ∧ a = { b with c := b.c - 1 }))))

/-- R61, R65, R66 and R69: an agent that leaves a recall unanswered is dead, and the recall completes as if it had answered BIRspI; at the
end of the sweep it is dead-fenced and an error record of SOURCE 0xA6 holds the cause of its death in DETAIL
(log entry 17). DEAD_POISON_LOG_CLEAR empties the log (R68). -/
def Obligations.DeadAgentsAreResolved : Prop :=
  ∀ (agent line ld : Nat) (rc : Recall) (w : Who) (s : State),
    ((agentOf s agent).st = 1 → s.mf.waits = [] → s.meters.held = [] → s.weave.snpWait = [] → (s.red.stA = 0 ∨ s.red.stB = 0) → recallOf s line = some rc → rc.why = .sweep →
      rc.keep = 0 → agent < 64 → (entryOf s line).st = .rs → (entryOf s line).sharers = withAgent 0 agent →
      linesWhere s (fun _ e => owesAnswer e agent) = [line] →
      ∃ t, exec (.bisnpTimeout agent line) s = .next t ∧ (agentOf t agent).st = 2 ∧ (agentOf t agent).cause = 2 ∧ (agentOf t agent).time = now s
        ∧ (entryOf t line).st = .free ∧ recallOf t line = none ∧ (∀ a, a ≠ agent → agentOf t a = agentOf s a) ∧ t.mem = s.mem)
    ∧ ((agentOf s agent).st = 2 → (agentOf s agent).reviveDue = false → (agentOf s agent).poisoned = 0 → s.mf.waits = [] →
      linesWhere s (fun _ e => owesAnswer e agent) = [] →
      linesWhere s (fun _ e => (e.st == .o && e.owner == agent) || (e.st == .s && e.sharers.getLsbD agent)) = [] →
      ldOfAgent s agent = some ld → (ldOf s ld).leaving = false → s.errs.log.length < 4096 →
      ∃ t r, exec (.deadAgentSweepEnd agent) s = .next t ∧ agentOf t agent = { agentOf s agent with st := 3 } ∧ (∀ a, a ≠ agent → agentOf t a = agentOf s a)
        ∧ t.errs.log = s.errs.log ++ [r] ∧ r.source = 0xA6 ∧ r.inst = 0 ∧ r.detail = (agentOf s agent).cause ∧ t.mem = s.mem)
    ∧ (Claims.Runs .DEAD_POISON_LOG_CLEAR w s → ∃ t, exec (.deadPoisonLogClear w) s = .next t ∧ t.mf = { s.mf with deadLog := [] }
      ∧ t.regs = s.regs ∧ t.mem = s.mem)

/-- R26, R54, R304 to R306 and R314: a landing passes a request on or answers it itself. -/
def Obligations.LandingsPassOrAnswer : Prop := Claims.HostRequestsReachHome ∧ Claims.LandingAnswersItself

/-- R52 to R54, R58, R60 and R85: recalls start, take their answers and end, and the markers pass. -/
def Obligations.RecallsRunToTheirEnd : Prop := Claims.OwnedLinesAreRecalled ∧ Claims.RecallsAndMarkers

/-- R73, R74, R78 and R80: a window request that passes its landing fills the slot's record (PENDING, SEQ raised by 1, its operands or those
an earlier write left) and goes to the home slice of its line with its operation code. -/
def Claims.WindowRequestsStart : Prop :=
  ∀ (r : AtwReq) (seq n : Nat) (s u : State), linkAccepts s r.ld = true → accept r.ld s = (some seq, u) → (atwOf s r.ld r.slot).busy = false →
    agentDead s (ldOf s r.ld).agent = false → r.full = true → r.rsvd = 0 → r.type < 16 → r.addr < 2 ^ 49 → atwSize r.type ≠ 0 → r.addr % atwSize r.type = 0 →
    acceptedRegion s r.ld (r.addr / 64) = some n → worldReaches s (ldWorld s r.ld) n = true → hostRight s r.ld n rHostR = true →
    hostRight s r.ld n rHostW = true → tandemLine s (r.addr / 64) = false →
    let b := (ldOf s r.ld).berth
    let h := linkOfLd s r.ld
    let a := atwOf s r.ld r.slot
    let o1 := r.op1.getD a.op1
    let o2 := r.op2.getD a.op2
    let starts (i : Instr) (op : Nat) : Prop :=
      (colourReq [berthMeter b 1] h 1 none s).colour = 0 →
      ∃ v, exec i s = .next (homeRequest ⟨.atw r.ld r.slot, trackedAgent s r.ld, r.addr / 64, .window op r.type r.addr o1 o2 0, b, epochOf s b,
          false, h, seq, now s, .cmp⟩ v)
        ∧ Claims.LandingOnly s v ∧ (∀ l k, ¬ (l * 512 + k = r.ld * 512 + r.slot) → atwOf v l k = atwOf s l k)
        ∧ (let z := atwOf v r.ld r.slot
           z.busy = true ∧ z.status = 1 ∧ z.seq = (a.seq + 1) % 65536 ∧ z.op1 = o1 ∧ z.op2 = o2 ∧ z.txn = seq
           ∧ z.reqWord = r.addr + 2 ^ 49 * r.type + 2 ^ 53 * op)
    starts (.atwLoad r) 0 ∧ starts (.atwStore r) 1 ∧ starts (.atwSwap r) 2 ∧ starts (.atwCas r) 3 ∧ starts (.atwAdd r) 4 ∧ starts (.atwMin r) 5
    ∧ starts (.atwMax r) 6
    ∧ (8 ≤ r.type → starts (.atwAnd r) 7 ∧ starts (.atwOr r) 8 ∧ starts (.atwXor r) 9 ∧ starts (.atwAddCap r) 10)

/-- R76 and Table 04.1: a read of a slot that has ended returns its status word and result at once, one of a busy slot is held; at
ATW_HOLD's end the reads held on the slot are answered as PENDING and counted. -/
def Claims.WindowStatusReads : Prop :=
  ∀ (ld slot tag seq : Nat) (s u : State), linkAccepts s ld = true → accept ld s = (some seq, u) →
    let a := atwOf s ld slot
    let mine := s.atw.reads.filter (fun h => h.ld == ld && h.slot == slot)
    let word := a.status + 256 * a.flags + 4096 * a.pred + 65536 * a.colour + 16777216 * a.seq
    (a.busy = false → ∃ t, exec (.atwStatusRead ld slot tag) s = .next t ∧ t.atw = s.atw ∧ t.mem = s.mem
      ∧ t.out = .atwRead ld slot tag word a.result :: s.out)
    ∧ (a.busy = true → ∃ t, exec (.atwStatusRead ld slot tag) s = .next t ∧ t.atw = { s.atw with reads := s.atw.reads ++ [⟨ld, slot, tag⟩] }
      ∧ t.out = s.out ∧ t.mem = s.mem)
    ∧ ∃ t, exec (.atwHoldExpiry ld slot) s = .next t ∧ t.atw.slots = s.atw.slots ∧ t.mem = s.mem
      ∧ (∀ h, h ∈ t.atw.reads ↔ h ∈ s.atw.reads ∧ ¬ (h.ld = ld ∧ h.slot = slot))
      ∧ (mine ≠ [] → rget Obj.ATW_PENDING_READS ld t = (rget Obj.ATW_PENDING_READS ld s + mine.length) % 2 ^ 64)
      ∧ (∀ h ∈ mine, .atwRead ld slot h.tag word a.result ∈ t.out)

/-- A home execution is ready to run: it is the line's first, its tile is resident, not crossing and not leaving a retiring channel, its line is not poisoned, nothing waits
for the line or its tile, and the line's region is not tandem. -/
structure Claims.AtFfu (r : Req) (s : State) : Prop where
  first : s.mf.ready.find? (fun q => q.line == r.line) = some r
  resident : (tagOf s (tileOfLine r.line)).st = 3 ∨ (tagOf s (tileOfLine r.line)).st = 4
  still : crossingOf s (tileOfLine r.line) = none ∧ s.ferry.misses = [] ∧ s.mf.waits = [] ∧ s.boot.flush = none ∧ s.ferry.hints = [] ∧ leaving s (tileOfLine r.line) = false
  sound : nearPoisoned s r.line = false
  single : tandemLine s r.line = false

/-- R78, R79, R88 and Table 04.6: a home execution reads, computes and writes in one step; the slot's record takes the old value, DONE or,
for a compare-and-swap or a capped add that does not match, DONE_NOMATCH, and the line only the new bytes. Here for the integer types, on a
window slot. A failed residue check leaves the line and posts CHECK (R91). -/
def Obligations.HomeExecutionsRun : Prop :=
  ∀ (r : Req) (ld slot op type addr op1 op2 colour : Nat) (s : State), Claims.AtFfu r s → r.src = .atw ld slot →
    r.kind = .window op type addr op1 op2 colour → addr / 64 = r.line → addr % atwSize type = 0 → 8 ≤ type → atwPaired op type = true →
    let n := atwSize type
    let w := 2 ^ (8 * n)
    let old := leNat (loadBytes s.mem.near addr n)
    let a := op1 % w
    let c := op2 % w
    let ends (code new flags : Nat) : Prop := ∃ t, exec (.homeExecution r.line true) s = .next t
      ∧ (let z := atwOf t ld slot
         z.busy = false ∧ z.status = code ∧ z.result = old ∧ z.flags = flags)
      ∧ leNat (loadBytes t.mem.near addr n) = new
      ∧ (∀ x, x < addr ∨ addr + n ≤ x → tget 0 t.mem.near x = tget 0 s.mem.near x) ∧ t.mem.far = s.mem.far ∧ t.mem.ls = s.mem.ls
    let less (x y : Nat) : Prop := intVal type x < intVal type y
    (op = 0 → ends 2 old 0) ∧ (op = 1 ∨ op = 2 → ends 2 a 0) ∧ (op = 3 → old = c → ends 2 a 0) ∧ (op = 3 → old ≠ c → ends 3 old 0)
    ∧ (op = 4 → ∃ flags, ends 2 ((old + a) % w) flags)
    ∧ (op = 5 → (less a old → ends 2 a 0) ∧ (¬ less a old → ends 2 old 0)) ∧ (op = 6 → (less old a → ends 2 a 0) ∧ (¬ less old a → ends 2 old 0))
    ∧ (op = 7 → ends 2 (old &&& a) 0) ∧ (op = 8 → ends 2 (old ||| a) 0) ∧ (op = 9 → ends 2 (old ^^^ a) 0)
    ∧ (op = 10 → (intVal type old + intVal type a ≤ intVal type c → ∃ flags, ends 2 ((old + a) % w) flags)
        ∧ (intVal type c < intVal type old + intVal type a → ends 3 old 0))
    ∧ ∃ t, exec (.homeExecution r.line false) s = .next t ∧ (atwOf t ld slot).status = 0x15 ∧ (atwOf t ld slot).busy = false ∧ t.mem = s.mem

/-- R123, R124 and Table 05.11: a hint that passes its landing fills its slot's record (SEQ raised by 1, its word) and starts on its tiles; a
misformed one ends with BAD_REQUEST. R125: a stage hold's end takes STAGE off its tile. -/
def Obligations.HintsStart : Prop :=
  ∀ (r : HintReq) (seq : Nat) (s u : State), linkAccepts s r.ld = true → accept r.ld s = (some seq, u) →
    (hintOf s (hintKey r.ld r.slot)).busy = false → agentDead s (ldOf s r.ld).agent = false → r.tile < 2 ^ 33 → r.count < 65536 →
    r.ld < 128 → r.slot < 64 →
    let k := hintKey r.ld r.slot
    let b := (ldOf s r.ld).berth
    let h := linkOfLd s r.ld
    let old := hintOf s k
    let goes (i : Instr) (kind : Nat) : Prop :=
      (r.full = true → r.rsvd = 0 → (colourReq [berthMeter b 2] h (r.count + 1) none s).colour = 0 →
        hintCheck r.ld kind r (r.hold.getD old.hold) s = none →
        ∃ v, exec i s = .next (startHint k v) ∧ Claims.LandingOnly { s with ferry := { s.ferry with hints := v.ferry.hints } } v
          ∧ hintOf v k = ⟨r.tile + 2 ^ 33 * r.count + 2 ^ 49 * kind, r.hold.getD old.hold, 1, 0, (old.seq + 1) % 65536, 0, 0, true, kind, []⟩
          ∧ (∀ j, j ≠ k → hintOf v j = hintOf s j))
      ∧ (r.full = false → ∃ t, exec i s = .next t ∧ (hintOf t k).status = 0x11 ∧ (hintOf t k).busy = false
          ∧ (∀ j, j ≠ k → hintOf t j = hintOf s j) ∧ t.mem = s.mem ∧ t.ferry.tags = s.ferry.tags)
    (goes (.hintPromote r) 0 ∧ goes (.hintDemote r) 1 ∧ goes (.hintStage r) 2 ∧ goes (.hintPin r) 3 ∧ goes (.hintUnpin r) 4 ∧ goes (.hintUnstage r) 5)
    ∧ (∀ tile, (tagOf s tile).stage = true → ∃ t, exec (.stageExpiry tile) s = .next t ∧ t.mem = s.mem
        ∧ tagOf t tile = { tagOf s tile with stage := false, expiry := 0 } ∧ (∀ x, x ≠ tile → tagOf t x = tagOf s x))

/-- R73 to R80 and Table 04.1: window requests start, and their slots are read. -/
def Obligations.WindowRequestsRun : Prop := Claims.WindowRequestsStart ∧ Claims.WindowStatusReads

/-! ## Tiles, the ferry and extents -/

/-- Nothing waits that a tile's change could let go on: no near-shore access, no home-slice waiter, no hint, no flush. -/
def Claims.Calm (s : State) : Prop := s.ferry.misses = [] ∧ s.mf.waits = [] ∧ s.ferry.hints = [] ∧ s.boot.flush = none

/-- Every near-shore byte but the `n` from `a` on, every far byte and every local store byte reads as before. -/
def Claims.NearBut (a n : Nat) (s t : State) : Prop :=
  (∀ x, x < a ∨ a + n ≤ x → tget 0 t.mem.near x = tget 0 s.mem.near x) ∧ t.mem.far = s.mem.far ∧ t.mem.ls = s.mem.ls

/-- R104 and R105: a chunk of a promotion comes in: the lines not VALID yet take the far copy's bytes, the chunk's lines are VALID, and the
crossing goes on to the next chunk; the last one makes the tile resident, NEAR_CLEAN or, when it was written meanwhile, NEAR_DIRTY. -/
def Obligations.PromotionsPlaceChunks : Prop :=
  ∀ (tile chunk : Nat) (c : Crossing) (s : State), Claims.Calm s → crossingOf s tile = some c → c.kind = .promote → slotsNeeded c ≤ c.held → c.next = chunk →
    chunk < 16 → bit c.placed chunk = false → c.rebuilding = none → (farOf s tile).kind = 1 → (farOf s tile).stale = false →
    keyMismatch s tile (farOf s tile).hdr.kslot (farOf s tile).hdr.kgen = false → (flashOf s (farOf s tile).chan).st = 3 → (tagOf s tile).st = 2 →
    let g := tagOf s tile
    let placed := c.placed ||| 2 ^ chunk
    let bytes (t : State) : Prop := Claims.NearBut ((tile * 1024 + chunk * 64) * 64) 4096 s t
      ∧ ∀ n, chunk * 64 ≤ n → n < chunk * 64 + 64 → mapBit g.valid n = false → tget false s.mem.farPoison (tile * 1024 + n) = false →
        nearLine t (tile * 1024 + n) = loadBytes s.mem.far ((tile * 1024 + n) * 64) 64 ∧ nearPoisoned t (tile * 1024 + n) = false
    (placed ≠ 65535 → ∃ t, exec (.chunkPlaced tile chunk false) s = .next t ∧ bytes t
      ∧ crossingOf t tile = some { c with placed := placed, next := nextChunk placed chunk }
      ∧ tagOf t tile = { g with valid := g.valid ||| chunkMask chunk } ∧ (∀ x, x ≠ tile → tagOf t x = tagOf s x))
    ∧ (placed = 65535 → ∃ t, exec (.chunkPlaced tile chunk false) s = .next t ∧ bytes t
      ∧ t.ferry.crossings.length + 1 = s.ferry.crossings.length
      ∧ (tagOf t tile).st = (if g.dirty = 0 then 3 else 4) ∧ (tagOf t tile).valid = BitVec.allOnes 1024
      ∧ rget Obj.FERRY_PROMOTIONS 0 t = (rget Obj.FERRY_PROMOTIONS 0 s + 1) % 2 ^ 64)

/-- R106, R111, R132 and R283: a demotion that commits replaces the tile's far copy by what it read; an evicting one leaves the tile without
a frame and its near bytes empty, a cleaning leaves it resident, NEAR_CLEAN unless it was written meanwhile. -/
def Obligations.DemotionsCommit : Prop :=
  ∀ (tile : Nat) (c : Crossing) (s : State), Claims.Calm s → crossingOf s tile = some c → slotsNeeded c ≤ c.held → logFull s = false →
    farTakes s = true → demotionFails c s = false → poisonFits s c.snapPoison = true → (writeFar tile c s).isSome = true →
    let g := tagOf s tile
    let copied (t : State) : Prop := t.ferry.crossings.length + 1 = s.ferry.crossings.length ∧ t.mem.ls = s.mem.ls
      ∧ (∀ x, tile * 65536 ≤ x → x < tile * 65536 + 65536 → tget 0 t.mem.far x = tget 0 c.snap x)
      ∧ (∀ x, x < tile * 65536 ∨ tile * 65536 + 65536 ≤ x → tget 0 t.mem.far x = tget 0 s.mem.far x ∧ tget 0 t.mem.near x = tget 0 s.mem.near x)
    (c.kind = .evict → ∃ t, exec (.farCopyCommit tile) s = .next t ∧ copied t ∧ (tagOf t tile).st = 0
      ∧ (∀ x, tile * 65536 ≤ x → x < tile * 65536 + 65536 → tget 0 t.mem.near x = 0) ∧ (∀ x, x ≠ tile → tagOf t x = tagOf s x)
      ∧ rget Obj.FERRY_DEMOTIONS 0 t = (rget Obj.FERRY_DEMOTIONS 0 s + 1) % 2 ^ 64)
    ∧ (c.kind = .clean → ∃ t, exec (.farCopyCommit tile) s = .next t ∧ copied t ∧ (tagOf t tile).st = (if g.dirty = 0 then 3 else 4)
      ∧ t.mem.near = s.mem.near ∧ (∀ x, x ≠ tile → tagOf t x = tagOf s x)
      ∧ rget Obj.FERRY_CLEANINGS 0 t = (rget Obj.FERRY_CLEANINGS 0 s + 1) % 2 ^ 64)

/-- R102 and R119 to R121: a tile recall that left no copy clears HELD; a channel's eviction sweep drops a clean unheld tile when its level
asks for one; an age tick raises AGE of the tiles no access touched and clears it in the others. R110: a freed slot goes to a waiting crossing, and
one that waited too long is aged. R397: a failed check of a sealed tile holds it back and recalls it. -/
def Obligations.FerryEvents : Prop :=
  ∀ (tile chan endpoint : Nat) (p : Nat × Tag) (c : Crossing) (s : State),
    (Claims.Calm s → s.mf.tileRecalls = [tile] → tileLines s tile = [] → (tagOf s tile).st = 3 ∨ (tagOf s tile).st = 4 → (tagOf s tile).checking = false →
      ∃ t, exec (.tileRecallComplete tile) s = .next t ∧ t.mf.tileRecalls = [] ∧ tagOf t tile = { tagOf s tile with held := false }
        ∧ (∀ x, x ≠ tile → tagOf t x = tagOf s x) ∧ t.mem = s.mem)
    ∧ (s.ferry.misses = [] → (∀ q ∈ s.regions, q.2.displaced = []) → (chanOf s chan).st = 3 → freeFrames s chan + leavingFrames s chan < freeLow s chan →
      (sweepOrder s chan).filter (mayEvict s) = [p] → tagOf s p.1 = p.2 → p.2.st = 3 → p.2.ref = false → heldNow s p.1 = false → (farOf s p.1).stale = false →
      ∃ t, exec (.evictionSweep chan) s = .next t ∧ (tagOf t p.1).st = 0 ∧ tget 0 t.ferry.sweepAt chan = p.2.frame + 1
        ∧ (∀ x, x ≠ p.1 → tagOf t x = tagOf s x) ∧ rget Obj.FERRY_DROPS 0 t = (rget Obj.FERRY_DROPS 0 s + 1) % 2 ^ 64
        ∧ Claims.NearBut (p.1 * 65536) 65536 s t)
    ∧ (rget Obj.FERRY_DEMOTE_AGE 0 s = 0 → (s.ferry.tags.map (·.1)).Nodup → (∀ q ∈ s.ferry.tags, tagOf s q.1 = q.2) → p ∈ s.ferry.tags →
      p.2.st ≠ 0 → p.2.rsv = false → (chanOf s p.2.home).st = 3 →
      ∃ t, exec .ageTick s = .next t ∧ tagOf t p.1 = { p.2 with age := if p.2.accessed then 0 else min 255 (p.2.age + 1), accessed := false }
        ∧ t.mem = s.mem)
    ∧ (s.ferry.crossings = [c] → c.waiting = true → nextEndpoint c = endpoint → (slotFor s c endpoint).isSome = true → c.held < slotsNeeded c →
      ∃ t d, exec (.slipwaySlotGranted endpoint) s = .next t ∧ crossingOf t c.tile = some d ∧ c.held < d.held ∧ t.mem = s.mem)
    ∧ (crossingOf s tile = some c → c.waiting = true → nextEndpoint c = endpoint → ∃ t, exec (.slipwayAgingLimit endpoint tile) s = .next t
        ∧ crossingOf t tile = some { c with aged := true } ∧ t = { s with ferry := { s.ferry with crossings := t.ferry.crossings } })
    ∧ ((tagOf s tile).st = 3 ∨ (tagOf s tile).st = 4 → (tagOf s tile).hdr.sealed = true → (tagOf s tile).checking = false → crossingOf s tile = none →
      tileLines s tile = [] → keyMismatch s tile (tagOf s tile).kslot (tagOf s tile).hdr.kgen = false →
      ∃ t, exec (.tileChecksumFailure tile) s = .next t ∧ tagOf t tile = { tagOf s tile with checking := true, kept := 0, noDemote := true }
        ∧ tile ∈ t.mf.tileRecalls ∧ (∀ x, x ≠ tile → tagOf t x = tagOf s x) ∧ t.mem = s.mem
        ∧ rget Obj.TILE_CHECK_FAILURES 0 t = (rget Obj.TILE_CHECK_FAILURES 0 s + 1) % 2 ^ 64)

/-- A descriptor runs: its job is a running convert job that has come to it, and its descriptor line `bs` is read and sound (R142, R144). -/
structure Claims.DescRuns (op : Nat) (d : DescRef) (j : Job) (bs : List Byte) (s : State) : Prop where
  job : jobOf s d.job = some j
  running : j.kind = 1 ∧ j.code = 2 ∧ j.step = 0 ∧ j.ending = none
  turn : d.index < j.arg ∧ d.index ∉ j.descDone ∧ (j.panels ≤ d.index → d.index - j.panels ∈ j.descDone)
  asked : askLines (unitConvDesc d.job d.index) j.berth [j.image / 64 + d.index] s = s
  line : gotLines s (unitConvDesc d.job d.index) [j.image / 64 + d.index] = some (bs, false)
  sound : descOk bs = true ∧ (descOf bs).op = op

/-- R144 to R147: a descriptor passes its checks and asks for its source lines; once they are there CONVERT sends its pieces to the
destination, DECLARE writes no data and takes the CRC-32C of the tile, and UNDECLARE neither reads nor writes; once every write is accepted the
header of a tile destination is written and the descriptor ends with its code, 6 when another writer reached the tile. -/
def Claims.DescriptorsRun : Prop :=
  ∀ (op : Nat) (d : DescRef) (j : Job) (bs bytes : List Byte) (r : ConvRun) (s u : State), Claims.DescRuns op d j bs s →
    let q := descOf bs
    let key := convKey d.job d.index
    let got : Prop := convOf s key = some r ∧ r.writing = false ∧ d.residueFailed = false
      ∧ gotLines s (unitConv d.job d.index) (if op = 2 then [] else sourceLines q) = some (bytes, false)
    let written (i : Instr) (tcrc : Nat) : Prop := ∃ t, exec i s = .next t ∧ t.mem = s.mem
      ∧ convOf t key = some { r with writing := true, owed := 0, tcrc := tcrc, residue := false, code := 0, flags := 0, sat := 0, nan := 0 }
    let done : Prop := convOf s key = some r ∧ r.writing = true ∧ (servedFor s (unitConvWrite d.job d.index)).length = r.owed
    let closes (i : Instr) : Prop := q.dstTile = true → done → hdrReady (q.dst / 65536) true s = (u, true) → ∃ v,
      exec i s = .next (endDesc d.job d.index { r with code := if r.code = 0 ∧ op ≠ 2 ∧ r.dstIntact = false then 6 else r.code } v)
      ∧ v = writeHdr (q.dst / 65536) (some (unitConvWrite d.job d.index))
          (descHeader q r (r.dstIntact && (r.code == 0 || r.code == 7) && op != 2)) u
    let begins (i : Instr) (lines : List Nat) : Prop := convOf s key = none → (q.srcTile = true ∨ op = 2 ∨ geometryOk q q.rows q.cols = true) →
      mayReadSrc s j q = true → mayWriteDst s j q (descRows q {}) (descCols q {}) = true → ∃ v, exec i s = .next v
        ∧ v = askLines (unitConv d.job d.index) j.berth lines
            (setConv key (some { dst := if q.dstTile then some (q.dst / 65536) else none }) s)
    (op = 0 → (q.srcTile = false → begins (.convert d) (sourceLines q)) ∧ closes (.convert d)
        ∧ (q.dstTile = false → done → exec (.convert d) s = .next (endDesc d.job d.index r s)))
    ∧ (op = 1 → q.dstTile = true → q.srcTile = false → begins (.declare d) (sourceLines q) ∧ (got → r.dstIntact = true → written (.declare d) (crc32c bytes))
        ∧ closes (.declare d))
    ∧ (op = 2 → q.dstTile = true → q.srcTile = false → begins (.undeclare d) [] ∧ (got → written (.undeclare d) 0) ∧ closes (.undeclare d))

/-- R24, R70, R311 to R313 and Table 18.5: the end of a range recall completes what it was for; the end of a release takes the extent off the list;
an extent that the host did not give back in time is withdrawn and counted. -/
def Claims.ExtentsEnd : Prop :=
  ∀ (id ld region n : Nat) (r : RangeRecall) (rest : List RangeRecall) (s : State),
    (s.mf.ranges = r :: rest → r.id = id → rangeClear s r = true →
      (r.why = .removal n → ∃ t, exec (.rangeRecallComplete id) s = .next t ∧ t.mf = { s.mf with ranges := rest }
        ∧ regionOf t n = { regionOf s n with removeRecall := false } ∧ (∀ k, k ≠ n → regionOf t k = regionOf s k) ∧ t.mem = s.mem)
      ∧ (r.why = .decoder ld n → ∃ t, exec (.rangeRecallComplete id) s = .next t ∧ t.mf = { s.mf with ranges := rest }
        ∧ (tget {} (ldOf t ld).decoders n).committed = false ∧ (tget {} (ldOf t ld).decoders n).clearing = false ∧ t.regions = s.regions ∧ t.mem = s.mem)
      ∧ (r.why = .release ld n → exec (.rangeRecallComplete id) s = .next { s with mf := { s.mf with ranges := rest } }))
    ∧ (region ∈ (ldOf s ld).releasing → ldOpenIn s ld region = false → s.mf.ranges = [] →
      ∃ t, exec (.releaseComplete ld region) s = .next t ∧ (ldOf t ld).releasing = (ldOf s ld).releasing.erase region
        ∧ (ldOf t ld).accepted = (ldOf s ld).accepted ∧ (∀ l, l ≠ ld → ldOf t l = ldOf s l) ∧ t.mem = s.mem)
    ∧ (region ∈ (ldOf s ld).asked → (ldOf s ld).coh ≠ 2 ∨ (regionOf s region).st = 3 →
      ∃ t, exec (.dcReleaseTimeout ld region) s = .next t ∧ (ldOf t ld).accepted = (ldOf s ld).accepted.erase region
        ∧ (ldOf t ld).asked = (ldOf s ld).asked.erase region ∧ (ldOf t ld).releasing = (ldOf s ld).releasing ++ [region]
        ∧ t.out = .dcEvent ld 2 region :: s.out ∧ (∀ l, l ≠ ld → ldOf t l = ldOf s l) ∧ t.mem = s.mem
        ∧ rget Obj.DC_FORCED_WITHDRAWALS ld t = (rget Obj.DC_FORCED_WITHDRAWALS ld s + 1) % 2 ^ 64)

/-- R24, R144 to R147 and R311 to R313: descriptors run, and range recalls and extents end. -/
def Obligations.DescriptorsAndExtentsEnd : Prop := Claims.DescriptorsRun ∧ Claims.ExtentsEnd

/-! ## Jobs and the weave -/

/-- R201, R204 and R212: a submission fills its slot (SEQ raised by 1, busy, code 0) and its descriptor is fetched; a malformed one ends with
code 0x31 and reason 0x85. A cancel of a submission that its meter holds ends it with code 0x32 and reason 0xC0; one that names another
descriptor is dropped and counted. -/
def Obligations.JobsAreSubmittedAndCancelled : Prop :=
  ∀ (r : JobReq) (action seq : Nat) (s u : State), linkAccepts s r.ld = true → accept r.ld s = (some seq, u) → r.full = true →
    let x := jslotOf s r.ld r.slot
    let other (t : State) : Prop := ∀ l k, jslotKey l k ≠ jslotKey r.ld r.slot → jslotOf t l k = jslotOf s l k
    (x.busy = false → r.rsvd = 0 → r.addr % 64 = 0 → (colourReq [berthMeter (ldOf s r.ld).berth 3] (linkOfLd s r.ld) 1 none s).colour = 0 →
      ∃ v, exec (.jobSubmit r 0) s = .next (takeIn r.ld r.slot v) ∧ Claims.LandingOnly s v ∧ other v
        ∧ jslotOf v r.ld r.slot = ⟨r.addr, 0, 0, (x.seq + 1) % 65536, 0, 0, true⟩)
    ∧ (x.busy = false → r.rsvd ≠ 0 ∨ r.addr % 64 ≠ 0 ∨ action ≠ 0 → ∃ t, exec (.jobSubmit r action) s = .next t ∧ other t ∧ t.mem = s.mem
        ∧ jslotOf t r.ld r.slot = ⟨r.addr, 0x31, 0, (x.seq + 1) % 65536, 0, 0x85, false⟩)
    ∧ (x.busy = true → r.addr = x.addr → r.rsvd = 0 → x.code = 4 → ∃ t, exec (.jobCancel r) s = .next t ∧ other t ∧ t.mem = s.mem
        ∧ jslotOf t r.ld r.slot = { x with code := 0x32, reason := 0xC0, busy := false }
        ∧ (∀ h, h ∈ t.meters.held ↔ h ∈ s.meters.held ∧ h.what ≠ .job r.ld r.slot))
    ∧ (x.busy = true → r.addr ≠ x.addr → ∃ t, exec (.jobCancel r) s = .next t ∧ t.jobs = s.jobs ∧ t.mem = s.mem
        ∧ rget Obj.JOB_SLOT_BUSY_DROPS r.ld t = (rget Obj.JOB_SLOT_BUSY_DROPS r.ld s + 1) % 2 ^ 64)

/-- R198, R199, R205, R213, R214, R212 and R218: the scheduler places the first queue head that fits, taking its panels; a loaded image
that is valid starts its tasks and the job RUNS, an invalid one ends it; a save that is complete frees the panels and the job is PREEMPTED,
a restore makes it RUN again; a spent time limit stops it; a waiting head pre-empts after its quantum, and GRID_SAVE_ALL saves every
running job. -/
def Obligations.JobsRunAndSave : Prop :=
  ∀ (ref v : Nat) (j k : Job) (ps : List Nat) (img : List Byte) (w : Who) (s : State),
    (admitting s = [] → (heads s).head? = some (ref, j) → placement s j = some ps → jobOf s ref = some j → j.kind = 1 → j.code = 1 → j.step = 0 →
      ∃ u, exec .jobPlace s = .next (placeHeads (s.jobs.jobs.length + 64) [] u)
        ∧ (∃ q, jobOf u ref = some q ∧ q.code = 2 ∧ q.bound = ps ∧ q.step = 0 ∧ q.started = true ∧ q.tLast = now s)
        ∧ (∀ p ∈ ps, (panelOf u p).st = 1 ∧ (panelOf u p).job = ref + 1 ∧ (panelOf u p).berth = j.berth)
        ∧ (∀ p, p ∉ ps → panelOf u p = panelOf s p) ∧ u.mem.near = s.mem.near ∧ u.mem.far = s.mem.far)
    ∧ (jobOf s ref = some j → j.step = 1 → losesPanel s j = false →
        askLines (unitImage ref) j.berth (linesOf j.image j.size) s = s → gotLines s (unitImage ref) (linesOf j.image j.size) = some (img, false) →
        (imageValid s j img = true → ∃ t q, exec (.imageLoaded ref) s = .next t ∧ jobOf t ref = some q ∧ q.code = 2 ∧ q.step = 0 ∧ q.bound = j.bound
          ∧ t.mem.near = s.mem.near ∧ t.mem.far = s.mem.far
          ∧ (∀ tk, imageTasks img = [tk] →
              let core := coreOf t (footprintCore (j.bound.headD 0) tk.rx tk.ry)
              core.pc = tk.entry ∧ core.task = 1 ∧ greg core 2 = BitVec.ofNat 32 j.arg ∧ greg core 3 = BitVec.ofNat 32 (j.arg / 2 ^ 32)))
        ∧ (imageValid s j img = false → ∃ u, exec (.imageLoaded ref) s = .next (endJob ref 0x31 0x81 u) ∧ u.mem = s.mem ∧ jobOf u ref = some j))
    ∧ (jobOf s ref = some j → j.step = 2 → jobQuiet s j = true → j.ending = none → saveSlots s ≠ 0 → losesPanel s j = false → j.lost = none →
        j.bound.Nodup → (∀ p ∈ j.bound, (panelOf s p).leaving = false ∧ (panelOf s p).lent = false) →
        ∃ t, exec (.saveComplete ref) s = .next t ∧ t.mem = s.mem
          ∧ jobOf t ref = some { j with code := 3, step := 0, tLast := now s, preempts := j.preempts + 1, saved := j.bound.map (savePanel s) }
          ∧ (∀ p ∈ j.bound, (panelOf t p).st = 0 ∧ (panelOf t p).job = 0) ∧ (∀ p, p ∉ j.bound → panelOf t p = panelOf s p)
          ∧ rget Obj.JOBS_PREEMPTIONS j.berth t = (rget Obj.JOBS_PREEMPTIONS j.berth s + 1) % 2 ^ 64)
    ∧ (jobOf s ref = some j → j.step = 3 → losesPanel s j = false → ∃ t, exec (.restoreComplete ref true) s = .next t
          ∧ jobOf t ref = some { j with code := 2, step := 0, saved := [], tLast := now s } ∧ t.mem.near = s.mem.near ∧ t.mem.far = s.mem.far)
    ∧ (jobOf s ref = some j → j.code = 2 → j.step = 0 → j.ending = none → msTicks j.tlimit ≤ j.ran + ticksSince j.tLast (now s) → jobQuiet s j = false →
        ∃ t, exec (.tlimitCheck ref) s = .next t ∧ jobOf t ref = some { j with ending := some (0x31, 0x83) } ∧ t.mem = s.mem ∧ t.grid = s.grid)
    ∧ (s.jobs.jobs = [(ref, some j), (v, some k)] → v ≠ ref → headOf s j.berth = some (ref, j) → msTicks (rget Obj.JOB_QUANTUM j.berth s) < ticksSince j.tLast (now s) →
        mayPreempt s j = false → mayPreempt s k = true → k.berth = j.berth → effPrio s k = effPrio s j →
        msTicks (rget Obj.JOB_QUANTUM j.berth s) ≤ ticksSince k.tLast (now s) → jobOf s v = some k → jobOf s ref = some j →
        ∃ t q, exec (.quantumExpiry ref) s = .next t ∧ jobOf t v = some q ∧ q.step = 2 ∧ jobOf t ref = some j ∧ t.mem = s.mem
          ∧ (∀ p ∈ k.bound, (panelOf t p).st = 2))
    ∧ (Claims.Runs .GRID_SAVE_ALL w s → (List.range 60).any (fun p => decide (saveSlots s ≤ (savedOn s p).length)) = false →
        s.jobs.jobs = [(ref, some j)] → jobOf s ref = some j → j.code = 2 → j.step = 0 → ∃ t q, exec (.gridSaveAll w) s = .next t ∧ jobOf t ref = some q
          ∧ q.step = 2 ∧ t.jobs.saveAll = s.jobs.saveAll ++ [w.path] ∧ (∀ p ∈ j.bound, (panelOf t p).st = 2) ∧ t.mem = s.mem)

/-- R226, R233, R235, R236, R240, R241 and R398: a route change flips the epoch and routes the endpoints that are dead now, and its drain ends
it; an acknowledgement ends its long packet; a credit return frees BISnp credits; a dead endpoint's answer ends its one access, a read with
poison; a reply timer sends a long packet once more, and ends an access that fails again with an error record. -/
def Obligations.WeaveEventsAct : Prop :=
  ∀ (src ref e n ld tag : Nat) (r : Req) (s : State),
    let mine (l : Nat × Nat × Nat) : Bool := l.1 == src && l.2.1 == ref
    let fails (t : State) : Prop := t.out = .memRsp ld tag .cmp (some (List.replicate 64 0)) true (devLoad s ld) :: s.out ∧ t.mem = s.mem
    let oneRead : Prop := reqsOf s src ref = [r] ∧ r.src = .host ld tag ∧ (∃ m, r.kind = .memRd m) ∧ (ldOf s ld).enabled = true
      ∧ linkServes s (linkOfLd s ld) = true
    (s.weave.st = 0 → deadEndpoints s ≠ s.weave.bank ∨ s.weave.due = true → ∃ t, exec .routeChange s = .next t
      ∧ t.weave = { s.weave with epoch := !s.weave.epoch, st := 2, other := s.weave.bank, bank := deadEndpoints s, due := false, flipped := now s }
      ∧ rget Obj.WEAVE_ROUTE_STATE 0 t = 2 ∧ rget Obj.WEAVE_ROUTE_EPOCH 0 t = b2n (!s.weave.epoch) ∧ t = { s with weave := t.weave, regs := t.regs })
    ∧ (s.weave.st = 2 → ∃ t, exec .routeDrainComplete s = .next t ∧ t.weave = { s.weave with st := 0 } ∧ rget Obj.WEAVE_ROUTE_STATE 0 t = 0
      ∧ rget Obj.WEAVE_DRAIN_LAST 0 t = ticksSince s.weave.flipped (now s)
      ∧ rget Obj.WEAVE_ROUTE_CHANGES 0 t = (rget Obj.WEAVE_ROUTE_CHANGES 0 s + 1) % 2 ^ 64 ∧ t = { s with weave := t.weave, regs := t.regs })
    ∧ (∀ delivered, bit delivered 0 = true → exec (.acknowledgement src ref 0 delivered 0 e) s
        = .next { s with weave := { s.weave with longs := s.weave.longs.filter (fun l => !mine l) } })
    ∧ (oneRead → ∃ t, exec (.deadEndpointAnswer src ref e) s = .next t ∧ fails t
        ∧ rget Obj.WEAVE_EP_SUNK e t = (rget Obj.WEAVE_EP_SUNK e s + 1) % 2 ^ 64)
    ∧ (∀ p, p < 8 → s.weave.snpWait = [] → exec (.creditReturn 0 (0x40 + p) e n) s
        = .next { s with weave := { s.weave with snpUsed := tput 0 s.weave.snpUsed p (tget 0 s.weave.snpUsed p - n) } })
    ∧ exec (.waitNotice src ref) s = .next { s with weave := { s.weave with timers := tput 0 s.weave.timers (src * 16777216 + ref) (now s + 1) } }
    ∧ (reqsOf s src ref ≠ [] → exec (.waitNoticeInterval src ref) s = .next (emit (.waitNotice src ref) s))
    ∧ (s.weave.longs.find? mine = some (src, ref, 1) → exec (.replyTimeout src ref) s
        = .next { s with weave := { s.weave with longs := s.weave.longs.map (fun l => if mine l then (src, ref, 2) else l) } })
    ∧ (s.weave.longs.find? mine = none → oneRead → s.errs.log.length < 4096 → ∃ t q, exec (.replyTimeout src ref) s = .next t ∧ t.mem = s.mem
        ∧ t.errs.log = s.errs.log ++ [q] ∧ q.source = 0xA2 ∧ q.linev = true ∧ q.line = r.line
        ∧ .memRsp ld tag .cmp (some (List.replicate 64 0)) true (devLoad s ld) ∈ t.out)

/-! ## The near and far shores -/

/-- R251, R253 and R257 to R260: a read of a resident line leaves its row open; what ECC corrects, re-reads or repairs from the other half
is counted and leaves every byte, a line with no source left becomes poison; a replayed command is counted once per replay, at most
three. -/
def Claims.DramReadsAndAlerts : Prop :=
  ∀ (chan line nibble replays : Nat) (other : Bool) (s : State), chan < 24 → chanWorks s chan = true → chanHas s chan line = true →
    let plain : Prop := (∀ r, regionAtLine s line = some r → (regionOf s r).cls ≠ 1) ∧ farHas s line = false ∧ canFetch s line = false
      ∧ containsByReset s chan line = false
    let counted (i : Instr) (o : Obj) (n : Nat) : Prop := ∃ t, exec i s = .next t ∧ t.mem = s.mem ∧ rget o chan t = (rget o chan s + n) % 2 ^ 64
    (∃ t, exec (.dramLineRead chan line .clean) s = .next t ∧ t = { s with dram := { s.dram with chans := t.dram.chans } }
      ∧ (∀ c, c ≠ chan → chanOf t c = chanOf s c) ∧ chanOf t chan = { chanOf s chan with rows := (chanOf t chan).rows }
      ∧ (∀ b, tget 0 (chanOf t chan).rows b = (let a := dramAddr (chanOf s chan).org (lineAddr s line)
          if b = bankNo a then (if rget Obj.DRAM_PAGE_IDLE 0 s = 0 then 0 else a.row + 1) else tget 0 (chanOf s chan).rows b)))
    ∧ counted (.dramLineRead chan line (.corrected nibble)) .DRAM_CORRECTED 1 ∧ counted (.dramLineRead chan line .rereadOk) .DRAM_REREAD_OK 1
    ∧ (∀ r, regionAtLine s line = some r → (regionOf s r).cls = 1 → chanWorks s (chan % 12) = true → chanWorks s (chan % 12 + 12) = true →
        counted (.dramLineRead chan line (.uncorrectable true)) .DRAM_REPAIRED 1)
    ∧ (plain → ∃ t, exec (.dramLineRead chan line (.uncorrectable other)) s = .next t ∧ nearPoisoned t line = true
        ∧ rget Obj.DRAM_POISONED chan t = (rget Obj.DRAM_POISONED chan s + 1) % 2 ^ 64 ∧ t.mem.far = s.mem.far ∧ t.mem.ls = s.mem.ls)
    ∧ ((chanOf s chan).st = 3 → counted (.dramScrubRead chan 0 line (.corrected nibble)) .DRAM_CORRECTED 1
        ∧ counted (.dramScrubRead chan 2 line (.corrected nibble)) .DRAM_CORRECTED 1 ∧ counted (.dramScrubRead chan 2 line .rereadOk) .DRAM_REREAD_OK 1)
    ∧ counted (.caParityAlert chan replays false) .DRAM_CA_REPLAYS (min 3 (max 1 replays))
    ∧ counted (.writeCrcAlert chan replays false) .DRAM_WCRC_REPLAYS (min 3 (max 1 replays))

/-- R251, R254, R255, R263, R266 and R271: a refresh closes its rank's rows, an idle bank's row is closed; a temperature above 85 °C doubles the refresh
rate until it falls below 83 °C; DRAM_RETIRE queues a channel, the retirement starts and ends by its steps, and a lost channel leaves service with a
record. -/
def Claims.DramMaintenance : Prop :=
  ∀ (chan rank bank arg src : Nat) (rest : List (Nat × Nat)) (w : Who) (s : State), chan < 24 →
    (chanWorks s chan = true → rank = 0 ∨ (rank = 1 ∧ orgTwoRanks (chanOf s chan).org = true) → ∃ t, exec (.allBankRefresh chan rank false) s = .next t
      ∧ (∀ b, tget 0 (chanOf t chan).rows b = if rank * 64 ≤ b ∧ b < rank * 64 + 64 then 0 else tget 0 (chanOf s chan).rows b)
      ∧ (∀ c, c ≠ chan → chanOf t c = chanOf s c) ∧ rget Obj.DRAM_REFRESHES chan t = (rget Obj.DRAM_REFRESHES chan s + 1) % 2 ^ 64
      ∧ t = { s with regs := t.regs, dram := { s.dram with chans := t.dram.chans } })
    ∧ (bank < 128 → ∃ t, exec (.pageIdlePrecharge chan bank) s = .next t ∧ t = { s with dram := { s.dram with chans := t.dram.chans } }
      ∧ (∀ c, c ≠ chan → chanOf t c = chanOf s c) ∧ (∀ b, tget 0 (chanOf t chan).rows b = if b = bank then 0 else tget 0 (chanOf s chan).rows b))
    ∧ (∀ temps : List Int, chan < temps.length → chanWorks s chan = true → ∃ t, exec (.dimmTempSample temps) s = .next t ∧ t.mem = s.mem
      ∧ (let x := temps.getD chan 0
         (chanOf t chan).temp = x ∧ (85 < x → (chanOf t chan).fast = true) ∧ (x < 83 → (chanOf t chan).fast = false)
         ∧ (83 ≤ x → x ≤ 85 → (chanOf t chan).fast = (chanOf s chan).fast)))
    ∧ (Claims.Runs .DRAM_RETIRE w s → arg < 24 → (chanOf s arg).st = 3 → 1 < (inService s).length → s.dram.retiring = none → s.dram.queue = [] →
      ∃ t, exec (.dramRetire w arg) s = .next t ∧ t.dram = { s.dram with queue := [(arg, 0xB0)] } ∧ t.mem = s.mem
        ∧ Claims.resultAt .DRAM_RETIRE w.path t = some (natLE 8 0))
    ∧ (Claims.Runs .DRAM_RETIRE w s → (chanOf s arg).st ≠ 3 → ∃ t, exec (.dramRetire w arg) s = .next t ∧ t.dram = s.dram ∧ t.mem = s.mem
        ∧ Claims.resultAt .DRAM_RETIRE w.path t = some (natLE 8 1))
    ∧ (s.dram.retiring = none → s.dram.queue = (chan, src) :: rest → (chanOf s chan).st = 3 → 1 < (inService s).length →
      ∃ t, exec .dramRetirementStep s = .next t ∧ (chanOf t chan).st = 4 ∧ t.dram.retiring = some (chan, src) ∧ t.dram.step = 1 ∧ t.dram.queue = rest
        ∧ t.mem = s.mem)
    ∧ (s.dram.retiring = some (chan, src) → s.dram.step = 5 → (∃ k ∈ inService s, k ≠ chan ∧ k % 2 = chan % 2) →
      ∃ t, exec .dramRetirementStep s = .next t ∧ (chanOf t chan).st = 5 ∧ t.dram.retiring = none ∧ t.dram.step = 0 ∧ t.mem = s.mem
        ∧ bit t.dram.degraded (chan % 12) = true)
    ∧ ((chanOf s chan).st = 3 → shadowed s chan = true → (∃ k ∈ inService s, k ≠ chan) → s.ferry.tags = [] → s.regions = [] → s.ferry.crossings = [] → s.jobs.jobs = [] → Claims.Calm s →
        planeState s (1 - chan % 2) = 0 ∨ planeState s (1 - chan % 2) = 1 → s.errs.log.length < 4000 → ∀ cause,
      ∃ t, exec (.dramChannelLost chan cause) s = .next t ∧ (chanOf t chan).st = 6 ∧ t.mem = s.mem
        ∧ ∃ r ∈ t.errs.log, r.source = 0xA0 ∧ r.inst = 0 ∧ r.cls = 5 ∧ r.detail = cause)
    ∧ (Claims.Runs .DRAM_LOG_CLEAR w s → ∃ t, exec (.dramLogClear w) s = .next t ∧ t.dram = { s.dram with log := [] } ∧ t.regs = s.regs ∧ t.mem = s.mem)

/-- R279, R284 to R286, R288 and R290: a far read that fails is rebuilt from its row and its copy marked out of date; a program or erase failure is counted and
retires the block set; an open row is flushed with its parity; a merge fills the next free member and the block map then names it; a band of the
lowest cost is reclaimed and its erase counted; a checkpoint is taken every 2²⁰ slots. -/
def Claims.FlashTranslationWorks : Prop :=
  ∀ (tile chunk chan block group b k ch : Nat) (c : Crossing) (m : Merge) (s : State),
    (crossingOf s tile = some c → c.kind = .promote → slotsNeeded c ≤ c.held → (farOf s tile).kind = 1 → c.next = chunk → bit c.placed chunk = false →
      c.rebuilding = none → (flashOf s (farOf s tile).chan).st = 3 → rowRebuilds s (farOf s tile).slot = true → (farOf s tile).chan < 32 →
      ∃ t, exec (.farReadFailure tile chunk false) s = .next t ∧ crossingOf t tile = some { c with rebuilding := some chunk } ∧ t.mem = s.mem
        ∧ rget Obj.FLASH_READ_UNCORR (farOf s tile).chan t = (rget Obj.FLASH_READ_UNCORR (farOf s tile).chan s + 1) % 2 ^ 64)
    ∧ (Claims.Calm s → crossingOf s tile = some c → c.rebuilding = some chunk → chunk < 16 → c.placed ||| 2 ^ chunk ≠ 65535 → (tagOf s tile).st = 2 →
      ∃ t, exec (.rebuildComplete tile chunk true) s = .next t ∧ (farOf t tile).stale = true ∧ t.mem.far = s.mem.far
        ∧ (tagOf t tile).valid = (tagOf s tile).valid ||| chunkMask chunk ∧ rget Obj.FAR_REBUILDS 0 t = (rget Obj.FAR_REBUILDS 0 s + 1) % 2 ^ 64)
    ∧ (chan < 32 → (flashOf s chan).st = 3 → (∃ t, exec (.programFailure chan block) s = .next t ∧ chan * 262144 + block % 262144 ∈ t.flash.badSets
        ∧ rget Obj.FLASH_PROG_FAIL chan t = (rget Obj.FLASH_PROG_FAIL chan s + 1) % 2 ^ 64 ∧ t.mem = s.mem)
      ∧ ∃ t, exec (.eraseFailure chan block) s = .next t ∧ chan * 262144 + block % 262144 ∈ t.flash.badSets
        ∧ rget Obj.FLASH_ERASE_FAIL chan t = (rget Obj.FLASH_ERASE_FAIL chan s + 1) % 2 ^ 64 ∧ t.mem = s.mem)
    ∧ (tget none s.flash.openLog group = some b → openData s group = none → (bandOf s b).use = 1 → (bandOf s b).rowStart.isSome = true →
      ∃ t, exec (.rowFlush group) s = .next t ∧ (bandOf t b).row = (bandOf s b).row + 1 ∧ (bandOf t b).rowStart = none ∧ t.mem = s.mem
        ∧ (bandOf t b).parity = bandSlot (bandOf s b).row (parityChan s b) :: (bandOf s b).parity ∧ (∀ x, x ≠ b → bandOf t x = bandOf s x))
    ∧ (group < 2 → tget none s.flash.merging group = none → nextMerge s group = some k → openData s group = some b → (emptyMembers s b).head? = some ch →
      exec (.merge group) s = .next { s with flash := { s.flash with merging := tput none s.flash.merging group (some ⟨k, bandSet b ch⟩) } })
    ∧ (tget none s.flash.merging group = some m → s.ferry.misses = [] → ∃ t, exec (.mergeComplete group) s = .next t ∧ t.mem = s.mem
        ∧ tget none t.flash.blockMap m.block = some m.bs ∧ tget none t.flash.merging group = none
        ∧ (∀ x, x / 1024 = m.block → (farOf s x).kind = 1 → (farOf t x).slot = m.bs * 1024 + x % 1024 ∧ (farOf t x).inLog = false ∧ (farOf t x).stale = false)
        ∧ (∀ x, x / 1024 ≠ m.block → farOf t x = farOf s x) ∧ rget Obj.FAR_MERGES 0 t = (rget Obj.FAR_MERGES 0 s + 1) % 2 ^ 64)
    ∧ (group < 2 → tget none s.flash.reclaiming group = none → erasedBands s group < rget Obj.FAR_FREE_BANDS_LOW 0 s → reclaimable s group = [b] →
      (liveTiles s (fun p => placeBand p == b)).filter (fun t => (farOf s t).inLog) = [] →
      exec (.bandReclaim group) s = .next { s with flash := { s.flash with reclaiming := tput none s.flash.reclaiming group (some b) } })
    ∧ (tget none s.flash.reclaiming group = some b → bandLive s b = 0 → ∃ t, exec (.eraseComplete group) s = .next t
        ∧ bandOf t b = { erases := (bandOf s b).erases + 1 } ∧ (∀ x, x ≠ b → bandOf t x = bandOf s x) ∧ tget none t.flash.reclaiming group = none
        ∧ t = { s with flash := { s.flash with bands := t.flash.bands, reclaiming := t.flash.reclaiming } })
    ∧ (1048576 ≤ s.flash.sinceCkpt → exec .translationCheckpoint s
        = .next { s with flash := { s.flash with sinceCkpt := 0 }, boot := { s.boot with marker := none } })

/-- R291 to R295: PFAIL quiesces the flash and holds the device in reset; a channel that stops answering is LOST; channels lost with the FLX PLL come
back at its relock, or stay lost after its timeout; FLASH_RETIRE retires a channel by its steps. -/
def Claims.FlashChannelsLeaveService : Prop :=
  ∀ (chan src : Nat) (rest : List (Nat × Nat)) (w : Who) (s : State),
    (s.boot.held = 0 → ∃ t, exec .pfail s = .next t ∧ t.boot.held = 1)
    ∧ (chan < 32 → (flashOf s chan).st = 3 → s.ferry.crossings = [] → s.ferry.far = [] → ∃ t, exec (.flashChannelLost chan) s = .next t
        ∧ (flashOf t chan).st = 6 ∧ (∀ c, c ≠ chan → flashOf t c = flashOf s c) ∧ t.mem = s.mem)
    ∧ (s.ferry.misses = [] → ∃ t, exec .flxRelock s = .next t ∧ t.flash.flxLost = [] ∧ (∀ c ∈ s.flash.flxLost, (flashOf t c).st = 3)
        ∧ (∀ c, c ∉ s.flash.flxLost → flashOf t c = flashOf s c) ∧ t.mem = s.mem)
    ∧ (s.ferry.far = [] → ∃ t, exec .flxLossTimeout s = .next t ∧ t.flash.flxLost = [] ∧ (∀ c, flashOf t c = flashOf s c) ∧ t.mem = s.mem)
    ∧ (Claims.Runs .FLASH_RETIRE w s → chan < 32 → (flashOf s chan).st = 3 → passesFloor s chan = false → s.flash.retiring = none → s.flash.queue = [] →
        ∃ t, exec (.flashRetire w chan) s = .next t ∧ (flashOf t chan).st = 4 ∧ t.flash.retiring = some (chan, 0xB1) ∧ t.flash.queue = []
          ∧ Claims.resultAt .FLASH_RETIRE w.path t = some (natLE 8 0) ∧ t.mem = s.mem)
    ∧ (Claims.Runs .FLASH_RETIRE w s → (flashOf s chan).st ≠ 3 → ∃ t, exec (.flashRetire w chan) s = .next t ∧ t.flash = s.flash ∧ t.mem = s.mem
        ∧ Claims.resultAt .FLASH_RETIRE w.path t = some (natLE 8 1))
    ∧ (s.flash.retiring = some (chan, src) → s.flash.queue = [] → liveTiles s (fun p => placeChan p == chan) = [] → blocksOn s chan = [] →
        ∃ t, exec .flashRetirementEnd s = .next t ∧ (flashOf t chan).st = 5 ∧ t.flash.retiring = none ∧ (∀ c, c ≠ chan → flashOf t c = flashOf s c)
          ∧ t.mem = s.mem)
    ∧ (s.flash.retiring = none → s.flash.queue = (chan, src) :: rest → (flashOf s chan).st = 3 → passesFloor s chan = false →
        ∃ t, exec .flashRetirementEnd s = .next t ∧ (flashOf t chan).st = 4 ∧ t.flash.retiring = some (chan, src) ∧ t.flash.queue = rest ∧ t.mem = s.mem)

/-- R251 to R271: reads, alerts and the maintenance of the near shore. -/
def Obligations.DramChannelsRun : Prop := Claims.DramReadsAndAlerts ∧ Claims.DramMaintenance

/-- R279 to R295: the far shore's translation, and channels that leave service. -/
def Obligations.FlashShoreRuns : Prop := Claims.FlashTranslationWorks ∧ Claims.FlashChannelsLeaveService

/-! ## Host links and mailboxes -/

/-- R27 to R29, R298, R299, R317 and R528, Tables 13.2 and 13.3: a trained link is up in its flit mode with its rate and width and its logical device in the
mode that goes with it; a failed link is DOWN and its agents are dead; Recovery leads back to the UP state it left, one rate step lower when a step
was due; PERST_N holds the link. A flit error feeds the bucket of its lane. -/
def Claims.HostLinksChangeState : Prop :=
  ∀ (link ld rate width k : Nat) (flit256 : Bool) (s : State),
    let l := linkOf s link
    let others (t : State) : Prop := ∀ h, h ≠ link → linkOf t h = linkOf s h
    let exact (i : Instr) (l' : Link) : Prop := ∃ t, exec i s = .next t ∧ linkOf t link = l' ∧ others t ∧ t.mem = s.mem ∧ t.mf = s.mf ∧ t.lds = s.lds
    (linkThere s link = true → linkState s link = 1 → bit s.clk.hpxUnlocked (link / 2) = false → rate ≤ rget Obj.HP_RATE_MAX (link / 2) s →
      (flit256 = true ∨ rate < 2) → rate < 3 → width ∈ [1, 2, 4, 8] → width ≤ (linkLanes s link).2 → ldsOnLink s link = [ld] → (ldOf s ld).coh = 0 →
      (agentOf s (ldOf s ld).agent).st = 0 ∨ (agentOf s (ldOf s ld).agent).st = 1 → s.regions = [] → (ldOf s ld).offered = [] → (ldOf s ld).accepted = [] →
      ∃ t, exec (.linkUp link flit256 rate width) s = .next t ∧ others t ∧ t.mem = s.mem ∧ (agentOf t (ldOf s ld).agent).st = 1
        ∧ linkOf t link = { l with st := if flit256 then 2 else 3, upState := 0, rate := rate, width := width, flit := if flit256 then 2 else 1, badLanes := [], rateDue := false }
        ∧ ldOf t ld = { ldOf s ld with coh := if flit256 then 2 else 1 } ∧ (∀ d, d ≠ ld → ldOf t d = ldOf s d))
    ∧ (linkServes s link = true → s.meters.held = [] → ldsOnLink s link = [ld] → (agentOf s (ldOf s ld).agent).st = 1 → s.mf.waits = [] →
      linesWhere s (fun _ e => owesAnswer e (ldOf s ld).agent) = [] → ∃ t, exec (.linkDown link) s = .next t ∧ others t ∧ t.mem = s.mem
        ∧ linkOf t link = { l with st := 5, flit := 0 } ∧ (agentOf t (ldOf s ld).agent).st = 2 ∧ (agentOf t (ldOf s ld).agent).cause = 1)
    ∧ (l.st = 2 ∨ l.st = 3 → exact (.linkRecovery link) { l with st := 4, upState := l.st })
    ∧ (l.st = 4 → l.rateDue = false → l.badLanes = [] → exact (.recoveryEnd link true true) { l with st := l.upState })
    ∧ (l.st = 4 → l.rateDue = true → 0 < l.rate → exact (.recoveryEnd link true true) { l with st := l.upState, rate := l.rate - 1, rateDue := false, badLanes := [] })
    ∧ (linkThere s link = true → linkServes s link = false → exact (.perst link) { l with perst := true })
    ∧ (linkThere s link = true → exact (.perstRelease link) { l with perst := false })
    ∧ (linkThere s link = true → linkServes s link = true → (linkLanes s link).1 ≤ k → k < (linkLanes s link).1 + (linkLanes s link).2 →
      (bucketOf s 0x20 (link / 2 * 8 + k)).held = false → (bucketOf s 0x20 (link / 2 * 8 + k)).level < 63 →
      ∃ t, exec (.flitError link [k]) s = .next t ∧ t.mem = s.mem ∧ t.hosts.links = s.hosts.links
        ∧ (bucketOf t 0x20 (link / 2 * 8 + k)).level = (bucketOf s 0x20 (link / 2 * 8 + k)).level + 1)

/-- R25, R77, R313 and R315: a decoder commits when its range fits and else shows its error; in HDM-H mode it uncommits at once. A function-level reset and a
CXL reset uncommit every decoder and reset the slots of the logical device alone; its agent lives on when it holds nothing
(stated where its meters hold none of its requests). -/
def Claims.DecodersAndResets : Prop :=
  ∀ (ld n hpa size dpa ways : Nat) (s : State), (ldOf s ld).enabled = true →
    let d : Decoder := tget {} (ldOf s ld).decoders n
    let decodes (t : State) (d' : Decoder) : Prop := (∀ m, tget {} (ldOf t ld).decoders m = if m = n then d' else tget {} (ldOf s ld).decoders m)
      ∧ (∀ x, x ≠ ld → ldOf t x = ldOf s x) ∧ t = { s with lds := t.lds }
    let resets (i : Instr) : Prop := (agentOf s (ldOf s ld).agent).st = 1 → holdsLines s (ldOf s ld).agent = false →
      (∀ h ∈ s.meters.held, heldLd h ≠ ld) → ∃ t, exec i s = .next t
      ∧ (ldOf t ld).decoders = [] ∧ (ldOf t ld).enabled = true ∧ (ldOf t ld).accepted = (ldOf s ld).accepted ∧ (∀ x, x ≠ ld → ldOf t x = ldOf s x)
      ∧ (∀ slot, slot < 512 → atwOf t ld slot = {}) ∧ (∀ x slot, x ≠ ld → slot < 512 → atwOf t x slot = atwOf s x slot)
      ∧ (agentOf t (ldOf s ld).agent).st = 1 ∧ t.mem = s.mem
    (n < 8 → d.committed = false → decoderFits s ld n hpa size dpa ways = true → ∃ t, exec (.decoderCommit ld n hpa size dpa ways) s = .next t
      ∧ decodes t ⟨hpa, size, dpa, true, false, false⟩)
    ∧ (n < 8 → d.committed = false → decoderFits s ld n hpa size dpa ways = false → ∃ t, exec (.decoderCommit ld n hpa size dpa ways) s = .next t
      ∧ decodes t ⟨hpa, size, dpa, false, true, false⟩)
    ∧ (d.committed = true → exec (.decoderCommit ld n hpa size dpa ways) s = .next s)
    ∧ (n < 8 → d.committed = true → d.clearing = false → (ldOf s ld).coh ≠ 2 → ∃ t, exec (.decoderUncommit ld n) s = .next t
      ∧ decodes t { d with committed := false })
    ∧ resets (.functionLevelReset ld) ∧ resets (.cxlReset ld)

/-- R310 and R302, Table 13.6: a mailbox command that reads answers on its mailbox with its fields and changes nothing else; a command of the other set and one that
no set names are answered Unsupported. -/
def Claims.MailboxReadsAnswer : Prop :=
  ∀ (r : MboxReq) (start count limit opcode log dpa len : Nat) (s : State), mboxServed r s = true →
    let answers (i : Instr) (fields : List Nat) : Prop := exec i s = .next (emit (.mbox r.ld 0 fields) s)
    let refuses (i : Instr) : Prop := exec i s = .next (emit (.mbox r.ld 3 []) s)
    let unstated (i : Instr) : Prop := ∃ t fields, exec i s = .next t ∧ t = { s with out := .mbox r.ld 0 fields :: s.out, freeCtr := s.freeCtr + 1 }
    let m := mboxOf s r.ld
    refuses (.unsupportedCommand r opcode)
    ∧ (r.fm = true → answers (.getLdInfo r) [visibleBytes s, (linkLds s r.ld).length] ∧ unstated (.getLdAllocations r start limit)
        ∧ answers (.getDcRegionConfiguration r) [1, 0, visibleBytes s, 2 ^ 30] ∧ answers (.getDcExtentLists r start count) (extentFields s r.ld start count)
        ∧ refuses (.identifyMemoryDevice r) ∧ refuses (.getTimestamp r))
    ∧ (r.fm = false → answers (.identifyMemoryDevice r) [visibleBytes s, 0, 0, 1024] ∧ answers (.getSupportedLogs r) [1] ∧ unstated (.getLog r true start len)
        ∧ answers (.getDynamicCapacityConfiguration r) [1, 0, visibleBytes s, 2 ^ 30]
        ∧ answers (.getDynamicCapacityExtentList r start count) (extentFields s r.ld start count)
        ∧ answers (.getEventInterruptPolicy r) [m.intPolicy] ∧ answers (.getTimestamp r) [(Int.ofNat (now s * 40) + m.stampOffset).toNat]
        ∧ answers (.getAlertConfiguration r) [s.hosts.alert] ∧ unstated (.getHealthInfo r)
        ∧ (∀ e, log < 5 → m.events.filter (fun e => eventLog e == log) = [e] → answers (.getEventRecords r log) ([b2n m.overflow, 0, 1] ++ eventFields m e))
        ∧ (∀ q, (poisonRanges s).filter (fun p => decide (dpa < p.1 + p.2 * 64) && decide (p.1 < dpa + len) && (acceptedRegion s r.ld (p.1 / 64)).isSome) = [q] →
            answers (.getPoisonList r dpa len) [0, 1, q.1, q.2])
        ∧ (adminOnMbox s r.ld = true → ∃ fields, fields.length = 12 ∧ answers (.getFwInfo r) fields)
        ∧ refuses (.getLdInfo r))

/-- R21, R24, R310, R311, R403, R425, R454 and R455: the mailbox commands that act: logical devices are enabled and disabled, extents accepted and released, event
records cleared, the policy, timestamp and alerts set, a firmware transfer kept part by part and its images activated, and poison injected and
cleared by device writes. -/
def Claims.MailboxCommandsAct : Prop :=
  ∀ (r : MboxReq) (n log policy stamp offset mask dpa : Nat) (data : List Byte) (s : State), mboxServed r s = true →
    let ok (t : State) : Prop := t.out.head? = some (.mbox r.ld 0 [])
    let m := mboxOf s r.ld
    let box (i : Instr) (m' : Mbox) : Prop := ∃ t, exec i s = .next t ∧ ok t ∧ mboxOf t r.ld = m' ∧ (∀ l, l ≠ r.ld → mboxOf t l = mboxOf s l)
      ∧ t = { s with out := t.out, hosts := { s.hosts with mboxes := t.hosts.mboxes } }
    (r.fm = true → linkLds s r.ld = n :: (linkLds s r.ld).tail → (ldOf s n).enabled = false → (ldOf s n).berth ≠ 0xFF →
        (s.lds.filter (fun p => p.2.enabled)).length < 64 → freeAgent s = some mask → (linkOf s (linkOfLd s n)).st = 0 →
        ∃ t, exec (.setLdAllocations r 0 [1]) s = .next t ∧ (ldOf t n).enabled = true ∧ (ldOf t n).agent = mask ∧ (ldOf t n).berth = (ldOf s n).berth
        ∧ (∀ l, l ≠ n → ldOf t l = ldOf s l) ∧ t.cfg.posts.length = s.cfg.posts.length + 1 ∧ t.out = s.out ∧ t.mem = s.mem)
    ∧ (r.fm = false →
      (n ∈ (ldOf s r.ld).offered → ∃ t, exec (.addDynamicCapacityResponse r [n] [n]) s = .next t ∧ ok t ∧ t = { s with out := t.out, lds := t.lds }
        ∧ (ldOf t r.ld).accepted = (ldOf s r.ld).accepted ++ [n] ∧ n ∉ (ldOf t r.ld).offered ∧ (∀ l, l ≠ r.ld → ldOf t l = ldOf s l))
      ∧ (n ∈ (ldOf s r.ld).accepted → n ∈ (ldOf s r.ld).asked → (ldOf s r.ld).coh ≠ 2 → ∃ t, exec (.releaseDynamicCapacity r [n]) s = .next t ∧ ok t
        ∧ t = { s with out := t.out, lds := t.lds } ∧ (ldOf t r.ld).accepted = (ldOf s r.ld).accepted.erase n ∧ (∀ l, l ≠ r.ld → ldOf t l = ldOf s l)
        ∧ (ldOf t r.ld).releasing = (ldOf s r.ld).releasing ++ [n])
      ∧ (log < 5 → box (.clearEventRecords r log true []) { m with events := m.events.filter (fun e => eventLog e != log), overflow := false })
      ∧ box (.setEventInterruptPolicy r policy) { m with intPolicy := policy }
      ∧ box (.setTimestamp r stamp) { m with stampOffset := Int.ofNat stamp - Int.ofNat (now s * 40) }
      ∧ (adminOnMbox s r.ld = true → box (.transferFw r 1 offset data) { m with fwParts := some [(0, data)] })
      ∧ (∀ p, adminOnMbox s r.ld = true → m.fwParts = some p → box (.transferFw r 2 offset data) { m with fwParts := some (tput [] p (offset * 128) data) })
      ∧ (adminOnMbox s r.ld = true → activateStatus ([2, 3, 4, 5].filter (bit mask)) s = 0 → ∃ t, exec (.activateFw r 1 mask) s = .next t ∧ ok t
        ∧ t = { s with out := t.out, fw := t.fw } ∧ (∀ i ∈ [2, 3, 4, 5], bit mask i = true → tget none t.fw.pending i = some (1 - activeBank s i)))
      ∧ (∃ t, exec (.setAlertConfiguration r policy) s = .next t ∧ ok t ∧ t = { s with out := t.out, hosts := { s.hosts with alert := policy } })
      ∧ (rget Obj.LC_STATE 0 s = 1 ∨ rget Obj.LC_STATE 0 s = 3 → (berthOf s (ldOf s r.ld).berth).conf = false → s.berths.confDevice = false →
          poisonTarget s r.ld dpa = true → exec (.injectPoison r dpa) s
            = .next (emit (.mbox r.ld 0 []) (devStore (ldOf s r.ld).berth dpa (List.replicate 64 0) true s)))
      ∧ (rget Obj.LC_STATE 0 s = 2 → exec (.injectPoison r dpa) s = .next (emit (.mbox r.ld 3 []) s))
      ∧ (poisonTarget s r.ld dpa = true → data.length = 64 → exec (.clearPoison r dpa data) s
            = .next (emit (.mbox r.ld 0 []) (devStore (ldOf s r.ld).berth dpa data false s))))

/-- R25 to R29, R298, R299, R313, R315 and R317: host links, decoders and the resets of logical devices. -/
def Obligations.LinksAndDecodersChange : Prop := Claims.HostLinksChangeState ∧ Claims.DecodersAndResets

/-- R302, R310 and Table 13.6: the commands of the mailboxes. -/
def Obligations.MailboxCommandsRun : Prop := Claims.MailboxReadsAnswer ∧ Claims.MailboxCommandsAct

/-! ## Tack and the diagnostic window -/

/-- A message of operation `op` reaches a carrier that is served. -/
def Claims.Delivered (m : TackIn) (t : TackMsg) (op : Nat) (s : State) : Prop := parseTack m.bytes = some t ∧ t.op = op ∧ carrierOpen m s = true

/-- A request of a live session of this sender: its tag holds, its SEQ is new and inside the window, and its format is right (R469 to R473). -/
def Claims.InSession (m : TackIn) (t : TackMsg) (x : Session) (s : State) : Prop :=
  t.session ≠ 0 ∧ sessionOf s t.session = some x ∧ x.live = true ∧ ownsSession m x = true ∧ formatOk t = true
    ∧ (x.tagged = false → t.tag = []) ∧ (x.tagged = true → t.tag = tackTag x.skey (tackHeader t.op t.session t.seq t.len t.flags t.status ++ t.payload))
    ∧ (∀ c ∈ x.cache, c.1 ≠ t.seq) ∧ t.seq ∉ x.waits ∧ t.seq ≠ 0 ∧ x.h ≤ t.seq + 7 ∧ t.seq ≤ x.h + 8

/-- R471, R473 and R474: HELLO opens the lowest free session and answers its number and nonce; AUTH with the right proof makes it live with the key of R471, a
wrong proof ends it, is counted, and is answered AUTH; the idle timeout closes a session. -/
def Obligations.TackSessionsOpenAndEnd : Prop :=
  ∀ (m : TackIn) (t : TackMsg) (x : Session) (n : Nat) (s : State),
    let role := leAt t.payload 0 1
    let world := leAt t.payload 1 1
    let others (u : State) (k : Nat) : Prop := ∀ j, j ≠ k → sessionOf u j = sessionOf s j
    let plain (session status : Nat) (payload : List Byte) (s : State) := sendTack m.carrier m.src (responseBytes t session none ⟨status, payload, false⟩) s
    let key := natLE 48 (rget (credentialFor x.role (x.world == 1)) 0 s)
    let word := authMessage t.session x
    let opening : Session := { carrier := m.carrier, src := m.src, role := role, world := world, secure := sessionWorld m (world == 1) s }
    (Claims.Delivered m t 1 s → helloBarred m s = false → t.tag = [] → formatOk t = true → t.len = 34 → t.session = 0 → rget Obj.LC_STATE 0 s ≠ 4 →
      1 ≤ role → role ≤ 3 → world ≤ 1 → sessionsOn m.carrier s < sessionLimit m.carrier s → bootstraps m role (world == 1) s = false →
      n ≠ 0 → n < 33 → sessionOf s n = none → (∀ k, k < n → k ≠ 0 → sessionOf s k ≠ none) →
      ∃ u d, exec (.hello m) s = .next u ∧ d.length = 32 ∧ others u n ∧ u.out = (plain n 0 d s).out ∧ u.regs = s.regs ∧ u.mem = s.mem
        ∧ sessionOf u n = some { opening with cnonce := t.payload.drop 2, dnonce := d })
    ∧ (Claims.Delivered m t 3 s → sessionOf s t.session = some x → x.live = false → ownsSession m x = true → t.tag = [] → formatOk t = true → t.len = 48 →
      rget (credentialFor x.role (x.world == 1)) 0 s ≠ 0 → roleOpen x.role s = true → t.payload = hmac key word →
      exec (.auth m) s = .next (plain t.session 0 (hmac key (ascii ['T', 'K', 'D', 'V'] ++ word))
        (setSession t.session (some { x with live := true, skey := hmac key (ascii ['T', 'K', 'S', 'K'] ++ x.cnonce ++ x.dnonce) }) s)))
    ∧ (Claims.Delivered m t 3 s → sessionOf s t.session = some x → x.live = false → ownsSession m x = true → t.tag = [] → formatOk t = true → t.len = 48 →
      t.payload ≠ hmac key word → ∃ u, exec (.auth m) s = .next u ∧ sessionOf u t.session = none ∧ others u t.session
        ∧ rget Obj.TACK_AUTH_FAILS 0 u = (rget Obj.TACK_AUTH_FAILS 0 s + 1) % 2 ^ 64 ∧ u.out = (plain t.session 9 [] s).out ∧ helloBarred m u = true ∧ u.mem = s.mem)
    ∧ (sessionOf s n = some x → ∃ u, exec (.tackIdleTimeout n) s = .next u ∧ sessionOf u n = none ∧ others u n ∧ u.out = s.out ∧ u.mem = s.mem)

/-- R466 to R468, R472, R475, R476, R479, R482 and R490: a request of a live session raises the session's highest SEQ, runs its operation, and is answered, tagged, with the operation's reply,
which the session keeps. GET answers an object's bytes from OFFSET on, SET runs the object's write, NEXT walks the defined objects, a segmented
transfer opens, takes its parts and is applied at its end, CLOSE ends the session. The tunnel carries a message as its mailbox's. -/
def Obligations.TackRequestsAnswer : Prop :=
  ∀ (m : TackIn) (t : TackMsg) (x : Session) (o : Obj) (g : Seg) (s s2 : State), Claims.InSession m t x s →
    let n := t.session
    let w : Who := ⟨n, x.role, x.secure⟩
    let s1 := setSession n (some { x with h := max x.h t.seq }) s
    let f (at_ k : Nat) := beNat ((t.payload.drop at_).take k)
    let answers (i : Instr) (payload : List Byte) (pending : Bool) (u : State) : Prop :=
      let b := responseBytes t n (if x.tagged then some x.skey else none) ⟨0, payload, pending⟩
      exec i s = .next (sendTack m.carrier m.src b (cacheTack b u))
    (Claims.Delivered m t 4 s → t.len = 0 → answers (.close m) [] false (closePath n s1))
    ∧ (Claims.Delivered m t 5 s → t.len = 0 → answers (.heartbeat m)
        (natLE 6 (now s) ++ s.hlt.health.take 4 ++ natLE 1 (rget Obj.FW_STATE 0 s) ++ natLE 1 (rget Obj.LC_STATE 0 s)) false s1)
    ∧ (Claims.Delivered m t 0x10 s → t.len = 8 → findObj (f 0 2) (f 2 1) = some o → sameObj o .DIAG_DATA = false → readStatus o w s1 = 0 →
        f 4 4 ≤ (getBytes o w s1).1.length → answers (.get m)
          (t.payload.take 3 ++ natBE 1 (typeCode o.ty) ++ natBE 4 (getBytes o w s1).1.length ++ ((getBytes o w s1).1.drop (f 4 4)).take 1432)
          (o.kind == 3 && commandPending o n s1) (getBytes o w s1).2)
    ∧ (Claims.Delivered m t 0x11 s → 4 ≤ t.len → findObj (f 0 2) (f 2 1) = some o → accessStatus o w true s1 = 0 → segOpen o s1 = false →
        runSet o w (t.payload.drop 4) s1 = (some 0, s2) → answers (.set m) (t.payload.take 3 ++ natBE 1 0) false s2)
    ∧ (Claims.Delivered m t 0x12 s → t.len = 4 → nextObj w (f 0 3) s1 = some o → answers (.next m)
        (natBE 2 o.index ++ natBE 1 o.sub ++ natBE 1 (typeCode o.ty) ++ natBE 4 (accessWord o)) false s1)
    ∧ (Claims.Delivered m t 0x20 s → t.len = 12 → findObj (f 0 2) (f 2 1) = some o → accessStatus o w true s1 = 0 → 8 ≤ f 8 2 →
        f 8 2 ≤ 1432 → o.marks.contains .seg = true → segOpen o s1 = false → x.seg = none → answers (.segBegin m) (natBE 2 (s.tack.nextTid % 65536) ++ natBE 2 0) false
          (setSession n (some { x with h := max x.h t.seq, seg := some ⟨s.tack.nextTid % 65536, o.index, o.sub, f 4 4, f 8 2, []⟩ })
            { s with tack := { s.tack with nextTid := (s.tack.nextTid % 65536 + 1) % 65536 } }))
    ∧ (Claims.Delivered m t 0x21 s → 8 ≤ t.len → x.seg = some g → g.tid = f 0 2 → f 4 4 % g.size = 0 → f 4 4 < g.total →
        (t.payload.drop 8).length = min g.size (g.total - f 4 4) →
        let g1 := { g with parts := tput [] g.parts (f 4 4) (t.payload.drop 8) }
        answers (.segData m) (natBE 2 g.tid ++ natBE 2 0 ++ natBE 4 (segReceived g1)) false (setSession n (some { x with h := max x.h t.seq, seg := some g1 }) s))
    ∧ (Claims.Delivered m t 0x22 s → t.len = 8 → x.seg = some g → g.tid = f 0 2 → segReceived g = g.total → crc32c (g.parts.flatMap (·.2)) = f 4 4 →
        findObj g.index g.sub = some o → runSet o w (g.parts.flatMap (·.2)) (setSession n (some { x with h := max x.h t.seq, seg := none }) s) = (some 0, s2) →
        answers (.segEnd m) (natBE 2 g.tid ++ natBE 2 0) false s2)
    ∧ (Claims.Delivered m t 5 s → m.carrier = 2 → t.len = 0 → answers (.patternBookTunnel ⟨m.src, false⟩ m.bytes) (heartbeatReply s).payload false s1)

/-- R477, R479 and R480: a pair frame whose tag holds and whose SEQ is new is taken as the partner's heartbeat, request or answer; another one is counted and discarded. Every
heartbeat event has the next EVSEQ and goes to each enabled destination. -/
def Claims.PairFramesAndEventHeartbeats : Prop :=
  (∀ (m : TackIn) (t : TackMsg) (s : State), m.carrier = 0 → rget Obj.PAIR_SECRET 0 s ≠ 0 → pairFrameOk t s = true →
    let s1 := { s with tack := { s.tack with partnerBoot := t.session, partnerSeq := t.seq } }
    let p := pairMsg t.payload
    (Claims.Delivered m t 0x40 s → exec (.pairHb m) s = .next (takeHeartbeat false (leAt t.payload 1 4) (leAt t.payload 5 8) (leAt t.payload 19 4) s1))
    ∧ (Claims.Delivered m t 0x41 s → bit t.flags 0 = false → exec (.pairMsg m) s = .next (takePairReq p none s1))
    ∧ (Claims.Delivered m t 0x41 s → bit t.flags 0 = true → exec (.pairMsg m) s = .next (takePairRsp p s1)))
  ∧ (∀ (m : TackIn) (t : TackMsg) (i : Instr) (s : State), m.carrier = 0 → rget Obj.PAIR_SECRET 0 s = 0 ∨ pairFrameOk t s = false →
    (Claims.Delivered m t 0x40 s ∧ i = .pairHb m) ∨ (Claims.Delivered m t 0x41 s ∧ i = .pairMsg m) → ∃ u, exec i s = .next u ∧ u = { s with regs := u.regs }
      ∧ rget Obj.PAIR_MGMT_DISCARDS 0 u = (rget Obj.PAIR_MGMT_DISCARDS 0 s + 1) % 2 ^ 64 ∧ SameRegsBut (SameReg .PAIR_MGMT_DISCARDS 0) s u)
  ∧ (∀ s : State, bookServed s = true → rget Obj.EVENT_HEARTBEAT 0 s ≠ 0 →
    let seq := (rget Obj.EVENT_SEQ 0 s + 1) % 2 ^ 32
    ∃ u, exec .eventHeartbeat s = .next u ∧ rget Obj.EVENT_SEQ 0 u = seq ∧ SameRegsBut (SameReg .EVENT_SEQ 0) s u ∧ u = { s with regs := u.regs, out := u.out }
      ∧ (s.clk.nixSilent = true → u.out = s.out)
      ∧ (s.clk.nixSilent = false → ∀ d o, (d = 0 ∧ o = Obj.EVENT_DEST_0) ∨ (d = 1 ∧ o = Obj.EVENT_DEST_1) → bit (rget o 0 s) 144 = true →
          ∃ b, .tackEvent d seq 0x70 (now s) b ∈ u.out))

/-- R492: a vendor's diagnostic access reads and writes 64 bytes of a local store; one that confidential mode refuses ends with CONFIDENTIAL, is counted, and has no other
effect; one out of range ends with RANGE. -/
def Claims.DiagnosticAccesses : Prop :=
  ∀ (w : Who) (data : List Byte) (s : State), bookServed s = true →
    let a := diagAddr s
    let base := a.unit * 131072 + a.addr
    let refused (i : Instr) : Prop := ∃ t, exec i s = .next t ∧ t = { s with regs := t.regs, out := .book w.path 6 :: s.out }
      ∧ rget Obj.DIAG_REFUSED 0 t = (rget Obj.DIAG_REFUSED 0 s + 1) % 2 ^ 64 ∧ SameRegsBut (SameReg .DIAG_REFUSED 0) s t
    (a.space = 2 → diagStatus w false s = 0 → ∃ t, exec (.diagDataRead w) s = .next t ∧ t = { s with out := .book w.path 0 :: s.out, cmdRes := t.cmdRes }
      ∧ Claims.resultAt .DIAG_DATA w.path t = some (loadBytes s.mem.ls base 64))
    ∧ (a.space = 2 → diagStatus w true s = 0 → data.length = 64 → ∃ t, exec (.diagDataWrite w data) s = .next t
      ∧ t = { s with out := .book w.path 0 :: s.out, mem := t.mem } ∧ loadBytes t.mem.ls base 64 = data
      ∧ (∀ b, b < base ∨ base + 64 ≤ b → tget 0 t.mem.ls b = tget 0 s.mem.ls b) ∧ t.mem.near = s.mem.near ∧ t.mem.far = s.mem.far)
    ∧ (accessStatus .DIAG_DATA w false s = 0 → diagInRange s a = true → diagConfidential s a = true → refused (.diagDataRead w))
    ∧ (accessStatus .DIAG_DATA w true s = 0 → diagInRange s a = true → diagConfidential s a = true → refused (.diagDataWrite w data))
    ∧ (accessStatus .DIAG_DATA w false s = 0 → diagInRange s a = false → exec (.diagDataRead w) s = .next (emit (.book w.path 7) s))
    ∧ (accessStatus .DIAG_DATA w true s = 0 → diagInRange s a = false → exec (.diagDataWrite w data) s = .next (emit (.book w.path 7) s))

/-- R477 to R480 and R492: pair frames, event heartbeats and the diagnostic window. -/
def Obligations.PairFramesEventsAndDiagnostics : Prop := Claims.PairFramesAndEventHeartbeats ∧ Claims.DiagnosticAccesses

/-! ## The Seam's ports and messages -/

/-- R322 to R325, R335 and R338, Table 14.2: a receiver starts training; training ends up at x16 or x8 with the lane maps found, or in LOOPBACK to the unit
itself, in MISMATCH with another unit than the configured partner, or DOWN with its cause for too few lanes or too long a flight; a port that goes DOWN
waits its time and looks again. -/
def Obligations.SeamPortsTrain : Prop :=
  ∀ (port unit flight cause : Nat) (rx tx : List Nat) (s : State), port < 2 →
    let q := seamOf s port
    let lanes := min (goodLanes rx) (goodLanes tx)
    let others (t : State) : Prop := (∀ x, x ≠ port → seamOf t x = seamOf s x) ∧ t.mem = s.mem
    let only (i : Instr) (q' : SeamPort) : Prop := ∃ t, exec i s = .next t ∧ seamOf t port = q' ∧ others t ∧ t = { s with seam := { s.seam with ports := t.seam.ports } }
    let falls (i : Instr) (cause : Nat) : Prop := ∃ t, exec i s = .next t ∧ (seamOf t port).st = 5 ∧ (seamOf t port).cause = cause ∧ others t
      ∧ rget Obj.SEAM_RETRAINS port t = (rget Obj.SEAM_RETRAINS port s + 1) % 2 ^ 64
    let trained (t : State) (st width : Nat) : Prop := (∀ l, l < 18 → bucketOf t 0x30 (port * 36 + l) = {}) ∧ t.mem = s.mem
      ∧ (let p := seamOf t port
         p.st = st ∧ p.width = width ∧ p.partner = unit ∧ p.flight = flight ∧ p.rxMap = rx ∧ p.txMap = tx)
    (q.st = 1 → rget Obj.SEAM_ENABLE port s = 1 → only (.seamDetect port) { q with st := 2 })
    ∧ (q.st = 2 → 8 ≤ lanes → flight ≤ 500 → unit ≠ ownUnit s → pairConfigured s = false ∨ (unit = partnerUnit s ∧ servesTandem s = false) →
        ∃ t, exec (.seamTrainingEnd port unit flight true rx tx) s = .next t ∧ trained t (if 16 ≤ lanes then 3 else 4) (if 16 ≤ lanes then 16 else 8))
    ∧ (q.st = 2 → 8 ≤ lanes → flight ≤ 500 → unit = ownUnit s → ∃ t, exec (.seamTrainingEnd port unit flight true rx tx) s = .next t ∧ trained t 7 0 ∧ others t)
    ∧ (q.st = 2 → 8 ≤ lanes → flight ≤ 500 → unit ≠ ownUnit s → pairConfigured s = true → unit ≠ partnerUnit s →
        ∃ t, exec (.seamTrainingEnd port unit flight true rx tx) s = .next t ∧ trained t 6 0 ∧ others t)
    ∧ (q.st = 2 → falls (.seamTrainingEnd port unit flight false rx tx) 1)
    ∧ (q.st = 2 → lanes < 8 → falls (.seamTrainingEnd port unit flight true rx tx) 1)
    ∧ (q.st = 2 → 8 ≤ lanes → 500 < flight → falls (.seamTrainingEnd port unit flight true rx tx) 2)
    ∧ (q.st = 5 → only (.seamDownTimeout port) { q with st := 1 })
    ∧ (q.st = 2 ∨ q.st = 7 → 1 ≤ cause → cause ≤ 6 → falls (.seamLinkDown port cause) cause)
    ∧ (q.st = 3 ∨ q.st = 4 → portUp s (1 - port) = true → q.unanswered = [] → q.outbox = [] → 1 ≤ cause → cause ≤ 6 → falls (.seamLinkDown port cause) cause)

/-- R321, R326, R327, R329, R330 and R363: a frame whose checks hold is taken: an IDLE or CTRL frame acknowledges and returns credits, a sequenced frame that is the expected one
is counted and its cell or message put before its receiver, and what comes from the partner shows it alive. A bad or unexpected frame is discarded and a replay asked for. Forced acknowledgement,
replay and a repeated NAK send what they must. -/
def Obligations.SeamFramesFlow : Prop :=
  ∀ (port : Nat) (f : List Byte) (s : State), port < 2 → portUp s port = true → s.seam.spareDue = [] → s.pair.waiting = [] →
    let q := seamOf s port
    let h := frameHead f
    let body := (f.drop 8).take h.used
    let good (kind : Nat) : Prop := frameGood f = true ∧ h.kind = kind ∧ h.ackv = false ∧ h.nak = false
    let expected : Prop := h.fseq = q.rxNext ∧ q.spoiled = none ∧ q.unacked + 1 < rget Obj.SEAM_ACK_COALESCE port s
    let q1 := { q with rxNext := (q.rxNext + 1) % 4096, unacked := q.unacked + 1, nakOut := false }
    let taken (i : Instr) (q' : SeamPort) : Prop := ∃ t, exec i s = .next t ∧ seamOf t port = q' ∧ (∀ x, x ≠ port → seamOf t x = seamOf s x) ∧ t.mem = s.mem
      ∧ t.out = s.out ∧ rget Obj.SEAM_FRAMES_RX port t = (rget Obj.SEAM_FRAMES_RX port s + 1) % 2 ^ 64
      ∧ (pairConfigured s = true → t.pair.heardSeam = now s + 1 ∧ t.pair.partnerSilent = false)
    let asks (i : Instr) : Prop := q.nakOut = false → ∃ t, exec i s = .next t ∧ (seamOf t port).nakOut = true ∧ (seamOf t port).rxNext = q.rxNext
      ∧ (seamOf t port).inbox = q.inbox ∧ t.out = .seamCtrl port {} (ackSeq q) true true :: s.out ∧ t.mem = s.mem
      ∧ rget Obj.SEAM_NAKS_SENT port t = (rget Obj.SEAM_NAKS_SENT port s + 1) % 2 ^ 64
    let cell := leNat (body.take 8)
    let head := leNat (body.take 16)
    let lines := if bits head 0 5 = 2 then bits head 21 12 + 1 else (bits head 21 12 + 1) / 64
    let credit := leNat ((f.drop 8).take 8)
    (good 0 → taken (.idleFrame port f) q)
    ∧ (good 3 → q.txq = [] → bit credit 48 = true → taken (.ctrlFrame port f)
        { q with freedByPartner := [bits credit 0 12, bits credit 12 12, bits credit 24 12, bits credit 36 12] })
    ∧ (good 3 → bit credit 48 = false → taken (.ctrlFrame port f) q)
    ∧ (good 1 → expected → h.ncell = 1 → msgTakes s (bits cell 0 5) h.vc = true → taken (.cellFrame port f)
        { q1 with inbox := q.inbox ++ [(⟨bits cell 0 5, h.vc, bits cell 5 16, 0, 0, 0, (body.drop 8).take 40⟩, 1)] })
    ∧ (good 2 → expected → h.sop = true → h.eop = false → taken (.dataFrame port f) { q1 with part := tput [] q.part h.vc body })
    ∧ (good 2 → expected → h.sop = true → h.eop = true → msgTakes s (bits head 0 5) h.vc = true → 16 ≤ body.length → bits head 0 5 = 2 → body.length = 16 →
        taken (.dataFrame port f) { q1 with part := tput [] q.part h.vc [], inbox := q.inbox ++ [(⟨2, h.vc, bits head 5 16, bits head 48 43, lines, bits head 96 32, []⟩, 1)] })
    ∧ (good 2 → expected → h.sop = true → h.eop = true → msgTakes s 1 h.vc = true → bits head 0 5 = 1 → body.length = 16 + 64 * lines → (bits head 21 12 + 1) % 64 = 0 →
        taken (.dataFrame port f) { q1 with part := tput [] q.part h.vc [], inbox := q.inbox ++ [(⟨1, h.vc, bits head 5 16, bits head 48 43, lines, bits head 96 32, body.drop 16⟩, 1)] })
    ∧ (frameGood f = false → asks (.cellFrame port f) ∧ asks (.idleFrame port f) ∧ asks (.dataFrame port f) ∧ asks (.ctrlFrame port f))
    ∧ (good 1 → h.fseq ≠ q.rxNext → asks (.cellFrame port f))
    ∧ (good 2 → h.fseq ≠ q.rxNext → asks (.dataFrame port f))
    ∧ (0 < q.unacked → ∃ t, exec (.ackForce port) s = .next t ∧ t.out = .seamCtrl port { credit := some q.freed } (ackSeq q) true false :: s.out
        ∧ seamOf t port = { q with unacked := 0, toReturn := [0, 0, 0, 0] } ∧ t.mem = s.mem)
    ∧ (q.replay ≠ [] → (∀ r ∈ q.replay, r.2 < 4) → ∃ t, exec (.seamReplayTimeout port) s = .next t
        ∧ t.out = (q.replay.map (fun r => Out.seamFrame port r.1 (ackSeq q) false false)).reverse ++ s.out
        ∧ seamOf t port = { q with replay := q.replay.map (fun r => (r.1, r.2 + 1)) } ∧ t.mem = s.mem
        ∧ rget Obj.SEAM_REPLAYS port t = (rget Obj.SEAM_REPLAYS port s + q.replay.length) % 2 ^ 64)
    ∧ (q.nakOut = true → ∃ t, exec (.nakResendTimeout port) s = .next t ∧ t.out = .seamCtrl port {} (ackSeq q) true true :: s.out
        ∧ seamOf t port = { q with unacked := 0 } ∧ rget Obj.SEAM_NAKS_SENT port t = (rget Obj.SEAM_NAKS_SENT port s + 1) % 2 ^ 64 ∧ t.mem = s.mem)
    ∧ exec (.skpOrderedSet port) s = .next s

/-- R332 to R335, R331 and R357: a lane's errors fill its bucket, and at the threshold a good spare is asked for; the spare's three messages move a lane of the transmitter and of the receiver;
loopback requests are echoed unchanged, and an echo is compared with what was sent, a difference or a missing echo being counted. -/
def Obligations.SparesAndLoopback : Prop :=
  ∀ (port lane spare sseq k : Nat) (lost : Bool) (pattern : List Byte) (w : SpareSwap) (s : State), port < 2 →
    let q := seamOf s port
    let b := bucketOf s 0x30 (port * 36 + lane)
    let others (t : State) : Prop := (∀ x, x ≠ port → seamOf t x = seamOf s x) ∧ t.mem = s.mem
    let sends (i : Instr) (q' : SeamPort) (body : CtrlBody) : Prop := ∃ t, exec i s = .next t ∧ seamOf t port = q' ∧ others t
      ∧ t.out = .seamCtrl port body (ackSeq q) false false :: s.out
    let fails (i : Instr) : Prop := ∃ t, exec i s = .next t ∧ (seamOf t port).loop = none ∧ others t ∧ t.out = s.out
      ∧ rget Obj.SEAM_LOOPBACK_FAILS 0 t = (rget Obj.SEAM_LOOPBACK_FAILS 0 s + 1) % 2 ^ 64
    (portUp s port = true → s.seam.spareDue = [] → lane < 18 → b.held = false → b.level + 1 < 32 → ∃ t, exec (.blockLockLoss port [lane] lost) s = .next t
      ∧ (bucketOf t 0x30 (port * 36 + lane)).level = b.level + 1 ∧ t.seam = s.seam ∧ t.mem = s.mem)
    ∧ (q.st = 3 → q.width = 16 → s.seam.spareDue = [] → lane < 18 → b.held = false → b.level = 31 → q.rxMap.idxOf lane = k → k < 16 → q.rxMap.getD 16 31 < 18 →
        q.rxMap.getD 16 31 ∉ q.rxBad → q.swap = none → lost = false → ∃ t, exec (.blockLockLoss port [lane] lost) s = .next t ∧ others t
        ∧ seamOf t port = { q with sseq := (q.sseq + 1) % 256, swap := some ⟨k, 0, (q.sseq + 1) % 256, false⟩ }
        ∧ .seamCtrl port { spare := some (k, 0, 1, (q.sseq + 1) % 256) } (ackSeq q) false false ∈ t.out)
    ∧ (portUp s port = true → lane < 16 → spare < 2 → sends (.spareReq port lane spare sseq) { q with copy := some (lane, spare, sseq) }
        { spare := some (lane, spare, 2, sseq) })
    ∧ (portUp s port = true → q.swap = some w → w.sseq = sseq → w.confirmed = false →
        let old := q.rxMap.getD w.lane 31
        let map := (q.rxMap.set w.lane (q.rxMap.getD (16 + w.spare) 31)).set (16 + w.spare) old
        sends (.spareConf port sseq true) { q with rxMap := map, rxBad := old :: q.rxBad, swap := some { w with confirmed := true } }
          { spare := some (w.lane, w.spare, 3, sseq) })
    ∧ (portUp s port = true → q.copy = some (lane, spare, sseq) → ∃ t, exec (.spareDone port lane spare sseq) s = .next t ∧ others t ∧ t.out = s.out
        ∧ (let old := q.txMap.getD lane 31
           let map := (q.txMap.set lane (q.txMap.getD (16 + spare) 31)).set (16 + spare) old
           seamOf t port = { q with txMap := map, txBad := old :: q.txBad, copy := none }))
    ∧ (portUp s port = true → q.swap = some w → w.confirmed = false → q.copy = none → sends (.spareResend port) q { spare := some (w.lane, w.spare, 1, w.sseq) })
    ∧ (portUp s port = true → q.swap = none → q.copy = some (lane, spare, sseq) → sends (.spareResend port) q { spare := some (lane, spare, 2, sseq) })
    ∧ (portUp s port = true ∨ q.st = 7 → sends (.loopbackRequest port pattern) q { loopback := some (2, pattern) })
    ∧ (q.loop = some pattern → ∃ t, exec (.loopbackEcho port pattern) s = .next t ∧ seamOf t port = { q with loop := none } ∧ others t ∧ t.regs = s.regs
        ∧ t.out = s.out ∧ t.hlt.echoes = (s.hlt.echoes + 1) % 4294967296 ∧ t.hlt.echoFails = s.hlt.echoFails)
    ∧ (∀ sent, q.loop = some sent → sent ≠ pattern → fails (.loopbackEcho port pattern))
    ∧ (∀ sent, q.loop = some sent → fails (.loopbackEchoTimeout port))
    ∧ (∃ t, exec .seamLoopbackPeriod s = .next t ∧ t.mem = s.mem ∧ (portUp s port = false → seamOf t port = q)
        ∧ (portUp s port = true → let next := prbsBytes 127 (if q.prbs = 0 then 8388607 else q.prbs)
          seamOf t port = { q with prbs := next.2, loop := some next.1 } ∧ .seamCtrl port { loopback := some (1, next.1) } (ackSeq q) false false ∈ t.out))

/-- R336, R337, R339, R361, R362 and R367: a mirror write that may be applied becomes a device write at its home slice, whose MACK its tag waits for, and another one gets its refusal; a MACK completes the host
write that waits for it; a fetch is answered by its lines or by its reason; what a fetch brings stands in the near shore; a claim is granted or refused, folded or marked granted, and a marked span is claimed. -/
def Obligations.SeamMessagesAct : Prop :=
  ∀ (port line n span : Nat) (m : SeamMsg) (f : Fetch) (c : Claim) (r : Req) (s s1 : State),
    let word (from_ k : Nat) := leNat ((m.bytes.drop from_).take k)
    let takes (mtype : Nat) : Prop := takeSeam port (fun x => x.mtype == mtype) s = some (m, s1)
    let applies (i : Instr) (data : List Byte) (poison : Bool) : Prop :=
      exec i s = .next (homeRequest ⟨.dev (seamBase + m.tag * 2 + port), none, m.line, .devWrite data fullMask poison, 0xFF, 0, false, 0, 0, now s1, .cmp⟩
        { s1 with seam := { s1.seam with applying := s1.seam.applying ++ [(port, m.tag, 1)] } })
    let answers (i : Instr) (a : SeamMsg) : Prop := exec i s = .next (putMsg port a s1)
    let first := bits (word 12 5) 0 33
    (takes 1 → m.mtype = 1 → m.n = 1 → m.bytes.length = 64 → writeStatus m s1 = 0 → applies (.mwrite port) m.bytes false)
    ∧ (takes 2 → m.mtype = 2 → m.n = 1 → writeStatus m s1 = 0 → applies (.mpoison port) (List.replicate 64 0) true)
    ∧ (takes 1 → writeStatus m s1 ≠ 0 → answers (.mwrite port) ⟨3, 1, m.tag, 0, 0, 0, natLE 4 (writeStatus m s1) ++ natLE 4 s1.pair.claim⟩)
    ∧ (∀ ld tag, takes 3 → word 0 1 = 0 → s1.pair.unmacked = [(port, m.tag, some r)] → r.src = .host ld tag → (ldOf s1 ld).enabled = true → agentDead s1 (ldOf s1 ld).agent = false →
        linkServes s1 (linkOfLd s1 ld) = true → s1.mf.conflicts = [] → s1.pair.handover = 0 → s1.seam.claims = [] → beats (word 4 4) (partnerUnit s1) s1.pair.claim (ownUnit s1) = false →
        ∃ t load, exec (.mack port) s = .next t ∧ t.pair.unmacked = [] ∧ t.pair.partnerClaim = word 4 4 ∧ .memRsp ld tag r.cmp none false load ∈ t.out ∧ t.mem = s1.mem)
    ∧ (takes 4 → line = bits (word 0 8) 0 43 → n = word 8 2 → fetchRefusal s1 line n = none →
        answers (.fetch port) ⟨5, 3, m.tag, line, n, 0, ((List.range n).map (· + line)).flatMap (fun l => (lineNow s1 l).1)⟩)
    ∧ (∀ why, takes 4 → fetchRefusal s1 (bits (word 0 8) 0 43) (word 8 2) = some why → answers (.fetch port) ⟨6, 1, m.tag, 0, 0, 0, natLE 1 why⟩)
    ∧ (takes 5 → s1.seam.fetches = [f] → f.tag = m.tag → f.want = [line] → f.why = .lost ∨ f.why = .repair → (fetchedLine f m.bytes line).length = 64 → s1.mf.waits = [] →
        ∃ t, exec (.fdata port) s = .next t ∧ t.seam.fetches = [] ∧ nearLine t line = fetchedLine f m.bytes line ∧ nearPoisoned t line = false ∧ t.mem.far = s1.mem.far)
    ∧ (takes 6 → s1.seam.fetches = [f] → f.tag = m.tag → f.want = [line] → f.why = .repair → s1.mf.waits = [] → containsByReset s1 (homeOf s1 (tileOfLine line)) line = false →
        ∃ t, exec (.fnak port) s = .next t ∧ t.seam.fetches = [] ∧ nearPoisoned t line = true ∧ t.mem.far = s1.mem.far)
    ∧ (takes 7 → (∀ a ∈ s1.seam.answered, a.1 ≠ m.tag) → rangeTandem s1 first (word 20 5) = true → pairMatched s1 = true → s1.seam.claims = [] → s1.pair.role ≠ 3 →
        let reply := claimAckPayload 0 (word 0 4) (word 4 8) m.tag first (word 20 5)
        exec (.claim port) s = .next (putMsg port ⟨8, 1, m.tag, 0, 0, 0, reply⟩ { s1 with seam := { s1.seam with answered := (m.tag, word 4 8, reply) :: s1.seam.answered } }))
    ∧ (takes 7 → (∀ a ∈ s1.seam.answered, a.1 ≠ m.tag) → rangeTandem s1 first (word 20 5) = false ∨ pairMatched s1 = false →
        let reply := claimAckPayload 2 (word 0 4) (word 4 8) m.tag first (word 20 5)
        exec (.claim port) s = .next (putMsg port ⟨8, 1, m.tag, 0, 0, 0, reply⟩ { s1 with seam := { s1.seam with answered := (m.tag, word 4 8, reply) :: s1.seam.answered } }))
    ∧ (takes 8 → s1.seam.claims = [c] → c.tag = m.tag → c.st = 1 ∨ c.st = 3 → word 0 1 = 1 → s1.pair.role = 3 → ∃ t, exec (.claimAck port) s = .next t ∧ t.seam.claims = []
        ∧ t.mem = s1.mem ∧ (word 8 8 = partnerUnit s1 → t.pair.partnerClaim = word 4 4))
    ∧ (takes 8 → s1.seam.claims = [c] → c.tag = m.tag → c.st = 1 → word 0 1 = 0 → exec (.claimAck port) s
        = .next (afterMack (sendTransfer c.first c.count (let u := settleRequest m.tag s1; { u with seam := { u.seam with claims := [{ c with st := 2 }] } }))))
    ∧ (servesTandem s = true → s.pair.mirror = 2 → span ∈ s.pair.resync → s.seam.claims = [] → writesOpen s (span * 1024) 1024 = false → lowPort s = some port →
        ∃ t, exec (.resyncClaim span) s = .next t ∧ t.seam.claims = [⟨tagOnPort s port, span * 1024, 1024, 1⟩] ∧ t.mem = s.mem
        ∧ rget Obj.SEAM_CLAIMS_SENT 0 t = (rget Obj.SEAM_CLAIMS_SENT 0 s + 1) % 2 ^ 64)

/-! ## Pairs -/

/-- A pair message of the partner, PRIMARY with the better claim, reaches a STANDBY unit. -/
structure Claims.Standby (p : PairMsg) (s : State) : Prop where
  role : s.pair.role = 2 ∧ p.role = 1
  partner : pairConfigured s = true ∧ p.unit = partnerUnit s
  beaten : beats p.claim p.unit s.pair.claim (ownUnit s) = true

/-- What a STANDBY unit notes of its PRIMARY partner. -/
def Claims.noted (p : PairMsg) (s : State) : State := { s with pair := { s.pair with partnerRole := 1, partnerSeen := true, partnerClaim := p.claim } }

/-- R359, R360, R364, R366, R367 and R369, Table 15.10: a STANDBY unit answers the requests of its PRIMARY: JOIN compares the key check and keeps the firmware set, LEASE is echoed, HANDOVER makes it PRIMARY with
a new claim, REGION creates the tandem region under its number or removes it, VERIFY returns the CRC-32C of its own copy. A serving unit whose partner's TAKEOVER carries the better claim steps down to STALE, and one
that gets STEPDOWN marks the spans it names. A LEASE answer moves the lease's end. -/
def Obligations.PairRequestsAnswer : Prop :=
  ∀ (port : Nat) (m : SeamMsg) (s s1 : State),
    let p := pairMsg m.bytes
    let takes (op : Nat) : Prop := takeSeam port (fun x => x.mtype == 9 && (pairMsg x.bytes).op == op) s = some (m, s1) ∧ p.op = op
    let u := Claims.noted p s1
    let reply (op status time a b : Nat) (v : State) := putMsg port ⟨10, 1, m.tag, 0, 0, 0, pairPayload v op status time a b⟩ v
    let a := createArg p.arg1
    (takes 1 → Claims.Standby p s1 → ∃ t, exec (.pairJoin port) s = .next t ∧ rget Obj.FW_PARTNER_SET_ID 0 t = p.arg2 ∧ t.pair.partnerSet = p.arg2 ∧ t.pair.role = 2 ∧ t.mem = s1.mem
        ∧ rget Obj.PAIR_KEY_MATCH 0 t = b2n (rget Obj.PAIR_SECRET 0 s1 != 0 && p.arg1 == pairKeyCheck s1))
    ∧ (takes 2 → Claims.Standby p s1 → exec (.pairLease port) s = .next (reply 2 0 p.time 0 0 { u with pair := { u.pair with lastEcho := now u } }))
    ∧ (takes 3 → Claims.Standby p s1 → s1.pair.waiting = [] → max s1.red.unitCtr p.claim + 1 < 4294967296 → ∃ t, exec (.pairHandover port) s = .next t ∧ t.pair.role = 1
        ∧ t.pair.claim = 1 + max s1.red.unitCtr p.claim ∧ t.pair.mirror = 0 ∧ t.pair.partnerRole = 3 ∧ t.mem = s1.mem)
    ∧ (takes 4 → s1.pair.role = 1 ∨ s1.pair.role = 4 → p.role = 5 → pairConfigured s1 = true → p.unit = partnerUnit s1 → beats p.claim p.unit s1.pair.claim (ownUnit s1) = true →
        s1.pair.waiting = [] → ∃ t, exec (.pairTakeover port) s = .next t ∧ t.pair.role = 3 ∧ t.pair.mirror = 1 ∧ t.pair.resync = [] ∧ t.pair.partnerClaim = p.claim)
    ∧ (takes 5 → Claims.Standby p s1 → exec (.pairStepdown port) s = .next (reply 5 0 0 0 0 u))
    ∧ (takes 5 → s1.pair.role = 4 → pairConfigured s1 = true → p.unit = partnerUnit s1 → beats p.claim p.unit s1.pair.claim (ownUnit s1) = false →
        ∃ t, exec (.pairStepdown port) s = .next t ∧ (∀ sp, p.arg1 ≤ sp → sp < p.arg1 + p.arg2 → sp ∈ t.pair.resync) ∧ t.mem = s1.mem)
    ∧ (takes 6 → Claims.Standby p s1 → p.arg1 ≠ 0 → p.arg2 < 8192 → (regionOf s1 p.arg2).st = 0 → a.cls = 2 → a.size ≠ 0 → rangeFree s1 a.base a.size = true →
        ∃ t, exec (.pairRegion port) s = .next t ∧ (∀ k, k ≠ p.arg2 → regionOf t k = regionOf s1 k) ∧ t.mem = s1.mem
        ∧ (let g := regionOf t p.arg2
           g.st = 2 ∧ g.base = a.base ∧ g.size = a.size ∧ g.cls = 2 ∧ g.owner = a.owner ∧ g.world = a.world ∧ g.share = a.share ∧ g.privLd = a.privLd))
    ∧ (takes 6 → Claims.Standby p s1 → p.arg1 = 0 → (regionOf s1 p.arg2).st = 2 → (regionOf s1 p.arg2).cls = 2 →
        ∃ t, exec (.pairRegion port) s = .next t ∧ (regionOf t p.arg2).st = 3 ∧ t.mem = s1.mem)
    ∧ (takes 7 → Claims.Standby p s1 → exec (.pairVerify port) s = .next (reply 7 0 0 p.arg1 (tileNowCrc u p.arg1) u))
    ∧ (takeSeam port (fun x => x.mtype == 10) s = some (m, s1) → pairConfigured s1 = true → p.unit = partnerUnit s1 → p.op = 2 → p.status = 0 → s1.pair.role = 1 → s1.pair.waiting = [] →
        beats p.claim p.unit s1.pair.claim (ownUnit s1) = false → ∃ t, exec (.pairRsp port) s = .next t ∧ t.pair.leaseEnd = max s1.pair.leaseEnd (p.time + usTicks 50) ∧ t.mem = s1.mem
        ∧ t.pair.partnerClaim = p.claim)

/-- R363 to R366 and R369, Table 15.9: heartbeats tell the partner's claim and health and are sent on every path; a STANDBY unit that hears nothing takes over with a higher claim, a serving one goes on alone or halts as
PAIR_SILENCE_POLICY says; a unit in TAKING serves when its old partner's lease must have ended; the overlap window closes; a primary verifies tile by tile. -/
def Claims.PairTimersAct : Prop :=
  ∀ (port hseq claim unit time health tile : Nat) (s : State), pairConfigured s = true → s.pair.waiting = [] →
    let silent : Prop := pathSilent s s.pair.heardMgmt = true ∧ pathSilent s s.pair.heardSeam = true ∧ s.pair.partnerSilent = false
    let next := 1 + max s.red.unitCtr s.pair.partnerClaim
    (portUp s port = true → unit = partnerUnit s → s.pair.role = 2 → ∃ t, exec (.seamHeartbeat port hseq claim unit time health) s = .next t ∧ t = { s with pair := t.pair }
        ∧ t.pair = { s.pair with partnerHealth := health, heardSeam := now s + 1, partnerSilent := false, halted := false, partnerClaim := claim })
    ∧ (∃ t, exec .pairHeartbeatSend s = .next t ∧ t.mem = s.mem ∧ t.pair.role = s.pair.role
        ∧ (mgmtOpen s = true → .pairHb ((s.pair.hbSeq + 1) % 256) s.pair.claim (ownUnit s) (now s) (leNat (s.hlt.health.take 4)) ∈ t.out)
        ∧ (∀ p, p < 2 → portUp s p = true → let n := ((seamOf s p).hseq + 1) % 256
            (seamOf t p).hseq = n ∧ .seamCtrl p { heartbeat := some (n, s.pair.claim, ownUnit s, now s, leNat (s.hlt.health.take 4)) } (ackSeq (seamOf s p)) false false ∈ t.out))
    ∧ (silent → s.pair.role = 2 → next < 4294967296 → ∃ t, exec .partnerSilent s = .next t ∧ t.pair.role = 5 ∧ t.pair.claim = next ∧ t.pair.partnerSilent = true
        ∧ rget Obj.PAIR_TAKEOVERS 0 t = (rget Obj.PAIR_TAKEOVERS 0 s + 1) % 2 ^ 64 ∧ t.mem = s.mem)
    ∧ (silent → servesTandem s = true → rget Obj.PAIR_SILENCE_POLICY 0 s = 1 → exec .partnerSilent s = .next { s with pair := { s.pair with partnerSilent := true, halted := true } })
    ∧ (silent → servesTandem s = true → rget Obj.PAIR_SILENCE_POLICY 0 s = 0 → ∃ t, exec .partnerSilent s = .next t ∧ t.pair.role = 4 ∧ t.pair.mirror = 1 ∧ t.pair.unmacked = [] ∧ t.mem = s.mem)
    ∧ exec .leaseLapse s = .next s
    ∧ (s.pair.role = 5 → rget Obj.PAIR_MODE 0 s = 1 ∨ s.pair.lastEcho + 1313 ≤ now s → ∃ t, exec .takingServeStart s = .next t ∧ (t.pair.role = 4 ∨ t.pair.role = 1) ∧ t.mem = s.mem)
    ∧ (s.pair.role = 5 → rget Obj.PAIR_MODE 0 s = 0 → now s < s.pair.lastEcho + 1313 → exec .takingServeStart s = .next s)
    ∧ (s.pair.overlapUntil ≤ now s → exec .overlapWindowEnd s = .next { s with pair := { s.pair with overlapUntil := 0 } })
    ∧ (s.pair.role = 1 → s.pair.mirror = 0 → nextVerify s s.pair.verifyNext = some tile → ∃ t, exec .pairVerifyPeriod s = .next t
        ∧ t.pair = { s.pair with verifyNext := tile + 1, verify := some (tile, tileNowCrc s tile) } ∧ t.mem = s.mem)

/-- R325, R359, R365 and R366: PAIR_HANDOVER makes the primary hold tandem requests until every MACK has come, then ask the partner; PAIR_FORCE_PRIMARY makes a STALE or STANDBY unit take over with a new claim at once; PAIR_PARTNER_UNIT 0 unpairs
the unit, a serving one running on as SOLO. -/
def Claims.PairCommandsAct : Prop :=
  ∀ (w : Who) (s : State), s.pair.waiting = [] →
    let open_ : Bool := [0, 1].any (fun p => ((seamOf s p).unanswered ++ (seamOf s p).outbox).any (fun m => m.mtype == 1 || m.mtype == 2))
    let next := 1 + max s.red.unitCtr s.pair.partnerClaim
    (Claims.Runs .PAIR_HANDOVER w s → s.pair.role = 1 → s.pair.handover = 0 → s.pair.unmacked = [] → open_ = false →
      ∃ t, exec (.pairHandoverCmd w) s = .next t ∧ t.pair = { s.pair with handover := 2 } ∧ t.mem = s.mem)
    ∧ (Claims.Runs .PAIR_HANDOVER w s → s.pair.role = 1 → s.pair.handover = 0 → s.pair.unmacked ≠ [] ∨ open_ = true →
      ∃ t, exec (.pairHandoverCmd w) s = .next t ∧ t.pair = { s.pair with handover := 1 } ∧ t.mem = s.mem ∧ t.seam = s.seam)
    ∧ (Claims.Runs .PAIR_FORCE_PRIMARY w s → s.pair.role = 2 ∨ s.pair.role = 3 → next < 4294967296 → ∃ t, exec (.pairForcePrimary w) s = .next t ∧ t.pair.role = 5 ∧ t.pair.claim = next
      ∧ t.pair.handover = 0 ∧ rget Obj.PAIR_TAKEOVERS 0 t = (rget Obj.PAIR_TAKEOVERS 0 s + 1) % 2 ^ 64 ∧ t.mem = s.mem)
    ∧ (Claims.Runs .PAIR_PARTNER_UNIT w s → rget Obj.PAIR_PARTNER_UNIT 0 s ≠ 0 → servesTandem s = true → ∃ t, exec (.pairPartnerUnit w 0) s = .next t ∧ rget Obj.PAIR_PARTNER_UNIT 0 t = 0
      ∧ t.pair.role = 4 ∧ t.pair.mirror = 3 ∧ t.pair.partnerSeen = false ∧ t.pair.resync = [] ∧ t.mem = s.mem)
    ∧ (Claims.Runs .PAIR_PARTNER_UNIT w s → ∀ unit, 2 ^ 64 ≤ unit → exec (.pairPartnerUnit w unit) s = .next (emit (.book w.path 7) s))

/-- R359 to R369: what a pair's timers and commands do. -/
def Obligations.PairTimersAndCommandsAct : Prop := Claims.PairTimersAct ∧ Claims.PairCommandsAct

/-! ## The manifest planes and the self-tests -/

/-- R345 to R348 and R352: the second plane's answer closes its merge entry, a different one or a late one being a divergence whose line is resolved at the marker; the command of a plane with the current claim is executed and the follower's
held and compared, an old claim is refused and counted; TAKEOVER needs a higher claim, and the dual-issue window ends the old one. -/
def Obligations.PlanesAreCompared : Prop :=
  ∀ (tag cmp plane stage step line what claim kind charged failed : Nat) (m : MergeEntry) (s : State),
    let merging : Prop := s.red.merges = [m] ∧ mergeOf tag m = true
    let c : PlaneCmd := ⟨stage, tag, step, line, what⟩
    let exact (i : Instr) (red : Redund) : Prop := exec i s = .next { s with red := red }
    let diverges (i : Instr) (red : Redund) (e : Nat × Nat × Nat × Nat × Nat) : Prop := ∃ t, exec i s = .next t ∧ t.red = { red with resolving := s.red.resolving ++ [e] }
      ∧ t.mem = s.mem ∧ t.mf = s.mf ∧ rget Obj.DIVERGENCES 0 t = (rget Obj.DIVERGENCES 0 s + 1) % 2 ^ 64
    let stale (i : Instr) : Prop := ∃ t, exec i s = .next t ∧ t = { s with regs := t.regs } ∧ rget Obj.PLANE_STALE_REFUSED 0 t = (rget Obj.PLANE_STALE_REFUSED 0 s + 1) % 2 ^ 64
      ∧ SameRegsBut (SameReg .PLANE_STALE_REFUSED 0) s t
    let current : Prop := claim = s.red.claimNow ∨ s.red.claimOld = some claim
    let cmd : Instr := .planeCommand plane stage tag step line what claim
    (merging → cmp = cmpCode m.cmp → exact (.planeAnswer tag cmp true) { s.red with merges := [] })
    ∧ (merging → cmp ≠ cmpCode m.cmp → ∀ same, diverges (.planeAnswer tag cmp same) { s.red with merges := [] } (m.line, 1, 0, tag, 0))
    ∧ (merging → diverges (.planeAnswer tag cmp false) { s.red with merges := [] } (m.line, 1, 0, tag, 0))
    ∧ (merging → s.red.held = [] → s.red.done = [] → diverges (.mergeWindowExpiry tag) { s.red with merges := [] } (m.line, 3, 0, tag, 0))
    ∧ (s.red.done = [] → s.red.held = [] → current → tandemMode s = true → exact cmd { s.red with done := [c] })
    ∧ (s.red.done = [] → s.red.held = [] → ¬ current → planeState s plane = 1 → exact cmd { s.red with held := [c] })
    ∧ (s.red.done = [] → s.red.held = [] → ¬ current → planeState s plane ≠ 1 → stale cmd)
    ∧ (s.red.done = [c] → current ∨ planeState s plane = 1 → exact cmd { s.red with done := [] })
    ∧ (∀ d : PlaneCmd, s.red.done = [d] → sameCid c d = true → d.line ≠ line ∨ d.what ≠ what → current ∨ planeState s plane = 1 →
        diverges cmd { s.red with done := [] } (d.line, 2, 0, tag, step))
    ∧ (s.red.resolving = [(line, kind, charged, tag, step)] → lineBusy s line = false → tget {} s.mf.planeA.entries line = {} → tget {} s.mf.planeB.entries line = {} → s.mf.waits = [] →
        (bucketOf s 0x50 0).held = false → (bucketOf s 0x50 0).level < 7 → (bucketOf s 0x50 1).held = false → (bucketOf s 0x50 1).level < 7 → s.boot.held = 0 → s.red.divLog.length < 1024 →
        ∃ t, exec (.resolveMarker line failed) s = .next t ∧ t.red.resolving = [] ∧ t.mem = s.mem
        ∧ t.red.divLog = s.red.divLog ++ [⟨kind, chargedFor kind charged failed, 0, tag, step, line, (regionAtLine s line).getD 0x1FFF, now s⟩])
    ∧ (s.red.claimNow < claim → plane < 2 → planeState s plane = 0 → exact (.takeover plane claim)
        { s.red with claimOld := some s.red.claimNow, claimNow := claim, done := s.red.done ++ s.red.held, held := [] })
    ∧ (claim ≤ s.red.claimNow → exec (.takeover plane claim) s = .next s)
    ∧ (s.red.claimNow < claim → plane < 2 → planeState s plane = 1 → planeState s (1 - plane) = 2 → ∃ t, exec (.takeover plane claim) s = .next t ∧ planeState t plane = 0
        ∧ planeState t (1 - plane) = 2 ∧ t.red.claimNow = claim ∧ rget Obj.PLANE_TAKEOVERS 0 t = (rget Obj.PLANE_TAKEOVERS 0 s + 1) % 2 ^ 64 ∧ t.mem = s.mem)
    ∧ (tandemMode s = true → exact .dualIssueWindowEnd { s.red with claimOld := none }) ∧ (tandemMode s = false → exact .dualIssueWindowEnd { s.red with claimOld := none, done := [] })

/-- R350, R351, R353 and R354: a path that falls silent is a path fault, and with both silent the plane is retired while the other serves; PLANE_RETIRE retires a plane unless it is the last that serves, and PLANE_REJOIN takes a
retired plane back, set by set, with three new claims. -/
def Obligations.PlanesFenceAndRejoin : Prop :=
  ∀ (p path set : Nat) (w : Who) (s : State), p < 2 → path < 2 →
    let me := planeState s p
    let other := planeState s (1 - p)
    let retires (i : Instr) : Prop := ∃ t, exec i s = .next t ∧ planeState t p = 2 ∧ planeState t (1 - p) = other ∧ t.mem = s.mem ∧ t.mf = s.mf
    let mine (t : State) : Plane := if p = 0 then t.mf.planeA else t.mf.planeB
    let result (o : Obj) (t : State) (v : Nat) : Prop := Claims.resultAt o w.path t = some (natLE 8 v)
    (bit s.red.silent (pathBit p path) = true → exec (.planeHeartbeat p path) s = .next { s with red := { s.red with silent := s.red.silent - 2 ^ pathBit p path } })
    ∧ (me ≠ 2 → bit s.red.silent (pathBit p path) = false → bit s.red.silent (pathBit p (1 - path)) = false →
        exec (.planeSilence p path) s = .next { s with red := { s.red with silent := s.red.silent + 2 ^ pathBit p path } })
    ∧ (me = 0 ∨ me = 1 → other = 0 ∨ other = 1 → bit s.red.silent (pathBit p path) = false → bit s.red.silent (pathBit p (1 - path)) = true → retires (.planeSilence p path))
    ∧ (Claims.Runs .PLANE_RETIRE w s → me = 0 ∨ me = 1 → other = 0 ∨ other = 1 → retires (.planeRetire w (0x41 + p)))
    ∧ (Claims.Runs .PLANE_RETIRE w s → me = 0 ∨ me = 1 → other = 2 ∨ other = 3 → ∃ t, exec (.planeRetire w (0x41 + p)) s = .next t ∧ t.red = s.red ∧ result .PLANE_RETIRE t 1 ∧ t.mem = s.mem)
    ∧ (Claims.Runs .PLANE_REJOIN w s → (∃ c ∈ inService s, c % 2 = p) → me ≠ 2 → ∃ t, exec (.planeRejoin w (0x41 + p)) s = .next t ∧ t.red = s.red ∧ result .PLANE_REJOIN t 2 ∧ t.mem = s.mem)
    ∧ (Claims.Runs .PLANE_REJOIN w s → (∃ c ∈ inService s, c % 2 = p) → me = 2 → ∃ t, exec (.planeRejoin w (0x41 + p)) s = .next t ∧ planeState t p = 3 ∧ planeState t (1 - p) = other
        ∧ t.red.planeCtr = s.red.planeCtr + 3 ∧ t.red.copied = [] ∧ mine t = {} ∧ result .PLANE_REJOIN t 0 ∧ t.mem = s.mem)
    ∧ (rejoining s = some p → set ∉ s.red.copied → set < setCount s → s.red.copied.length + 1 ≠ setCount s → 
        ∃ t, exec (.copyMarker set) s = .next t ∧ t.red = { s.red with copied := set :: s.red.copied } ∧ t.mem = s.mem ∧ (∀ o, planeState t o = planeState s o))
    ∧ (rejoining s = some p → set ∉ s.red.copied → set < setCount s → s.red.copied.length + 1 = setCount s → ∃ t, exec (.copyMarker set) s = .next t ∧ planeState t p = 1
        ∧ t.red.copied = [] ∧ bucketOf t 0x50 p = {} ∧ t.mem = s.mem)

/-- R355, R356 and R358: a scrub marker counts its set and raises what it finds; a panel test takes the panel's next window, and a failure is counted, shown and fed to its bucket; the report is refreshed with its summary, HEALTH_CLEAR clears
the sticky bits and DIV_LOG_CLEAR the divergence log. -/
def Obligations.SelfTestsReport : Prop :=
  ∀ (set line panel : Nat) (w : Who) (s : State),
    let q := panelOf s panel
    let h := s.hlt
    let idle : Prop := panel < 60 ∧ q.st = 0 ∧ q.berth = 0xFF ∧ q.job = 0 ∧ rget Obj.FW_STATE 0 s ≠ 2
    let tested (t : State) : Prop := t.hlt.panelTests = (h.panelTests + 1) % 4294967296 ∧ tget 0 t.hlt.testWindow panel = (tget 0 h.testWindow panel + 1) % 32
      ∧ (panelOf t panel).stale = true ∧ t.mem = s.mem
    (h.scrubbed + 1 ≠ setCount s → exec (.mfScrubMarker set [] [] []) s = .next { s with hlt := { h with scrubbed := h.scrubbed + 1 } })
    ∧ (h.scrubbed + 1 = setCount s → exec (.mfScrubMarker set [] [] []) s
        = .next { s with hlt := { h with scrubbed := 0, scrubEnd := now s, scrubPasses := (h.scrubPasses + 1) % 4294967296 } })
    ∧ (setOf s line = set → ∃ t, exec (.mfScrubMarker set [line] [] []) s = .next t ∧ t.red = { s.red with resolving := s.red.resolving ++ [(line, 5, 1, 0, 0)] } ∧ t.mem = s.mem
        ∧ rget Obj.DIVERGENCES 0 t = (rget Obj.DIVERGENCES 0 s + 1) % 2 ^ 64)
    ∧ (setOf s line = set → tandemMode s = true → ∃ t, exec (.mfScrubMarker set [] [] [line]) s = .next t ∧ t.red = { s.red with resolving := s.red.resolving ++ [(line, 4, 0, 0, 0)] }
        ∧ t.hlt.scrubMisses = (h.scrubMisses + 1) % 4294967296 ∧ t.mem = s.mem)
    ∧ (idle → ∃ t, exec (.panelTest panel true) s = .next t ∧ tested t ∧ t.hlt.panelFails = h.panelFails ∧ t.errs = s.errs)
    ∧ (idle → (bucketOf s 0x44 panel).held = true → ∃ t, exec (.panelTest panel false) s = .next t ∧ tested t ∧ t.hlt.panelFails = (h.panelFails + 1) % 4294967296
        ∧ bit t.hlt.stickyHealth 5 = true)
    ∧ (idle → (bucketOf s 0x44 panel).held = false → q.retireDue = false → ∃ t, exec (.panelTest panel false) s = .next t ∧ (panelOf t panel).st = 4 ∧ t.mem = s.mem)
    ∧ (∃ t, exec .healthRefresh s = .next t ∧ t.hlt = { h with health := healthReport s } ∧ t.mem = s.mem
        ∧ (h.health.take 4 = (healthReport s).take 4 → t.out = s.out) ∧ (h.health.take 4 ≠ (healthReport s).take 4 → .cell 0x67 (.health (healthReport s)) ∈ t.out))
    ∧ (Claims.Runs .HEALTH_CLEAR w s → ∃ t, exec (.healthClear w) s = .next t ∧ t.hlt = { h with stickyHealth := 0 } ∧ t.regs = s.regs ∧ t.mem = s.mem)
    ∧ (Claims.Runs .DIV_LOG_CLEAR w s → ∃ t, exec (.divLogClear w) s = .next t ∧ t.red = { s.red with divLog := [] } ∧ t.regs = s.regs ∧ t.mem = s.mem)

/-! ## Meters, buckets, berths and rights -/

/-- R375 to R382: a held request whose bound has come is counted on its meter and let in, a yellow one when its meters hold its cost, a red one by the colour it gets when it is metered again; a valid shaper record
stands at once, and rebalancing shares a berth meter's tokens anew and leaves every port meter. -/
def Claims.MetersHoldAndRelease : Prop :=
  ∀ (kind link m : Nat) (h : Held) (w : Who) (a : ShaperArg) (s : State),
    let port := link / 2
    let counted (i : Instr) : Prop := ∃ v, exec i s = .next (letIn h v) ∧ v = { s with regs := v.regs } ∧ SameRegsBut (SameReg .BMETER_BOUND_RELEASES m) s v
      ∧ rget Obj.BMETER_BOUND_RELEASES m v = (rget Obj.BMETER_BOUND_RELEASES m s + 1) % 2 ^ 64
    let again := colourReq h.meters link h.cost (some h) s
    let tokens := refilled (instOf s m port) (now s)
    let b := rget Obj.BMETER_BERTH w.path s
    let bm := berthMeter b (rget Obj.BMETER_KIND w.path s)
    let pm := portMeter (rget Obj.PMETER_PORT w.path s)
    let sets (i : Instr) (o : Obj) (n : Nat) : Prop := a.mode = true ∨ s.meters.held = [] → ∃ t, exec i s = .next t ∧ (∀ k, shaperOf t k = if k = n then ⟨a.mode, a.reset, a.cir, a.pir, a.cbs, a.pbs⟩ else shaperOf s k)
      ∧ t.meters.held = s.meters.held ∧ Claims.Posted o w.path 0 none s t ∧ t.mem = s.mem
    let refuses (i : Instr) (o : Obj) (v : Nat) : Prop := ∃ t, exec i s = .next t ∧ Claims.resultAt o w.path t = some (natLE 8 v) ∧ t.meters = s.meters ∧ t.mem = s.mem
    (oldestHeld s kind link 1 = some h → h.meters = [m] → m < 256 → counted (.holdYellowExpiry kind link))
    ∧ (oldestHeld s 0 link 2 = some h → h.meters = [m] → m < 256 → counted (.holdRedMemExpiry link))
    ∧ (oldestHeld s 0 link 1 = some h → exec (.yellowHoldRelease 0 link) s = .next (letIn h s))
    ∧ (kind ≠ 0 → oldestHeld s kind link 1 = some h → h.yellowOn = [m] → h.cost * 65536 ≤ tokens.tc → ∃ v, exec (.yellowHoldRelease kind link) s = .next (letIn h v)
        ∧ v = { s with meters := { s.meters with insts := v.meters.insts } } ∧ instOf v m port = { tokens with tc := tokens.tc - h.cost * 65536 })
    ∧ (kind ≠ 0 → oldestHeld s kind link 1 = some h → h.yellowOn = [m] → tokens.tc < h.cost * 65536 → exec (.yellowHoldRelease kind link) s = .next s)
    ∧ (oldestHeld s 0 link 2 = some h → again.colour = 0 → exec (.redQueueRetest link) s = .next (letIn h again.st))
    ∧ (oldestHeld s 0 link 2 = some h → again.colour ≠ 0 → ∃ t, exec (.redQueueRetest link) s = .next t ∧ t.mem = s.mem
        ∧ t.meters.held = modFirst (fun x => x == h) (fun _ => { h with colour := again.colour, yellowOn := again.yellowOn, redOn := again.redOn }) s.meters.held)
    ∧ (Claims.Runs .BMETER_SHAPER_SET w s → shaperValid bm a = true → (berthOf s b).st = 1 → w.secure = true → sets (.bmeterShaperSet w a) .BMETER_SHAPER_SET bm)
    ∧ (Claims.Runs .BMETER_SHAPER_SET w s → shaperValid bm a = false → refuses (.bmeterShaperSet w a) .BMETER_SHAPER_SET 1)
    ∧ (Claims.Runs .BMETER_SHAPER_SET w s → shaperValid bm a = true → (berthOf s b).st ≠ 1 → refuses (.bmeterShaperSet w a) .BMETER_SHAPER_SET 2)
    ∧ (Claims.Runs .PMETER_SHAPER_SET w s → shaperValid pm a = true → sets (.pmeterShaperSet w a) .PMETER_SHAPER_SET pm)
    ∧ (Claims.Runs .PMETER_SHAPER_SET w s → shaperValid pm a = false → refuses (.pmeterShaperSet w a) .PMETER_SHAPER_SET 1)
    ∧ (∃ t, exec .meterRebalance s = .next t ∧ t = { s with meters := { s.meters with insts := t.meters.insts } }
        ∧ (∀ k p, 256 ≤ k → k < 512 → instOf t k p = instOf s k p)
        ∧ (∀ k p, k < 256 → k ∈ tkeys s.meters.shapers → p ∈ meterPorts s k → (instOf t k p).took = 0))

/-- R387, R400, R407 and R408: a bucket's leak lowers its level by one and stops its clock at 0; ERR_LOG_CLEAR empties the log; a canary step takes the next canary, channels and lane group in rotation, and a failure is counted with its record. -/
def Claims.BucketsLogAndCanary : Prop :=
  ∀ (source inst window n chan flash lane : Nat) (o : CanaryOutcome) (w : Who) (s : State),
    let b := bucketOf s source inst
    let e := s.errs
    let stepped (t : State) : Prop := t.errs.canary = (e.canary + 1) % 64 ∧ t.errs.canaryDram = chan ∧ t.errs.canaryFlash = flash ∧ t.errs.canaryLane = lane
      ∧ t.errs.canaryPanel = (e.canaryPanel + 1) % 60 ∧ rget Obj.CANARY_STEPS 0 t = (rget Obj.CANARY_STEPS 0 s + 1) % 2 ^ 64 ∧ t.mem = s.mem
    let runs : Prop := nextInTurn 24 e.canaryDram (fun c => (chanOf s c).st == 3) = some chan ∧ nextInTurn 32 e.canaryFlash (fun c => (flashOf s c).st == 3) = some flash
      ∧ nextInTurn 8 e.canaryLane (fun g => !s.ferry.lanesOut.contains g) = some lane ∧ rget Obj.CANARY_ENABLE 0 s = 1 ∧ s.boot.held = 0 ∧ rget Obj.BOOT_STEP 0 s = 0
      ∧ rget Obj.FW_STATE 0 s ≠ 3
    (bucketParams source = some (window, n) → b.held = false → b.level ≠ 0 → ∃ t, exec (.bucketLeak source inst) s = .next t
      ∧ t = { s with errs := { s.errs with buckets := t.errs.buckets } } ∧ (bucketOf t source inst).level = b.level - 1
      ∧ (b.level = 1 → (bucketOf t source inst).clock = none) ∧ (∀ i, bucketKey source i ≠ bucketKey source inst → bucketOf t source i = bucketOf s source i))
    ∧ (b.held = true ∨ b.level = 0 → exec (.bucketLeak source inst) s = .next s)
    ∧ (Claims.Runs .ERR_LOG_CLEAR w s → ∃ t, exec (.errLogClear w) s = .next t ∧ t.errs = { e with log := [] } ∧ t.regs = s.regs ∧ t.mem = s.mem)
    ∧ (runs → o.failed = 0 → ∃ t, exec (.canaryStep o) s = .next t ∧ stepped t ∧ t.errs.log = e.log)
    ∧ (runs → o.failed = 2 → o.again = false → e.log.length < 4096 → ∃ t, exec (.canaryStep o) s = .next t ∧ stepped t
        ∧ rget Obj.CANARY_FAILS 0 t = (rget Obj.CANARY_FAILS 0 s + 1) % 2 ^ 64 ∧ t.errs.log = e.log ++ [mkRec 0x70 chan 1 (some (canaryLine e.canary)) e.canary s])

/-- R410 to R415, R424 to R426 and R436: a berth is created with a new key and deleted once nothing is left of it, panels are assigned and withdrawn, logical devices bound, landing worlds set while their links are down, and confidential mode set; a
refusal has its status as the result. -/
def Claims.BerthsOwnThings : Prop :=
  ∀ (w : Who) (arg : Nat) (r : Running) (s : State),
    let b := bits arg 0 6
    let p := bits arg 0 6
    let pb := bits arg 6 6
    let ld := bits arg 0 7
    let port := bits arg 0 3
    let q := panelOf s p
    let nothing : Prop := s.lds = [] ∧ s.regions = [] ∧ s.grid.panels = [] ∧ s.jobs.jobs = [] ∧ s.berths.grants = [] ∧ s.berths.queue = [] ∧ s.meters.held = []
    let refuses (i : Instr) (o : Obj) (v : Nat) : Prop := ∃ t, exec i s = .next t ∧ Claims.resultAt o w.path t = some (natLE 8 v) ∧ t.berths = s.berths ∧ t.lds = s.lds ∧ t.grid = s.grid ∧ t.mem = s.mem
    (Claims.Runs .BERTH_CREATE w s → arg < 128 → (berthOf s b).st = 0 → keysServed s = true → ∃ t, exec (.berthCreate w arg) s = .next t
      ∧ berthOf t b = { st := 1, conf := bit arg 6, created := (berthOf s b).created + 1 } ∧ (∀ k, k ≠ b → berthOf t k = berthOf s k)
      ∧ keyOf t b = { st := 1, genA := s.keys.nextGen } ∧ t.keys.nextGen = s.keys.nextGen + 1 ∧ Claims.Posted .BERTH_CREATE w.path 0 none s t ∧ t.mem = s.mem)
    ∧ (Claims.Runs .BERTH_CREATE w s → arg < 128 → (berthOf s b).st ≠ 0 → refuses (.berthCreate w arg) .BERTH_CREATE 1)
    ∧ (Claims.Runs .BERTH_DELETE w s → arg < 64 → (berthOf s arg).st = 1 → nothing → s.berths.running = none → ∃ t, exec (.berthDelete w arg) s = .next t ∧ (berthOf t arg).st = 2
        ∧ (t.berths.running.map (·.change)) = some (.unbind arg) ∧ Claims.Posted .BERTH_DELETE w.path 0 none s t ∧ t.mem = s.mem)
    ∧ (s.berths.running = some r → r.change = .unbind arg → r.lost = [] → oldInflight s r.flipped = 0 → (berthOf s arg).st = 2 → nothing →
        ∃ t, exec .permDrainComplete s = .next t ∧ (berthOf t arg).st = 0 ∧ keyOf t arg = {} ∧ t.berths.running = none ∧ t.mem = s.mem)
    ∧ (Claims.Runs .BERTH_DELETE w s → arg < 64 → (berthOf s arg).st ≠ 1 → refuses (.berthDelete w arg) .BERTH_DELETE 1)
    ∧ (Claims.Runs .PANEL_ASSIGN w s → arg < 4096 ∨ (8192 ≤ arg ∧ arg < 12288) → p < 60 → q.st ≠ 4 → q.berth = 0xFF → q.lent = false → pb ≠ 0xFF → (berthOf s pb).st = 1 →
        (bit arg 13 = true → w.secure = true) → ∃ t, exec (.panelAssign w arg) s = .next t ∧ panelOf t p = { q with berth := pb, world := bit arg 13, stale := true }
        ∧ (∀ k, k ≠ p → panelOf t k = panelOf s k) ∧ Claims.Posted .PANEL_ASSIGN w.path 0 none s t ∧ t.mem = s.mem)
    ∧ (Claims.Runs .PANEL_ASSIGN w s → 4096 ≤ arg → arg < 8192 → p < 60 → q.st ≠ 4 → q.berth = pb → q.lent = false → q.job = 0 → s.jobs.jobs = [] →
        ∃ t, exec (.panelAssign w arg) s = .next t ∧ (panelOf t p).berth = 0xFF ∧ (panelOf t p).world = false ∧ Claims.Posted .PANEL_ASSIGN w.path 0 none s t
        ∧ t.mem.near = s.mem.near ∧ t.mem.far = s.mem.far)
    ∧ (Claims.Runs .LD_BIND w s → bit arg 7 = false → arg < 16384 → (ldOf s ld).enabled = false → (berthOf s (bits arg 8 6)).st = 1 → ∃ t, exec (.ldBind w arg) s = .next t
        ∧ ldOf t ld = { ldOf s ld with berth := bits arg 8 6 } ∧ (∀ k, k ≠ ld → ldOf t k = ldOf s k) ∧ Claims.Posted .LD_BIND w.path 0 none s t ∧ t.mem = s.mem)
    ∧ (Claims.Runs .LD_BIND w s → bit arg 7 = false → arg < 16384 → (ldOf s ld).enabled = true → refuses (.ldBind w arg) .LD_BIND 1)
    ∧ (Claims.Runs .WORLD_LANDING_SET w s → arg < 16 → (linkOf s (2 * port)).st = 0 → (linkOf s (2 * port + 1)).st = 0 → ∃ t, exec (.worldLandingSet w arg) s = .next t
        ∧ (∀ k, bit t.berths.landingWorld k = if k = port then bit arg 3 else bit s.berths.landingWorld k) ∧ (bit arg 3 = true → t.mem = s.mem))
    ∧ (Claims.Runs .WORLD_LANDING_SET w s → arg < 16 → (linkOf s (2 * port)).st ≠ 0 → refuses (.worldLandingSet w arg) .WORLD_LANDING_SET 1)
    ∧ (Claims.Runs .CONF_SET w s → arg < 256 → bit arg 6 = false → bit arg 7 = true → (berthOf s b).st = 1 → ∃ t, exec (.confSet w arg) s = .next t
        ∧ berthOf t b = { berthOf s b with conf := true } ∧ (∀ k, k ≠ b → berthOf t k = berthOf s k) ∧ Claims.Posted .CONF_SET w.path 0 none s t ∧ t.mem = s.mem)
    ∧ (Claims.Runs .CONF_SET w s → arg < 256 → bit arg 6 = true → bit arg 7 = true ∨ s.regions = [] → ∃ t, exec (.confSet w arg) s = .next t
        ∧ t.berths = { s.berths with confDevice := bit arg 7 } ∧ Claims.Posted .CONF_SET w.path 0 none s t ∧ t.mem = s.mem)

/-- R417, R420 and R421, Table 18.4: an accepted grant takes effect and flips the grantee's epoch at once when no change runs, its STATUS reading 0xFF until the change is complete; the change is complete when no access of the old epoch is open, and the
epochs are then drained. -/
def Claims.RightsChangeByEpoch : Prop :=
  ∀ (w : Who) (arg : Nat) (r : Running) (s : State),
    let n := bits arg 0 13
    let g := bits arg 13 6
    let rights := bits arg 19 4
    let id := s.berths.nextChange
    (Claims.Runs .PERM_GRANT w s → grantStatus s w.secure arg = 0 → s.berths.running = none → s.berths.queue = [] → ∃ t, exec (.permGrant w arg) s = .next t
      ∧ (∀ k, tget 0 t.berths.grants k = if k = grantKey n g then rights else tget 0 s.berths.grants k)
      ∧ (berthOf t g).epoch = ((berthOf s g).epoch + 1) % 65536 ∧ (∀ k, k ≠ g → berthOf t k = berthOf s k) ∧ t.berths.nextChange = id + 1
      ∧ Claims.resultAt .PERM_GRANT w.path t = some (natLE 8 0xFF) ∧ Claims.Posted .PERM_GRANT w.path 0 (some id) s t ∧ t.regions = s.regions ∧ t.mem = s.mem)
    ∧ (∀ st, Claims.Runs .PERM_GRANT w s → grantStatus s w.secure arg = st → st ≠ 0 → ∃ t, exec (.permGrant w arg) s = .next t
      ∧ Claims.resultAt .PERM_GRANT w.path t = some (natLE 8 st) ∧ t.berths = s.berths ∧ t.mem = s.mem)
    ∧ (s.berths.running = some r → oldInflight s r.flipped = 0 → r.change = .grant w.path n g rights → r.lost = [] → s.lds = [] → s.berths.queue = [] → (∀ p ∈ s.berths.berths, p.2.st ≠ 2) →
      ∃ t, exec .permDrainComplete s = .next t ∧ t.berths.running = none ∧ (∀ b ∈ r.flipped, (berthOf t b).drained = (berthOf s b).epoch) ∧ t.berths.grants = s.berths.grants
      ∧ rget Obj.PERM_DRAIN_LAST 0 t = (now s + 281474976710656 - r.t) % 281474976710656 ∧ t.mem = s.mem)
    ∧ (s.berths.running = some r → oldInflight s r.flipped ≠ 0 → exec .permDrainComplete s = .next s)
    ∧ (s.berths.running = none → exec .permDrainComplete s = .next s)

/-- R375 to R382, R387, R400, R407 and R408: meters, buckets and the canary. -/
def Obligations.MetersBucketsAndCanary : Prop := Claims.MetersHoldAndRelease ∧ Claims.BucketsLogAndCanary

/-- R410 to R426: berths, what they own, and rights. -/
def Obligations.BerthsAndRightsChange : Prop := Claims.BerthsOwnThings ∧ Claims.RightsChangeByEpoch

/-! ## Attestation, management carriers and test access -/

/-- R427, R428 and Table 18.7: each SPDM request is answered by its response; a certificate of slot 1 carries the berth's leaf, a new one when a value in its extensions has changed; in VOID every request is answered ERROR. -/
def Obligations.SpdmRequestsAnswer : Prop :=
  ∀ (r : SpdmReq) (asym hash slot offset len nonce code : Nat) (s : State), spdmServed r s = true →
    let lc := rget Obj.LC_STATE 0 s
    let answers (i : Instr) (name : String) (fields : List Nat) : Prop := exec i s = .next (emit (.spdm r.mbox r.src name fields) s)
    let b := spdmBerth r s
    let signed (i : Instr) (name : String) (f : Nat → List Nat) : Prop := ∃ t v, exec i s = .next t ∧ t.out = .spdm r.mbox r.src name (f v) :: s.out ∧ t.mem = s.mem ∧ t.regs = s.regs
      ∧ t.freeCtr = s.freeCtr + 1
    (lc ≠ 4 → answers (.getVersion r) "VERSION" [0x12] ∧ answers (.getCapabilities r) "CAPABILITIES" [0x06]
      ∧ answers (.negotiateAlgorithms r asym hash) "ALGORITHMS" [if bit asym 7 then 0x80 else 0, if bit hash 1 then 0x02 else 0]
      ∧ answers (.spdmUnsupportedRequest r code) "ERROR" [7, code])
    ∧ (lc = 1 ∨ lc = 2 ∨ lc = 3 →
      answers (.getDigests r) "DIGESTS" [3, Config.chainDigest (chainOf s 0 b), Config.chainDigest (chainOf s 1 b)]
      ∧ signed (.getCertificate r 0 offset len) "CERTIFICATE" (fun v => [0, offset, len, v] ++ deviceChain s)
      ∧ (slot < 2 → signed (.challenge r slot nonce) "CHALLENGE_AUTH" (fun v => [slot, Config.chainDigest (chainOf s slot b), nonce, v]))
      ∧ (∃ t x, exec (.getCertificate r 1 offset len) s = .next t ∧ leafOf t b = some x ∧ x.content = leafContent s b
        ∧ (∀ y, leafOf s b = some y → y.content = leafContent s b → x = y)
        ∧ ((∀ y, leafOf s b = some y → y.content ≠ leafContent s b) → x.serial = s.berths.leafSerial + 1 ∧ x.issued = now s)
        ∧ ∃ v, t.out = .spdm r.mbox r.src "CERTIFICATE" ([1, offset, len, v] ++ deviceChain s ++ x.serial :: x.issued :: x.content) :: s.out))
    ∧ (lc = 4 → answers (.getVersion r) "ERROR" [5] ∧ answers (.getDigests r) "ERROR" [5] ∧ answers (.getCertificate r slot offset len) "ERROR" [5]
      ∧ answers (.challenge r slot nonce) "ERROR" [5])

/-- R481, R483, R443 and R534: MCTP control messages and the address protocols of the management ports are answered; a port's link is what the PHY says; the four instructions of IEEE 1149.1 work in every state, any other only while
testing is open. -/
def Obligations.ManagementCarriersAnswer : Prop :=
  ∀ (src eid op port addr code : Nat) (up : Bool) (data : List Byte) (s : State),
    let i3c : Prop := carrierOpen ⟨1, src, []⟩ s = true
    let answers (i : Instr) (m : Out) : Prop := exec i s = .next (emit m s)
    let loads (i : JtagInstr) (n : Nat) (register : String) (v : Option Nat) : Prop := exec (.jtagInstruction i) s = .next (emit (.jtag register v) { s with test := { jtag := n } })
    (i3c → answers (.getEndpointId src) (.mctp src 2 0 [s.tack.eid, 0, 0]) ∧ answers (.getMessageTypeSupport src) (.mctp src 5 0 [3, 5, 7, 0x7E])
      ∧ (∃ v, exec (.getMctpVersionSupport src 5) s = .next (emit (.mctp src 4 0 [1, v]) { s with freeCtr := s.freeCtr + 1 }))
      ∧ (op < 2 → 8 ≤ eid → eid ≤ 254 → exec (.setEndpointId src op eid) s
          = .next (emit (.mctp src 1 0 [0, eid, 0]) { s with tack := { s.tack with eid := eid } }))
      ∧ (eid < 8 ∨ 254 < eid → answers (.setEndpointId src op eid) (.mctp src 1 2 [])))
    ∧ (port < 2 → ∃ t, exec (.mgLinkChange port up) s = .next t ∧ rget Obj.MG_LINK port t = b2n up ∧ SameRegsBut (SameReg .MG_LINK port) s t ∧ t = { s with regs := t.regs })
    ∧ (netOpen s port = true → addr % 2 ^ 32 ≠ 0 → portAddress s port = mappedV4 addr → answers (.arpRequest port addr src) (.netAnswer port 0 src (natBE 6 (Config.macAddress port))))
    ∧ (netOpen s port = true → addr ≠ 0 → addr / 2 ^ 32 ≠ 0xFFFF → portAddress s port = addr ∨ linkLocal port = addr →
        answers (.neighbourDiscovery port addr src) (.netAnswer port 1 src (natBE 6 (Config.macAddress port))))
    ∧ (netOpen s port = true → addr ≠ 0 → portAddress s port = addr ∨ linkLocal port = addr → answers (.icmpEchoRequest port addr src data) (.netAnswer port 2 src data))
    ∧ (netOpen s port = false → exec (.arpRequest port addr src) s = .next s ∧ exec (.neighbourDiscovery port addr src) s = .next s
        ∧ exec (.icmpEchoRequest port addr src data) s = .next s)
    ∧ loads .idcode 0 "IDCODE" (some idcode) ∧ loads .bypass 1 "BYPASS" (some 0) ∧ loads .samplePreload 2 "BOUNDARY" none ∧ loads .extest 3 "BOUNDARY" none
    ∧ (testOpen s = true → loads (.other code) (4 + code) "PRIVATE" none) ∧ (testOpen s = false → exec (.jtagInstruction (.other code)) s = .next s)

/-! ## Keys, the life-cycle and firmware -/

/-- R435 to R442: KEY_ROTATE puts a new generation into the other slot and starts the sweep; the sweep visits a tile, its copy under the old slot going under the active key, and at its end the old slot is zeroed and the command posts; a new pair secret
stands until the partner shows that it has it too. -/
def Obligations.KeysRotate : Prop :=
  ∀ (w : Who) (tile n : Nat) (secret : List Byte) (s s1 : State),
    let b := rget Obj.KEY_BERTH_SELECT w.path s
    let k := keyOf s b
    let others (t : State) (b : Nat) : Prop := ∀ x, x ≠ b → keyOf t x = keyOf s x
    let refuses (v : Nat) : Prop := ∃ t, exec (.keyRotate w) s = .next t ∧ Claims.resultAt .KEY_ROTATE w.path t = some (natLE 8 v) ∧ t.keys = s.keys ∧ t.mem = s.mem
    let owner := (regionOf s n).owner
    let q := keyOf s owner
    let place := sweepPlace n tile
    let g := tagOf s tile
    let f := farOf s tile
    let sweeps : Prop := regionAtTile s tile = some n ∧ q.st = 3 ∧ q.pos ≤ place ∧ sweepMeets s owner q.pos place (oldSlot q) = false ∧ crossingOf s tile = none ∧ ladderPos s < 28
    let key := activeKey s owner
    let nearOld : Prop := g.st ≠ 0 ∧ g.kslot = oldSlot q
    let farOld : Prop := f.kind = 1 ∧ f.hdr.kslot = oldSlot q
    let visits (t : State) : Prop := (keyOf t owner).pos = place + 1 ∧ (keyOf t owner).st = 3 ∧ others t owner ∧ t.mem = s.mem
    (Claims.Runs .KEY_ROTATE w s → k.st = 1 → (berthOf s b).st = 1 → w.secure = true → ∃ t, exec (.keyRotate w) s = .next t
      ∧ keyOf t b = { setSlot (1 - k.active) s.keys.nextGen k with st := 3, active := 1 - k.active, cursor := 0, pos := 0, passed := 0, path := w.path, start := now s }
      ∧ others t b ∧ t.keys.nextGen = s.keys.nextGen + 1 ∧ t.mem = s.mem ∧ t.regs = s.regs)
    ∧ (Claims.Runs .KEY_ROTATE w s → k.st ≠ 1 → refuses 1) ∧ (Claims.Runs .KEY_ROTATE w s → k.st = 1 → (berthOf s b).st ≠ 1 → refuses 2)
    ∧ (sweeps → ¬ nearOld → ¬ farOld → ∃ t, exec (.rekeyCrossing tile) s = .next t ∧ visits t ∧ t.ferry = s.ferry)
    ∧ (sweeps → nearOld → ¬ farOld → (regionOf s n).cls ≠ 1 → freeFrames s (homeOf s tile) ≠ 0 → ∃ t, exec (.rekeyCrossing tile) s = .next t ∧ visits t
        ∧ (tagOf t tile).kslot = key.1 ∧ (tagOf t tile).st = g.st ∧ (tagOf t tile).hdr = keyHdr key g.hdr ∧ farOf t tile = f)
    ∧ (sweeps → ¬ nearOld → farOld → rekeyFar tile key s = some s1 → ∃ t, exec (.rekeyCrossing tile) s = .next t ∧ visits t ∧ (farOf t tile).hdr = keyHdr key f.hdr
        ∧ (farOf t tile).len = f.len ∧ tagOf t tile = g)
    ∧ (let z := keyOf s n
      z.st = 3 → sweepMeets s n 0 (8192 * 17179869184) (oldSlot z) = false → s.ferry.crossings = [] → ∃ t, exec (.rekeySweepComplete n) s = .next t
      ∧ keyOf t n = { setSlot (oldSlot z) 0 z with st := 1, cursor := 0, pos := 0, passed := 0, path := 0, start := 0 } ∧ others t n ∧ t.mem = s.mem ∧ t.ferry = s.ferry
      ∧ (z.path ≠ 0 → Claims.resultAt .KEY_ROTATE z.path t = some (natLE 8 0)))
    ∧ (Claims.Runs .PAIR_SECRET w s → secret.length = 48 → ∃ t, exec (.pairSecret w secret) s = .next t ∧ rget Obj.PAIR_SECRET 0 t = leNat secret ∧ rget Obj.PAIR_KEY_MATCH 0 t = 0
        ∧ t.mem = s.mem ∧ t.keys = s.keys)
    ∧ (Claims.Runs .PAIR_SECRET w s → secret.length ≠ 48 → exec (.pairSecret w secret) s = .next (emit (.book w.path 7) s))

/-- R430, R443 to R447 and R511, Tables 19.6 and 19.7: a transition that is in the table, with its token where one is needed, fuses its state, does what the table says and restarts the device; another one has its status; debug opens in RETURNED with a valid token. -/
def Obligations.LifecycleMoves : Prop :=
  ∀ (w : Who) (token : List Byte) (s : State), token.length = 144 →
    let lc := rget Obj.LC_STATE 0 s
    let go (dest : Nat) : Prop := Claims.Runs .LC_TRANSITION w s ∧ lcStatus dest w token s = 0 ∧ (lcScope lc dest = none → ∀ b ∈ token, b = 0)
    let restarts (i : Instr) (dest : Nat) (more : State → Prop) : Prop := go dest → ∃ t, exec i s = .next t ∧ rget Obj.LC_STATE 0 t = dest ∧ rget Obj.BOOT_STEP 0 t = 1
      ∧ rget Obj.RESET_CAUSE 0 t = s.boot.recorded.getD 8 ∧ t.boot.held = 0 ∧ t.regions = [] ∧ t.lds = [] ∧ t.mem.far = s.mem.far ∧ more t
    let refuses (i : Instr) (dest : Nat) : Prop := ∀ st, Claims.Runs .LC_TRANSITION w s → (lcScope lc dest = none → lcAllowed lc dest = true → ∀ b ∈ token, b = 0) →
      lcStatus dest w token s = st → st ≠ 0 → ∃ t, exec i s = .next t ∧ rget Obj.LC_STATE 0 t = lc ∧ Claims.resultAt .LC_TRANSITION w.path t = some (natLE 8 st) ∧ t.keys = s.keys ∧ t.mem = s.mem
    restarts (.lcToDevelop w 0 token) 1 (fun t => t.keys.udsFused = true)
    ∧ restarts (.lcToSealed w 0 token) 2 (fun t => rget Obj.PAIR_SECRET 0 t = 0 ∧ rget Obj.LC_KEK_EPOCH 0 t = min 8 (rget Obj.LC_KEK_EPOCH 0 s + 1))
    ∧ restarts (.lcToReturned w 0 token) 3 (fun t => rget Obj.PAIR_SECRET 0 t = 0 ∧ t.keys.recs = [] ∧ t.boot.formatDue = true
        ∧ t.cfg.saved.regions = [] ∧ t.cfg.saved.grants = [] ∧ t.ferry.tags = []
        ∧ rget Obj.LC_KEK_EPOCH 0 t = min 8 (rget Obj.LC_KEK_EPOCH 0 s + 1))
    ∧ (lc = 0 → restarts (.lcToVoid w 0 token) 4 (fun t => t.keys = s.keys ∧ t.fw.floors = s.fw.floors))
    ∧ (lc ≠ 0 → restarts (.lcToVoid w 0 token) 4 (fun t => rget Obj.PAIR_SECRET 0 t = 0 ∧ t.keys.recs = [] ∧ t.keys.nextGen = s.keys.nextGen
        ∧ ∀ o ∈ [Obj.CRED_OPERATOR_NS, Obj.CRED_OPERATOR_S, Obj.CRED_ADMIN_NS, Obj.CRED_ADMIN_S, Obj.CRED_EVENT, Obj.CRED_VENDOR], rget o 0 t = 0))
    ∧ refuses (.lcToDevelop w 0 token) 1 ∧ refuses (.lcToSealed w 0 token) 2 ∧ refuses (.lcToReturned w 0 token) 3 ∧ refuses (.lcToVoid w 0 token) 4
    ∧ (Claims.Runs .LC_UNLOCK w s → lc = 3 → tokenValid 2 token s = true → ∃ t, exec (.lcUnlock w token) s = .next t ∧ rget Obj.LC_DEBUG_OPEN 0 t = 1
        ∧ Claims.resultAt .LC_UNLOCK w.path t = some (natLE 8 0) ∧ SameRegsBut (fun o i => SameReg .LC_DEBUG_OPEN 0 o i ∨ SameReg .LC_NONCE 0 o i) s t ∧ t.mem = s.mem)
    ∧ (Claims.Runs .LC_UNLOCK w s → lc = 3 → tokenValid 2 token s = false → ∃ t, exec (.lcUnlock w token) s = .next t ∧ rget Obj.LC_DEBUG_OPEN 0 t = rget Obj.LC_DEBUG_OPEN 0 s
        ∧ Claims.resultAt .LC_UNLOCK w.path t = some (natLE 8 2) ∧ t.mem = s.mem)
    ∧ (Claims.Runs .LC_UNLOCK w s → lc ≠ 3 → ∃ t, exec (.lcUnlock w token) s = .next t ∧ t.regs = s.regs ∧ Claims.resultAt .LC_UNLOCK w.path t = some (natLE 8 1) ∧ t.mem = s.mem)

/-- R451 to R457, Table 20.3: a bundle that passes every check goes into the inactive bank of its image and no other changes, one that fails leaves every bank; activation and rollback make inactive banks pending, a commit raises the floors to the running images, and a
trial that has held ends. -/
def Obligations.FirmwareIsStagedAndTried : Prop :=
  ∀ (w : Who) (arg image : Nat) (bundle : List Byte) (new : FwBank) (s : State),
    let banks (t : State) : Prop := ∀ k, tget {} t.fw.banks k = if k = image * 2 + (1 - activeBank s image) then new else tget {} s.fw.banks k
    let mask := [2, 3, 4, 5].filter (bit arg)
    let result (o : Obj) (t : State) (v : Nat) : Prop := Claims.resultAt o w.path t = some (natLE 8 v)
    let valid (i : Nat) : Bool := bankValid s i (1 - activeBank s i)
    (Claims.Runs .FW_STAGE w s → stageStatus bundle s = 0 → parseBundle 4 bundle = some [(image, new)] → ∃ t, exec (.fwStage w bundle) s = .next t ∧ banks t
      ∧ rget Obj.FW_STAGE_STATUS 0 t = 0 ∧ t.fw.active = s.fw.active ∧ t.fw.pending = s.fw.pending ∧ t.mem = s.mem)
    ∧ (Claims.Runs .FW_STAGE w s → stageStatus bundle s ≠ 0 → ∃ t, exec (.fwStage w bundle) s = .next t ∧ t.fw = s.fw ∧ rget Obj.FW_STAGE_STATUS 0 t = stageStatus bundle s ∧ t.mem = s.mem)
    ∧ (Claims.Runs .FW_ACTIVATE w s → bits arg 0 2 = 0 → bits arg 6 2 = 0 → arg < 512 → activateStatus mask s = 0 → ∃ t, exec (.fwActivate w arg) s = .next t ∧ result .FW_ACTIVATE t 0
        ∧ t.fw.force = bit arg 8 ∧ (∀ i, tget none t.fw.pending i = if i ∈ mask then some (1 - activeBank s i) else tget none s.fw.pending i) ∧ t.fw.banks = s.fw.banks
        ∧ t.fw.active = s.fw.active ∧ t.mem = s.mem)
    ∧ (Claims.Runs .FW_ACTIVATE w s → bits arg 0 2 = 0 → bits arg 6 2 = 0 → arg < 512 → activateStatus mask s ≠ 0 → ∃ t, exec (.fwActivate w arg) s = .next t
        ∧ result .FW_ACTIVATE t (activateStatus mask s) ∧ t.fw = s.fw ∧ t.mem = s.mem)
    ∧ (Claims.Runs .FW_SVN_COMMIT w s → s.fw.trial = false → ∃ t, exec (.fwSvnCommit w) s = .next t ∧ result .FW_SVN_COMMIT t 0 ∧ t.fw.banks = s.fw.banks ∧ t.mem = s.mem
        ∧ (∀ i ∈ [2, 3, 4, 5], floorOf t i = max (floorOf s i) (runningBank s i).svn))
    ∧ (Claims.Runs .FW_SVN_COMMIT w s → s.fw.trial = true → ∃ t, exec (.fwSvnCommit w) s = .next t ∧ result .FW_SVN_COMMIT t 1 ∧ t.fw = s.fw ∧ t.mem = s.mem)
    ∧ (Claims.Runs .FW_ROLLBACK w s → s.fw.trial = false → ∃ t, exec (.fwRollback w) s = .next t ∧ result .FW_ROLLBACK t 0 ∧ t.fw.force = true ∧ t.fw.active = s.fw.active ∧ t.mem = s.mem
        ∧ (∀ i ∈ [2, 3, 4, 5], tget none t.fw.pending i = if valid i then some (1 - activeBank s i) else tget none s.fw.pending i))
    ∧ (Claims.Runs .FW_ROLLBACK w s → s.fw.trial = true → ∃ t, exec (.fwRollback w) s = .next t ∧ result .FW_ROLLBACK t 2 ∧ t.fw = s.fw ∧ t.mem = s.mem)
    ∧ (s.fw.trial = true → rget Obj.BOOT_STEP 0 s = 0 → s.boot.held = 0 → ∃ t, exec .trialHoldExpiry s = .next t ∧ rget Obj.FW_TRIAL 0 t = 0
        ∧ t.fw = { s.fw with trial := false, force := false, tried := [] } ∧ SameRegsBut (SameReg .FW_TRIAL 0) s t ∧ t.mem = s.mem)

/-! ## Power, heat, resets and the start -/

/-- R494 to R498, R503 to R505, R532 and R539: the cap stands with the record; at each control period the cap position goes deeper by four or one, or after ten cool periods shallower, a hot die goes to position 32 and a second sample at the trip point trips the device; VCORE follows
the deeper position; an unacknowledged AVS command is sent again twice and then given up; a rail out of tolerance holds the device in reset. -/
def Obligations.PowerIsControlled : Prop :=
  ∀ (w : Who) (cap power vcore rail last : Nat) (temps : List Int) (s : State),
    let q := s.power
    let deep (n : Nat) := min 32 (max (q.pc + n) (shallowest s))
    let t0 := temps.getD 0 25
    let even : Prop := temps = List.replicate 24 t0
    let cool : Prop := even ∧ t0 < Int.ofNat (rget Obj.THERM_WARN 0 s) - 3 ∧ t0 < 100 ∧ rget Obj.THERM_STATE 0 s = 0 ∧ q.coolPt = 0 ∧ s.boot.held = 0
    let limit := rget Obj.POWER_CAP 0 s
    let period (pc : Nat) : Prop := ∃ t, exec (.controlPeriod power temps vcore) s = .next t ∧ t.power.pc = pc ∧ t.power.pt = q.pt ∧ rget Obj.POWER_NOW 0 t = power ∧ rget Obj.VCORE_MV 0 t = vcore
      ∧ rget Obj.POWER_PEAK 0 t = max (rget Obj.POWER_PEAK 0 s) power ∧ rget Obj.THERM_STATE 0 t = 0 ∧ (q.fixed = false → t.power.vcore = ladderVcore (max pc q.pt)) ∧ t.mem = s.mem
    let held (i : Instr) (cause : Nat) : Prop := ∃ t, exec i s = .next t ∧ t.boot.held = 1 ∧ t.boot.recorded = some (s.boot.recorded.getD cause) ∧ t.mem.near = [] ∧ t.mem.far = s.mem.far
    (Claims.Runs .POWER_CAP w s → 40 ≤ cap → cap ≤ 75 → ∃ t, exec (.powerCap w cap) s = .next t ∧ rget Obj.POWER_CAP 0 t = cap ∧ SameRegsBut (SameReg .POWER_CAP 0) s t ∧ t.out = s.out ∧ t.mem = s.mem
      ∧ t.cfg.posts = s.cfg.posts ++ [⟨cmdKey .POWER_CAP w.path, [], some (.book w.path 0), none, false, true⟩])
    ∧ (Claims.Runs .POWER_CAP w s → cap < 40 ∨ 75 < cap → exec (.powerCap w cap) s = .next (emit (.book w.path 7) s))
    ∧ (cool → 11 * limit ≤ power → period (deep 4)) ∧ (cool → power < 11 * limit → 10 * limit - 10 < power → period (deep 1))
    ∧ (cool → power ≤ 10 * limit - 10 → 0 < limit → (((power :: q.recent).take 10).sum < (10 * limit - 30) * ((power :: q.recent).take 10).length → q.sincePc < 9) → period q.pc)
    ∧ (cool → power ≤ 10 * limit - 10 → 0 < limit → ((power :: q.recent).take 10).sum < (10 * limit - 30) * ((power :: q.recent).take 10).length → 9 ≤ q.sincePc →
        period (if q.pc ≤ shallowest s then q.pc else q.pc - 1))
    ∧ (even → s.boot.held = 0 → 105 ≤ t0 → t0 < 110 → ∃ t, exec (.controlPeriod power temps vcore) s = .next t ∧ t.power.pt = 32 ∧ rget Obj.THERM_STATE 0 t = 2 ∧ t.mem = s.mem)
    ∧ (even → s.boot.held = 0 → 110 ≤ t0 → q.hotTwice = 0 → ∃ t, exec (.controlPeriod power temps vcore) s = .next t ∧ t.power.pt = 32 ∧ t.power.hotTwice = 1 ∧ t.power.tripped = q.tripped)
    ∧ (even → s.boot.held = 0 → 110 ≤ t0 → q.hotTwice ≠ 0 → held (.controlPeriod power temps vcore) 4 ∧ ∃ t, exec (.controlPeriod power temps vcore) s = .next t ∧ t.power.tripped = true)
    ∧ exec .thermtripRelease s = .next { s with power := { q with tripped := false } }
    ∧ (q.asked = some last → q.retries < 2 → exec .avsRetry s = .next (emit (.avs q.vcore) { s with power := { q with retries := q.retries + 1 } }))
    ∧ (q.asked = some last → 2 ≤ q.retries → ∃ t, exec .avsRetry s = .next t ∧ t.power = { q with asked := none, vcore := last, fixed := true, retries := 0 } ∧ t.mem = s.mem)
    ∧ (rail < 7 → s.boot.held = 0 → held (.railOutOfTolerance rail) 10)

/-- R509 to R513, R516 and R523, Table 24.4: a reset clears the volatile state, keeps the far shore, and leaves the near shore of a warm one; the start's cause is the first that was recorded; PORST_N low ends any sequence; RESTART starts warm or cold or holds as its argument says. -/
def Obligations.ResetsStartAgain : Prop :=
  ∀ (straps arg : Nat) (w : Who) (s : State),
    let cleared (t : State) : Prop := t.regions = [] ∧ t.lds = [] ∧ t.mem.ls = [] ∧ t.mem.far = s.mem.far ∧ t.cmdRes = [] ∧ t.jobs = {} ∧ t.meters = {} ∧ t.tack = {}
    let starts (i : Instr) (kind cause : Nat) : Prop := ∃ t, exec i s = .next t ∧ cleared t ∧ t.boot.held = 0 ∧ rget Obj.BOOT_STEP 0 t = 1 ∧ rget Obj.RESET_KIND 0 t = kind
      ∧ rget Obj.RESET_CAUSE 0 t = s.boot.recorded.getD cause ∧ (kind = 1 → t.mem.near = s.mem.near ∧ t.clk.tsx = s.clk.tsx) ∧ (kind = 0 → t.mem.near = [] ∧ t.clk.tsx = 0)
      ∧ rget Obj.BOOT_COUNT 0 t = (rget Obj.BOOT_COUNT 0 s + 1) % 2 ^ 32 ∧ rget Obj.LC_STATE 0 t = rget Obj.LC_STATE 0 s
    let restart (cold halt : Bool) : Prop := Claims.Runs .RESTART w s ∧ arg = b2n cold + 8 * b2n halt
    (s.power.tripped = false → ∃ t, exec (.powerOn straps) s = .next t ∧ cleared t ∧ t.mem.near = [] ∧ t.clk.tsx = 0 ∧ t.boot.held = 0 ∧ rget Obj.BOOT_STEP 0 t = 1 ∧ rget Obj.RESET_KIND 0 t = 0
      ∧ rget Obj.STRAPS 0 t = straps % 2 ^ 20 ∧ rget Obj.RESET_CAUSE 0 t = s.boot.recorded.getD 0)
    ∧ (s.power.tripped = true → exec (.powerOn straps) s = .next s)
    ∧ (∃ t, exec .porstAssert s = .next t ∧ cleared t ∧ t.mem.near = [] ∧ t.clk.tsx = 0 ∧ t.boot.held = 2)
    ∧ (s.boot.held = 0 → s.boot.unprepared = false → starts .warmResetInput 1 6 ∧ starts .pilotWatchdog 1 3)
    ∧ (s.boot.held = 0 → s.boot.unprepared = true → 4 ≤ rget Obj.BOOT_STEP 0 s → rget Obj.BOOT_STEP 0 s ≤ 6 → starts .warmResetInput 0 6)
    ∧ (s.boot.held ≠ 0 → exec .warmResetInput s = .next s ∧ exec .pilotWatchdog s = .next s)
    ∧ (restart false false → s.boot.unprepared = false → starts (.restart w arg) 1 7) ∧ (restart true false → starts (.restart w arg) 0 7)
    ∧ (restart true true → ∃ t, exec (.restart w arg) s = .next t ∧ cleared t ∧ t.mem.near = [] ∧ t.boot.held = 1 ∧ t.boot.recorded = some (s.boot.recorded.getD 7))
    ∧ (Claims.Runs .RESTART w s → 2 ≤ bits arg 0 2 ∨ 16 ≤ arg → ∃ t, exec (.restart w arg) s = .next t ∧ Claims.resultAt .RESTART w.path t = some (natLE 8 1) ∧ t.mem = s.mem ∧ t.boot = s.boot)

/-- R342, R343, R459, R514 to R522, Table 24.3: the boot steps follow one another, each with what it restores: the plane claims, the firmware state, the channels and planes, the configuration record, the near shore; a landing opens after step 6, the first one ending the start. A format leaves
the far shore empty, and the record's write ends what waits for it (R517). -/
def Obligations.BootStepsFollow : Prop :=
  ∀ (r : BootReport) (link : Nat) (w : Who) (p : Post) (s : State),
    let step := rget Obj.BOOT_STEP 0 s
    let ends (n next : Nat) (more : State → Prop) : Prop := s.boot.held = 0 → step = n → ∃ t, exec (.bootStepEnd r) s = .next t ∧ rget Obj.BOOT_STEP 0 t = next ∧ t.boot.held = 0 ∧ more t
    let n := s.red.planeCtr
    let state := (fwState (chooseBanks s)).1
    let settled : Prop := s.fw.trial = false ∧ s.fw.pending = []
    let saved := s.cfg.saved
    let record := if recordLive s then snapshot s else saved
    ends 1 2 (fun t => t.mem = s.mem ∧ t.fw = s.fw)
    ∧ (n + 3 < 4294967296 → ends 2 3 (fun t => t.red = { s.red with planeCtr := n + 3, claimB := n + 1, claimA := n + 2, claimHeld := n + 3, claimNow := n + 2 } ∧ t.mem = s.mem))
    ∧ (settled → state ≠ 3 → ends 3 4 (fun t => rget Obj.FW_STATE 0 t = state ∧ t.mem = s.mem))
    ∧ (settled → state = 3 → ends 3 0 (fun t => rget Obj.FW_STATE 0 t = 3 ∧ t.hosts = s.hosts ∧ t.seam = s.seam ∧ t.mem = s.mem))
    ∧ ends 4 5 (fun t => (∀ c, c < 24 → ((chanOf t c).st = 3 → (r.dram.getD c ⟨0, 0, 0, 0, 0, false, false⟩).trained = true) ∧ (chanOf t c).cap = (r.dram.getD c ⟨0, 0, 0, 0, 0, false, false⟩).cap)
        ∧ (planeState t 0 = 0 ∨ planeState t 1 = 0 ∨ inService t = []) ∧ t.mem = s.mem)
    ∧ (s.boot.formatDue = false → s.flash.formatted = true → ends 5 6 (fun t => t.regions = saved.regions ∧ t.berths.berths = saved.berths ∧ t.berths.grants = saved.grants
        ∧ t.meters.shapers = saved.shapers ∧ t.pair.role = saved.role ∧ t.mem = s.mem))
    ∧ ends 6 7 (fun t => t.boot.unprepared = false ∧ t.boot.marker = none)
    ∧ ((∀ h, h < 16 → (linkOf s h).st = 0) → ends 7 0 (fun t => t.mem = s.mem ∧ t.hosts = s.hosts))
    ∧ (s.boot.held = 0 → step = 7 ∨ step = 0 → linkServes s link = true → link ∉ s.hosts.opened → s.hosts.early = [] → ∃ t, exec (.landingOpen link) s = .next t
        ∧ t.hosts = { s.hosts with opened := link :: s.hosts.opened } ∧ rget Obj.BOOT_STEP 0 t = 0 ∧ (step = 7 → rget Obj.BOOT_DONE_TIME 0 t = now s) ∧ t.mem = s.mem)
    ∧ (Claims.Runs .FAR_FORMAT w s → s.regions = [] → 2 ≤ (groupChans s 0).length → 2 ≤ (groupChans s 1).length → ∃ t, exec (.farFormat w) s = .next t ∧ t.mem.far = [] ∧ t.ferry.far = []
        ∧ t.flash.formatted = true ∧ t.flash.blockMap = [] ∧ t.berths.grants = [] ∧ (∀ l, (ldOf t l).enabled = false) ∧ t.cfg.saved.regions = [] ∧ t.cfg.saved.berths = saved.berths
        ∧ (s.lds = [] → s.meters.shapers = [] → s.grid.panels = [] → t.mem.near = s.mem.near ∧ t.keys = s.keys ∧ t.berths.berths = s.berths.berths)
        ∧ Claims.resultAt .FAR_FORMAT w.path t = some (natLE 8 0))
    ∧ (Claims.Runs .FAR_FORMAT w s → (∃ g ∈ s.regions, g.2.st ≠ 0) → ∃ t, exec (.farFormat w) s = .next t ∧ Claims.resultAt .FAR_FORMAT w.path t = some (natLE 8 1) ∧ t.mem = s.mem ∧ t.flash = s.flash)
    ∧ (s.cfg.posts = [p] → p.drained = true → p.reply = none → ∃ t, exec .configRecordWritten s = .next t ∧ t.cfg = ⟨record, []⟩ ∧ tget none t.cmdRes p.key = some p.bytes ∧ t.out = s.out ∧ t.mem = s.mem)
    ∧ (∀ m, s.cfg.posts = [p] → p.drained = true → p.reply = some (.book w.path m) → ∃ t, exec .configRecordWritten s = .next t ∧ t.cfg = ⟨record, []⟩ ∧ t.out = .book w.path m :: s.out ∧ t.mem = s.mem)
    ∧ (s.cfg.posts = [p] → p.drained = false → ∃ t, exec .configRecordWritten s = .next t ∧ t.cfg = ⟨record, [{ p with written := true }]⟩ ∧ t.out = s.out ∧ t.cmdRes = s.cmdRes)

/-! ## NEXT's access word, the state after reset and the invariant of every step -/

/-- R487 and Table 22.2: NEXT returns an object's ACCESS word, big-endian, with KIND, RROLE, WROLE, one bit per marker, LCR and LCW in their
fields; its reserved bits are 0. -/
def Obligations.NextReturnsAccessWord : Prop :=
  (∀ (w : Who) (t : TackMsg) (o : Obj) (s : State), t.len = 4 → nextObj w (beNat (t.payload.take 3)) s = some o →
    (tackNext w t s).status = 0 ∧ (tackNext w t s).payload.drop 4 = natBE 4 (accessWord o))
  ∧ ∀ o ∈ Obj.all,
    let field (from_ n : Nat) : Nat := accessWord o / 2 ^ from_ % 2 ^ n
    let marker (k : Nat) (m : Mark) : Prop := field k 1 = if o.marks.contains m then 1 else 0
    field 0 2 = o.kind ∧ field 2 2 = o.rrole ∧ field 4 2 = o.wrole
    ∧ marker 6 .secure ∧ marker 7 .world ∧ marker 8 .conf ∧ marker 9 .path ∧ marker 10 .nextReset ∧ marker 11 .noSess ∧ marker 12 .recov
    ∧ marker 13 .seg ∧ marker 14 .secureIf ∧ field 15 1 = 0 ∧ field 16 5 = lcr o ∧ field 21 5 = lcw o ∧ accessWord o < 2 ^ 26

/-- The state after reset, before POWER_ON (log entries 4, 5 and 10: what the spec leaves open here is the model's choice): no command
waits, every object has its default, every byte reads as zero, no tile is resident and no region exists. -/
def Obligations.ResetHoldsDefaults : Prop :=
  State.reset.pending = [] ∧ (∀ o i, rget o i State.reset = o.dflt)
  ∧ (∀ a, tget 0 State.reset.mem.near a = 0 ∧ tget 0 State.reset.mem.far a = 0 ∧ tget 0 State.reset.mem.ls a = 0)
  ∧ (∀ n, (regionOf State.reset n).st = 0) ∧ (∀ tile, (tagOf State.reset tile).st = 0)

/-- The state after reset is safe: its byte memories are in canonical form and its power ladder stands on a rung. -/
def Obligations.ResetIsSafe : Prop := Safe State.reset = true

/-- Every step keeps the byte memories, and the snapshots of tiles that cross, in canonical form, and the power ladder on its rungs 0 to
32 (R496, R497). -/
def Obligations.EveryStepKeepsSafe : Prop :=
  ∀ s t : State, Safe s = true → step s = .next t → Safe t = true
end

