-- ==== Sys2Proof/Laws/Arms.lean ====
section
/-! SUPPORT. What exec does for each command: the one meaning its arm calls. -/

namespace Sys2Proof.Machine

theorem exec_regionCreate (w : Who) (arg : Nat) (s : State) :
    exec (.regionCreate w arg) s = execRegionCreate w arg s := rfl
theorem exec_regionLive (region : Nat) (s : State) :
    exec (.regionLive region) s = execRegionLive region s := rfl
theorem exec_paceWindowEnd (readings : List LoopReading) (s : State) :
    exec (.paceWindowEnd readings) s = execPaceWindowEnd readings s := rfl
theorem exec_paceLowWaterClear (w : Who) (s : State) :
    exec (.paceLowWaterClear w) s = execPaceLowWaterClear w s := rfl
theorem exec_sysclk25Loss  (s : State) :
    exec (.sysclk25Loss) s = execSysclk25Loss s := rfl
theorem exec_pllLockLoss (island port : Nat) (s : State) :
    exec (.pllLockLoss island port) s = execPllLockLoss island port s := rfl
theorem exec_pllRelock (island port : Nat) (s : State) :
    exec (.pllRelock island port) s = execPllRelock island port s := rfl
theorem exec_memRd (ld tag hpa : Nat) (m : MetaVal) (s : State) :
    exec (.memRd ld tag hpa m) s = execMemRd ld tag hpa m s := rfl
theorem exec_memRdData (ld tag hpa : Nat) (s : State) :
    exec (.memRdData ld tag hpa) s = execMemRdData ld tag hpa s := rfl
theorem exec_memInv (ld tag hpa : Nat) (m : MetaVal) (s : State) :
    exec (.memInv ld tag hpa m) s = execMemInv ld tag hpa m s := rfl
theorem exec_memWr (ld tag hpa : Nat) (m : MetaVal) (data : List Byte) (poison : Bool) (s : State) :
    exec (.memWr ld tag hpa m data poison) s = execMemWr ld tag hpa m data poison s := rfl
theorem exec_memWrPtl (ld tag hpa : Nat) (m : MetaVal) (data : List Byte) (mask : List Bool) (poison : Bool) (s : State) :
    exec (.memWrPtl ld tag hpa m data mask poison) s = execMemWrPtl ld tag hpa m data mask poison s := rfl
theorem exec_memClnEvct (ld tag hpa : Nat) (s : State) :
    exec (.memClnEvct ld tag hpa) s = execMemClnEvct ld tag hpa s := rfl
theorem exec_memSpecRd (ld hpa : Nat) (s : State) :
    exec (.memSpecRd ld hpa) s = execMemSpecRd ld hpa s := rfl
theorem exec_biRsp (agent line : Nat) (resp : BiResp) (wb : Option (List Byte)) (s : State) :
    exec (.biRsp agent line resp wb) s = execBiRsp agent line resp wb s := rfl
theorem exec_biConflict (agent line : Nat) (s : State) :
    exec (.biConflict agent line) s = execBiConflict agent line s := rfl
theorem exec_bisnpTimeout (agent line : Nat) (s : State) :
    exec (.bisnpTimeout agent line) s = execBisnpTimeout agent line s := rfl
theorem exec_deadAgentSweepEnd (agent : Nat) (s : State) :
    exec (.deadAgentSweepEnd agent) s = execDeadAgentSweepEnd agent s := rfl
theorem exec_manifestRemapMarker (set : Nat) (s : State) :
    exec (.manifestRemapMarker set) s = execManifestRemapMarker set s := rfl
theorem exec_tileRecallComplete (tile : Nat) (s : State) :
    exec (.tileRecallComplete tile) s = execTileRecallComplete tile s := rfl
theorem exec_rangeRecallComplete (id : Nat) (s : State) :
    exec (.rangeRecallComplete id) s = execRangeRecallComplete id s := rfl
theorem exec_deadPoisonLogClear (w : Who) (s : State) :
    exec (.deadPoisonLogClear w) s = execDeadPoisonLogClear w s := rfl
theorem exec_atwLoad (r : AtwReq) (s : State) :
    exec (.atwLoad r) s = execAtwLoad r s := rfl
theorem exec_atwStore (r : AtwReq) (s : State) :
    exec (.atwStore r) s = execAtwStore r s := rfl
theorem exec_atwSwap (r : AtwReq) (s : State) :
    exec (.atwSwap r) s = execAtwSwap r s := rfl
theorem exec_atwCas (r : AtwReq) (s : State) :
    exec (.atwCas r) s = execAtwCas r s := rfl
theorem exec_atwAdd (r : AtwReq) (s : State) :
    exec (.atwAdd r) s = execAtwAdd r s := rfl
theorem exec_atwMin (r : AtwReq) (s : State) :
    exec (.atwMin r) s = execAtwMin r s := rfl
theorem exec_atwMax (r : AtwReq) (s : State) :
    exec (.atwMax r) s = execAtwMax r s := rfl
theorem exec_atwAnd (r : AtwReq) (s : State) :
    exec (.atwAnd r) s = execAtwAnd r s := rfl
theorem exec_atwOr (r : AtwReq) (s : State) :
    exec (.atwOr r) s = execAtwOr r s := rfl
theorem exec_atwXor (r : AtwReq) (s : State) :
    exec (.atwXor r) s = execAtwXor r s := rfl
theorem exec_atwAddCap (r : AtwReq) (s : State) :
    exec (.atwAddCap r) s = execAtwAddCap r s := rfl
theorem exec_homeExecution (line : Nat) (checkOk : Bool) (s : State) :
    exec (.homeExecution line checkOk) s = execHomeExecution line checkOk s := rfl
theorem exec_atwStatusRead (ld slot tag : Nat) (s : State) :
    exec (.atwStatusRead ld slot tag) s = execAtwStatusRead ld slot tag s := rfl
theorem exec_atwHoldExpiry (ld slot : Nat) (s : State) :
    exec (.atwHoldExpiry ld slot) s = execAtwHoldExpiry ld slot s := rfl
theorem exec_predDecayMarker  (s : State) :
    exec (.predDecayMarker) s = execPredDecayMarker s := rfl
theorem exec_chunkPlaced (tile chunk : Nat) (suspended : Bool) (s : State) :
    exec (.chunkPlaced tile chunk suspended) s = execChunkPlaced tile chunk suspended s := rfl
theorem exec_farCopyCommit (tile : Nat) (s : State) :
    exec (.farCopyCommit tile) s = execFarCopyCommit tile s := rfl
theorem exec_evictionSweep (chan : Nat) (s : State) :
    exec (.evictionSweep chan) s = execEvictionSweep chan s := rfl
theorem exec_ageTick  (s : State) :
    exec (.ageTick) s = execAgeTick s := rfl
theorem exec_slipwaySlotGranted (endpoint : Nat) (s : State) :
    exec (.slipwaySlotGranted endpoint) s = execSlipwaySlotGranted endpoint s := rfl
theorem exec_slipwayAgingLimit (endpoint tile : Nat) (s : State) :
    exec (.slipwayAgingLimit endpoint tile) s = execSlipwayAgingLimit endpoint tile s := rfl
theorem exec_hintPromote (r : HintReq) (s : State) :
    exec (.hintPromote r) s = execHintPromote r s := rfl
theorem exec_hintDemote (r : HintReq) (s : State) :
    exec (.hintDemote r) s = execHintDemote r s := rfl
theorem exec_hintStage (r : HintReq) (s : State) :
    exec (.hintStage r) s = execHintStage r s := rfl
theorem exec_hintPin (r : HintReq) (s : State) :
    exec (.hintPin r) s = execHintPin r s := rfl
theorem exec_hintUnpin (r : HintReq) (s : State) :
    exec (.hintUnpin r) s = execHintUnpin r s := rfl
theorem exec_hintUnstage (r : HintReq) (s : State) :
    exec (.hintUnstage r) s = execHintUnstage r s := rfl
theorem exec_stageExpiry (tile : Nat) (s : State) :
    exec (.stageExpiry tile) s = execStageExpiry tile s := rfl
theorem exec_convert (d : DescRef) (s : State) :
    exec (.convert d) s = execConvert d s := rfl
theorem exec_declare (d : DescRef) (s : State) :
    exec (.declare d) s = execDeclare d s := rfl
theorem exec_undeclare (d : DescRef) (s : State) :
    exec (.undeclare d) s = execUndeclare d s := rfl
theorem exec_aluAdd (c : CoreCtx) (rd ra rb : Nat) (s : State) :
    exec (.aluAdd c rd ra rb) s = execAluAdd c rd ra rb s := rfl
theorem exec_aluSub (c : CoreCtx) (rd ra rb : Nat) (s : State) :
    exec (.aluSub c rd ra rb) s = execAluSub c rd ra rb s := rfl
theorem exec_aluAnd (c : CoreCtx) (rd ra rb : Nat) (s : State) :
    exec (.aluAnd c rd ra rb) s = execAluAnd c rd ra rb s := rfl
theorem exec_aluOr (c : CoreCtx) (rd ra rb : Nat) (s : State) :
    exec (.aluOr c rd ra rb) s = execAluOr c rd ra rb s := rfl
theorem exec_aluXor (c : CoreCtx) (rd ra rb : Nat) (s : State) :
    exec (.aluXor c rd ra rb) s = execAluXor c rd ra rb s := rfl
theorem exec_sll (c : CoreCtx) (rd ra rb : Nat) (s : State) :
    exec (.sll c rd ra rb) s = execSll c rd ra rb s := rfl
theorem exec_srl (c : CoreCtx) (rd ra rb : Nat) (s : State) :
    exec (.srl c rd ra rb) s = execSrl c rd ra rb s := rfl
theorem exec_sra (c : CoreCtx) (rd ra rb : Nat) (s : State) :
    exec (.sra c rd ra rb) s = execSra c rd ra rb s := rfl
theorem exec_slt (c : CoreCtx) (rd ra rb : Nat) (s : State) :
    exec (.slt c rd ra rb) s = execSlt c rd ra rb s := rfl
theorem exec_sltu (c : CoreCtx) (rd ra rb : Nat) (s : State) :
    exec (.sltu c rd ra rb) s = execSltu c rd ra rb s := rfl
theorem exec_mul (c : CoreCtx) (rd ra rb : Nat) (s : State) :
    exec (.mul c rd ra rb) s = execMul c rd ra rb s := rfl
theorem exec_mulh (c : CoreCtx) (rd ra rb : Nat) (s : State) :
    exec (.mulh c rd ra rb) s = execMulh c rd ra rb s := rfl
theorem exec_mulhu (c : CoreCtx) (rd ra rb : Nat) (s : State) :
    exec (.mulhu c rd ra rb) s = execMulhu c rd ra rb s := rfl
theorem exec_aluMin (c : CoreCtx) (rd ra rb : Nat) (s : State) :
    exec (.aluMin c rd ra rb) s = execAluMin c rd ra rb s := rfl
theorem exec_aluMax (c : CoreCtx) (rd ra rb : Nat) (s : State) :
    exec (.aluMax c rd ra rb) s = execAluMax c rd ra rb s := rfl
theorem exec_minu (c : CoreCtx) (rd ra rb : Nat) (s : State) :
    exec (.minu c rd ra rb) s = execMinu c rd ra rb s := rfl
theorem exec_maxu (c : CoreCtx) (rd ra rb : Nat) (s : State) :
    exec (.maxu c rd ra rb) s = execMaxu c rd ra rb s := rfl
theorem exec_addi (c : CoreCtx) (rd ra imm : Nat) (s : State) :
    exec (.addi c rd ra imm) s = execAddi c rd ra imm s := rfl
theorem exec_andi (c : CoreCtx) (rd ra imm : Nat) (s : State) :
    exec (.andi c rd ra imm) s = execAndi c rd ra imm s := rfl
theorem exec_ori (c : CoreCtx) (rd ra imm : Nat) (s : State) :
    exec (.ori c rd ra imm) s = execOri c rd ra imm s := rfl
theorem exec_xori (c : CoreCtx) (rd ra imm : Nat) (s : State) :
    exec (.xori c rd ra imm) s = execXori c rd ra imm s := rfl
theorem exec_slti (c : CoreCtx) (rd ra imm : Nat) (s : State) :
    exec (.slti c rd ra imm) s = execSlti c rd ra imm s := rfl
theorem exec_sltiu (c : CoreCtx) (rd ra imm : Nat) (s : State) :
    exec (.sltiu c rd ra imm) s = execSltiu c rd ra imm s := rfl
theorem exec_shiLeft (c : CoreCtx) (rd ra amount : Nat) (s : State) :
    exec (.shiLeft c rd ra amount) s = execShiLeft c rd ra amount s := rfl
theorem exec_shiLogicalRight (c : CoreCtx) (rd ra amount : Nat) (s : State) :
    exec (.shiLogicalRight c rd ra amount) s = execShiLogicalRight c rd ra amount s := rfl
theorem exec_shiArithmeticRight (c : CoreCtx) (rd ra amount : Nat) (s : State) :
    exec (.shiArithmeticRight c rd ra amount) s = execShiArithmeticRight c rd ra amount s := rfl
theorem exec_lui (c : CoreCtx) (rd imm : Nat) (s : State) :
    exec (.lui c rd imm) s = execLui c rd imm s := rfl
theorem exec_rdsr (c : CoreCtx) (rd sr : Nat) (s : State) :
    exec (.rdsr c rd sr) s = execRdsr c rd sr s := rfl
theorem exec_wrsr (c : CoreCtx) (ra sr : Nat) (s : State) :
    exec (.wrsr c ra sr) s = execWrsr c ra sr s := rfl
theorem exec_lw (c : CoreCtx) (rd ra imm : Nat) (s : State) :
    exec (.lw c rd ra imm) s = execLw c rd ra imm s := rfl
theorem exec_lh (c : CoreCtx) (rd ra imm : Nat) (s : State) :
    exec (.lh c rd ra imm) s = execLh c rd ra imm s := rfl
theorem exec_lhu (c : CoreCtx) (rd ra imm : Nat) (s : State) :
    exec (.lhu c rd ra imm) s = execLhu c rd ra imm s := rfl
theorem exec_lb (c : CoreCtx) (rd ra imm : Nat) (s : State) :
    exec (.lb c rd ra imm) s = execLb c rd ra imm s := rfl
theorem exec_lbu (c : CoreCtx) (rd ra imm : Nat) (s : State) :
    exec (.lbu c rd ra imm) s = execLbu c rd ra imm s := rfl
theorem exec_sw (c : CoreCtx) (rd ra imm : Nat) (s : State) :
    exec (.sw c rd ra imm) s = execSw c rd ra imm s := rfl
theorem exec_sh (c : CoreCtx) (rd ra imm : Nat) (s : State) :
    exec (.sh c rd ra imm) s = execSh c rd ra imm s := rfl
theorem exec_sb (c : CoreCtx) (rd ra imm : Nat) (s : State) :
    exec (.sb c rd ra imm) s = execSb c rd ra imm s := rfl
theorem exec_beq (c : CoreCtx) (ra rb off : Nat) (s : State) :
    exec (.beq c ra rb off) s = execBeq c ra rb off s := rfl
theorem exec_bne (c : CoreCtx) (ra rb off : Nat) (s : State) :
    exec (.bne c ra rb off) s = execBne c ra rb off s := rfl
theorem exec_blt (c : CoreCtx) (ra rb off : Nat) (s : State) :
    exec (.blt c ra rb off) s = execBlt c ra rb off s := rfl
theorem exec_bge (c : CoreCtx) (ra rb off : Nat) (s : State) :
    exec (.bge c ra rb off) s = execBge c ra rb off s := rfl
theorem exec_bltu (c : CoreCtx) (ra rb off : Nat) (s : State) :
    exec (.bltu c ra rb off) s = execBltu c ra rb off s := rfl
theorem exec_bgeu (c : CoreCtx) (ra rb off : Nat) (s : State) :
    exec (.bgeu c ra rb off) s = execBgeu c ra rb off s := rfl
theorem exec_jal (c : CoreCtx) (rd imm : Nat) (s : State) :
    exec (.jal c rd imm) s = execJal c rd imm s := rfl
theorem exec_jalr (c : CoreCtx) (rd ra imm : Nat) (s : State) :
    exec (.jalr c rd ra imm) s = execJalr c rd ra imm s := rfl
theorem exec_lop (c : CoreCtx) (ps vd va vb pk gr : Nat) (s : State) :
    exec (.lop c ps vd va vb pk gr) s = execLop c ps vd va vb pk gr s := rfl
theorem exec_pld (c : CoreCtx) (slot ra imm : Nat) (s : State) :
    exec (.pld c slot ra imm) s = execPld c slot ra imm s := rfl
theorem exec_vld (c : CoreCtx) (v ga n off : Nat) (s : State) :
    exec (.vld c v ga n off) s = execVld c v ga n off s := rfl
theorem exec_vst (c : CoreCtx) (v ga n off : Nat) (s : State) :
    exec (.vst c v ga n off) s = execVst c v ga n off s := rfl
theorem exec_vins (c : CoreCtx) (v g lane : Nat) (s : State) :
    exec (.vins c v g lane) s = execVins c v g lane s := rfl
theorem exec_vext (c : CoreCtx) (v g lane : Nat) (s : State) :
    exec (.vext c v g lane) s = execVext c v g lane s := rfl
theorem exec_accZero (c : CoreCtx) (v lane : Nat) (s : State) :
    exec (.accZero c v lane) s = execAccZero c v lane s := rfl
theorem exec_accRead (c : CoreCtx) (v lane : Nat) (s : State) :
    exec (.accRead c v lane) s = execAccRead c v lane s := rfl
theorem exec_accWrite (c : CoreCtx) (v lane : Nat) (s : State) :
    exec (.accWrite c v lane) s = execAccWrite c v lane s := rfl
theorem exec_lrd (c : CoreCtx) (gb gp gx : Nat) (s : State) :
    exec (.lrd c gb gp gx) s = execLrd c gb gp gx s := rfl
theorem exec_lwr (c : CoreCtx) (gb gp gx : Nat) (s : State) :
    exec (.lwr c gb gp gx) s = execLwr c gb gp gx s := rfl
theorem exec_lwp (c : CoreCtx) (gb gp gx : Nat) (s : State) :
    exec (.lwp c gb gp gx) s = execLwp c gb gp gx s := rfl
theorem exec_crd (c : CoreCtx) (gb gp gx : Nat) (s : State) :
    exec (.crd c gb gp gx) s = execCrd c gb gp gx s := rfl
theorem exec_cwr (c : CoreCtx) (gb gp gx : Nat) (s : State) :
    exec (.cwr c gb gp gx) s = execCwr c gb gp gx s := rfl
theorem exec_hrd (c : CoreCtx) (gb gp gx : Nat) (s : State) :
    exec (.hrd c gb gp gx) s = execHrd c gb gp gx s := rfl
theorem exec_wopen (c : CoreCtx) (gb gp gx : Nat) (s : State) :
    exec (.wopen c gb gp gx) s = execWopen c gb gp gx s := rfl
theorem exec_wchk (c : CoreCtx) (gb gp gx : Nat) (s : State) :
    exec (.wchk c gb gp gx) s = execWchk c gb gp gx s := rfl
theorem exec_hwr (c : CoreCtx) (gb gp gx : Nat) (s : State) :
    exec (.hwr c gb gp gx) s = execHwr c gb gp gx s := rfl
theorem exec_poolDataLanded (core xfer : Nat) (s : State) :
    exec (.poolDataLanded core xfer) s = execPoolDataLanded core xfer s := rfl
theorem exec_amo (c : CoreCtx) (rd gp gx gs : Nat) (s : State) :
    exec (.amo c rd gp gx gs) s = execAmo c rd gp gx gs s := rfl
theorem exec_fence (c : CoreCtx) (s : State) :
    exec (.fence c) s = execFence c s := rfl
theorem exec_send (c : CoreCtx) (first target len port tag : Nat) (s : State) :
    exec (.send c first target len port tag) s = execSend c first target len port tag s := rfl
theorem exec_recv (c : CoreCtx) (first hdr len port tag : Nat) (s : State) :
    exec (.recv c first hdr len port tag) s = execRecv c first hdr len port tag s := rfl
theorem exec_coreMessage (panel : Nat) (s : State) :
    exec (.coreMessage panel) s = execCoreMessage panel s := rfl
theorem exec_bar (c : CoreCtx) (ra barrier : Nat) (s : State) :
    exec (.bar c ra barrier) s = execBar c ra barrier s := rfl
theorem exec_tchk (c : CoreCtx) (cond ra rb fn : Nat) (s : State) :
    exec (.tchk c cond ra rb fn) s = execTchk c cond ra rb fn s := rfl
theorem exec_crcb (c : CoreCtx) (rd ra imm : Nat) (s : State) :
    exec (.crcb c rd ra imm) s = execCrcb c rd ra imm s := rfl
theorem exec_taskEnd (c : CoreCtx) (s : State) :
    exec (.taskEnd c) s = execTaskEnd c s := rfl
theorem exec_jobSubmit (r : JobReq) (action : Nat) (s : State) :
    exec (.jobSubmit r action) s = execJobSubmit r action s := rfl
theorem exec_jobCancel (r : JobReq) (s : State) :
    exec (.jobCancel r) s = execJobCancel r s := rfl
theorem exec_jobPlace  (s : State) :
    exec (.jobPlace) s = execJobPlace s := rfl
theorem exec_quantumExpiry (job : Nat) (s : State) :
    exec (.quantumExpiry job) s = execQuantumExpiry job s := rfl
theorem exec_saveComplete (job : Nat) (s : State) :
    exec (.saveComplete job) s = execSaveComplete job s := rfl
theorem exec_restoreComplete (job : Nat) (scrcOk : Bool) (s : State) :
    exec (.restoreComplete job scrcOk) s = execRestoreComplete job scrcOk s := rfl
theorem exec_imageLoaded (job : Nat) (s : State) :
    exec (.imageLoaded job) s = execImageLoaded job s := rfl
theorem exec_tlimitCheck (job : Nat) (s : State) :
    exec (.tlimitCheck job) s = execTlimitCheck job s := rfl
theorem exec_gridSaveAll (w : Who) (s : State) :
    exec (.gridSaveAll w) s = execGridSaveAll w s := rfl
theorem exec_routeChange  (s : State) :
    exec (.routeChange) s = execRouteChange s := rfl
theorem exec_routeDrainComplete  (s : State) :
    exec (.routeDrainComplete) s = execRouteDrainComplete s := rfl
theorem exec_acknowledgement (src ref refkind delivered sunk endpoint : Nat) (s : State) :
    exec (.acknowledgement src ref refkind delivered sunk endpoint) s = execAcknowledgement src ref refkind delivered sunk endpoint s := rfl
theorem exec_deadEndpointAnswer (src ref endpoint : Nat) (s : State) :
    exec (.deadEndpointAnswer src ref endpoint) s = execDeadEndpointAnswer src ref endpoint s := rfl
theorem exec_creditReturn (kind src dst n : Nat) (s : State) :
    exec (.creditReturn kind src dst n) s = execCreditReturn kind src dst n s := rfl
theorem exec_waitNotice (src ref : Nat) (s : State) :
    exec (.waitNotice src ref) s = execWaitNotice src ref s := rfl
theorem exec_replyTimeout (src ref : Nat) (s : State) :
    exec (.replyTimeout src ref) s = execReplyTimeout src ref s := rfl
theorem exec_dramLineRead (chan line : Nat) (o : EccOutcome) (s : State) :
    exec (.dramLineRead chan line o) s = execDramLineRead chan line o s := rfl
theorem exec_allBankRefresh (chan rank : Nat) (drift : Bool) (s : State) :
    exec (.allBankRefresh chan rank drift) s = execAllBankRefresh chan rank drift s := rfl
theorem exec_pageIdlePrecharge (chan bank : Nat) (s : State) :
    exec (.pageIdlePrecharge chan bank) s = execPageIdlePrecharge chan bank s := rfl
theorem exec_dimmTempSample (temps : List Int) (s : State) :
    exec (.dimmTempSample temps) s = execDimmTempSample temps s := rfl
theorem exec_dramScrubRead (chan area line : Nat) (o : EccOutcome) (s : State) :
    exec (.dramScrubRead chan area line o) s = execDramScrubRead chan area line o s := rfl
theorem exec_caParityAlert (chan replays : Nat) (failed : Bool) (s : State) :
    exec (.caParityAlert chan replays failed) s = execCaParityAlert chan replays failed s := rfl
theorem exec_writeCrcAlert (chan replays : Nat) (failed : Bool) (s : State) :
    exec (.writeCrcAlert chan replays failed) s = execWriteCrcAlert chan replays failed s := rfl
theorem exec_dramRetire (w : Who) (arg : Nat) (s : State) :
    exec (.dramRetire w arg) s = execDramRetire w arg s := rfl
theorem exec_dramRetirementStep  (s : State) :
    exec (.dramRetirementStep) s = execDramRetirementStep s := rfl
theorem exec_dramChannelLost (chan cause : Nat) (s : State) :
    exec (.dramChannelLost chan cause) s = execDramChannelLost chan cause s := rfl
theorem exec_dramLogClear (w : Who) (s : State) :
    exec (.dramLogClear w) s = execDramLogClear w s := rfl
theorem exec_farReadFailure (tile chunk : Nat) (check : Bool) (s : State) :
    exec (.farReadFailure tile chunk check) s = execFarReadFailure tile chunk check s := rfl
theorem exec_rebuildComplete (tile chunk : Nat) (ok : Bool) (s : State) :
    exec (.rebuildComplete tile chunk ok) s = execRebuildComplete tile chunk ok s := rfl
theorem exec_programFailure (chan block : Nat) (s : State) :
    exec (.programFailure chan block) s = execProgramFailure chan block s := rfl
theorem exec_eraseFailure (chan block : Nat) (s : State) :
    exec (.eraseFailure chan block) s = execEraseFailure chan block s := rfl
theorem exec_rowFlush (group : Nat) (s : State) :
    exec (.rowFlush group) s = execRowFlush group s := rfl
theorem exec_merge (group : Nat) (s : State) :
    exec (.merge group) s = execMerge group s := rfl
theorem exec_bandReclaim (group : Nat) (s : State) :
    exec (.bandReclaim group) s = execBandReclaim group s := rfl
theorem exec_translationCheckpoint  (s : State) :
    exec (.translationCheckpoint) s = execTranslationCheckpoint s := rfl
theorem exec_pfail  (s : State) :
    exec (.pfail) s = execPfail s := rfl
theorem exec_flashChannelLost (chan : Nat) (s : State) :
    exec (.flashChannelLost chan) s = execFlashChannelLost chan s := rfl
theorem exec_flxLossTimeout  (s : State) :
    exec (.flxLossTimeout) s = execFlxLossTimeout s := rfl
theorem exec_flxRelock  (s : State) :
    exec (.flxRelock) s = execFlxRelock s := rfl
theorem exec_flashRetire (w : Who) (arg : Nat) (s : State) :
    exec (.flashRetire w arg) s = execFlashRetire w arg s := rfl
theorem exec_flashRetirementEnd  (s : State) :
    exec (.flashRetirementEnd) s = execFlashRetirementEnd s := rfl
theorem exec_linkUp (link : Nat) (flit256 : Bool) (rate width : Nat) (s : State) :
    exec (.linkUp link flit256 rate width) s = execLinkUp link flit256 rate width s := rfl
theorem exec_linkDown (link : Nat) (s : State) :
    exec (.linkDown link) s = execLinkDown link s := rfl
theorem exec_linkRecovery (link : Nat) (s : State) :
    exec (.linkRecovery link) s = execLinkRecovery link s := rfl
theorem exec_recoveryEnd (link : Nat) (ok sameFlit : Bool) (s : State) :
    exec (.recoveryEnd link ok sameFlit) s = execRecoveryEnd link ok sameFlit s := rfl
theorem exec_perst (link : Nat) (s : State) :
    exec (.perst link) s = execPerst link s := rfl
theorem exec_decoderCommit (ld n hpa size dpa ways : Nat) (s : State) :
    exec (.decoderCommit ld n hpa size dpa ways) s = execDecoderCommit ld n hpa size dpa ways s := rfl
theorem exec_decoderUncommit (ld n : Nat) (s : State) :
    exec (.decoderUncommit ld n) s = execDecoderUncommit ld n s := rfl
theorem exec_functionLevelReset (ld : Nat) (s : State) :
    exec (.functionLevelReset ld) s = execFunctionLevelReset ld s := rfl
theorem exec_cxlReset (ld : Nat) (s : State) :
    exec (.cxlReset ld) s = execCxlReset ld s := rfl
theorem exec_setLdAllocations (r : MboxReq) (start : Nat) (allocs : List Nat) (s : State) :
    exec (.setLdAllocations r start allocs) s = execSetLdAllocations r start allocs s := rfl
theorem exec_getLdInfo (r : MboxReq) (s : State) :
    exec (.getLdInfo r) s = execGetLdInfo r s := rfl
theorem exec_getLdAllocations (r : MboxReq) (start limit : Nat) (s : State) :
    exec (.getLdAllocations r start limit) s = execGetLdAllocations r start limit s := rfl
theorem exec_getDcRegionConfiguration (r : MboxReq) (s : State) :
    exec (.getDcRegionConfiguration r) s = execGetDcRegionConfiguration r s := rfl
theorem exec_getDcExtentLists (r : MboxReq) (start count : Nat) (s : State) :
    exec (.getDcExtentLists r start count) s = execGetDcExtentLists r start count s := rfl
theorem exec_unsupportedCommand (r : MboxReq) (opcode : Nat) (s : State) :
    exec (.unsupportedCommand r opcode) s = execUnsupportedCommand r opcode s := rfl
theorem exec_identifyMemoryDevice (r : MboxReq) (s : State) :
    exec (.identifyMemoryDevice r) s = execIdentifyMemoryDevice r s := rfl
theorem exec_getSupportedLogs (r : MboxReq) (s : State) :
    exec (.getSupportedLogs r) s = execGetSupportedLogs r s := rfl
theorem exec_getLog (r : MboxReq) (cel : Bool) (offset len : Nat) (s : State) :
    exec (.getLog r cel offset len) s = execGetLog r cel offset len s := rfl
theorem exec_getEventRecords (r : MboxReq) (log : Nat) (s : State) :
    exec (.getEventRecords r log) s = execGetEventRecords r log s := rfl
theorem exec_clearEventRecords (r : MboxReq) (log : Nat) (all : Bool) (handles : List Nat) (s : State) :
    exec (.clearEventRecords r log all handles) s = execClearEventRecords r log all handles s := rfl
theorem exec_getEventInterruptPolicy (r : MboxReq) (s : State) :
    exec (.getEventInterruptPolicy r) s = execGetEventInterruptPolicy r s := rfl
theorem exec_setEventInterruptPolicy (r : MboxReq) (policy : Nat) (s : State) :
    exec (.setEventInterruptPolicy r policy) s = execSetEventInterruptPolicy r policy s := rfl
theorem exec_getTimestamp (r : MboxReq) (s : State) :
    exec (.getTimestamp r) s = execGetTimestamp r s := rfl
theorem exec_setTimestamp (r : MboxReq) (stamp : Nat) (s : State) :
    exec (.setTimestamp r stamp) s = execSetTimestamp r stamp s := rfl
theorem exec_getFwInfo (r : MboxReq) (s : State) :
    exec (.getFwInfo r) s = execGetFwInfo r s := rfl
theorem exec_transferFw (r : MboxReq) (action offset : Nat) (data : List Byte) (s : State) :
    exec (.transferFw r action offset data) s = execTransferFw r action offset data s := rfl
theorem exec_activateFw (r : MboxReq) (action mask : Nat) (s : State) :
    exec (.activateFw r action mask) s = execActivateFw r action mask s := rfl
theorem exec_getHealthInfo (r : MboxReq) (s : State) :
    exec (.getHealthInfo r) s = execGetHealthInfo r s := rfl
theorem exec_getAlertConfiguration (r : MboxReq) (s : State) :
    exec (.getAlertConfiguration r) s = execGetAlertConfiguration r s := rfl
theorem exec_setAlertConfiguration (r : MboxReq) (value : Nat) (s : State) :
    exec (.setAlertConfiguration r value) s = execSetAlertConfiguration r value s := rfl
theorem exec_getPoisonList (r : MboxReq) (dpa len : Nat) (s : State) :
    exec (.getPoisonList r dpa len) s = execGetPoisonList r dpa len s := rfl
theorem exec_injectPoison (r : MboxReq) (dpa : Nat) (s : State) :
    exec (.injectPoison r dpa) s = execInjectPoison r dpa s := rfl
theorem exec_clearPoison (r : MboxReq) (dpa : Nat) (data : List Byte) (s : State) :
    exec (.clearPoison r dpa data) s = execClearPoison r dpa data s := rfl
theorem exec_getDynamicCapacityConfiguration (r : MboxReq) (s : State) :
    exec (.getDynamicCapacityConfiguration r) s = execGetDynamicCapacityConfiguration r s := rfl
theorem exec_getDynamicCapacityExtentList (r : MboxReq) (start count : Nat) (s : State) :
    exec (.getDynamicCapacityExtentList r start count) s = execGetDynamicCapacityExtentList r start count s := rfl
theorem exec_addDynamicCapacityResponse (r : MboxReq) (answered accepted : List Nat) (s : State) :
    exec (.addDynamicCapacityResponse r answered accepted) s = execAddDynamicCapacityResponse r answered accepted s := rfl
theorem exec_releaseDynamicCapacity (r : MboxReq) (regions : List Nat) (s : State) :
    exec (.releaseDynamicCapacity r regions) s = execReleaseDynamicCapacity r regions s := rfl
theorem exec_releaseComplete (ld region : Nat) (s : State) :
    exec (.releaseComplete ld region) s = execReleaseComplete ld region s := rfl
theorem exec_dcReleaseTimeout (ld region : Nat) (s : State) :
    exec (.dcReleaseTimeout ld region) s = execDcReleaseTimeout ld region s := rfl
theorem exec_patternBookTunnel (r : MboxReq) (message : List Byte) (s : State) :
    exec (.patternBookTunnel r message) s = execPatternBookTunnel r message s := rfl
theorem exec_seamDetect (port : Nat) (s : State) :
    exec (.seamDetect port) s = execSeamDetect port s := rfl
theorem exec_seamTrainingEnd (port unit flight : Nat) (ok : Bool) (rx tx : List Nat) (s : State) :
    exec (.seamTrainingEnd port unit flight ok rx tx) s = execSeamTrainingEnd port unit flight ok rx tx s := rfl
theorem exec_seamDownTimeout (port : Nat) (s : State) :
    exec (.seamDownTimeout port) s = execSeamDownTimeout port s := rfl
theorem exec_seamLinkDown (port cause : Nat) (s : State) :
    exec (.seamLinkDown port cause) s = execSeamLinkDown port cause s := rfl
theorem exec_idleFrame (port : Nat) (frame : List Byte) (s : State) :
    exec (.idleFrame port frame) s = execIdleFrame port frame s := rfl
theorem exec_cellFrame (port : Nat) (frame : List Byte) (s : State) :
    exec (.cellFrame port frame) s = execCellFrame port frame s := rfl
theorem exec_dataFrame (port : Nat) (frame : List Byte) (s : State) :
    exec (.dataFrame port frame) s = execDataFrame port frame s := rfl
theorem exec_ctrlFrame (port : Nat) (frame : List Byte) (s : State) :
    exec (.ctrlFrame port frame) s = execCtrlFrame port frame s := rfl
theorem exec_ackForce (port : Nat) (s : State) :
    exec (.ackForce port) s = execAckForce port s := rfl
theorem exec_seamReplayTimeout (port : Nat) (s : State) :
    exec (.seamReplayTimeout port) s = execSeamReplayTimeout port s := rfl
theorem exec_spareReq (port lane spare sseq : Nat) (s : State) :
    exec (.spareReq port lane spare sseq) s = execSpareReq port lane spare sseq s := rfl
theorem exec_spareConf (port sseq : Nat) (ok : Bool) (s : State) :
    exec (.spareConf port sseq ok) s = execSpareConf port sseq ok s := rfl
theorem exec_spareDone (port lane spare sseq : Nat) (s : State) :
    exec (.spareDone port lane spare sseq) s = execSpareDone port lane spare sseq s := rfl
theorem exec_loopbackRequest (port : Nat) (pattern : List Byte) (s : State) :
    exec (.loopbackRequest port pattern) s = execLoopbackRequest port pattern s := rfl
theorem exec_loopbackEcho (port : Nat) (pattern : List Byte) (s : State) :
    exec (.loopbackEcho port pattern) s = execLoopbackEcho port pattern s := rfl
theorem exec_seamLoopbackPeriod  (s : State) :
    exec (.seamLoopbackPeriod) s = execSeamLoopbackPeriod s := rfl
theorem exec_seamHeartbeat (port hseq claim unit time health : Nat) (s : State) :
    exec (.seamHeartbeat port hseq claim unit time health) s = execSeamHeartbeat port hseq claim unit time health s := rfl
theorem exec_mwrite (port : Nat) (s : State) :
    exec (.mwrite port) s = execMwrite port s := rfl
theorem exec_mpoison (port : Nat) (s : State) :
    exec (.mpoison port) s = execMpoison port s := rfl
theorem exec_mack (port : Nat) (s : State) :
    exec (.mack port) s = execMack port s := rfl
theorem exec_fetch (port : Nat) (s : State) :
    exec (.fetch port) s = execFetch port s := rfl
theorem exec_fdata (port : Nat) (s : State) :
    exec (.fdata port) s = execFdata port s := rfl
theorem exec_fnak (port : Nat) (s : State) :
    exec (.fnak port) s = execFnak port s := rfl
theorem exec_claim (port : Nat) (s : State) :
    exec (.claim port) s = execClaim port s := rfl
theorem exec_claimAck (port : Nat) (s : State) :
    exec (.claimAck port) s = execClaimAck port s := rfl
theorem exec_pairJoin (port : Nat) (s : State) :
    exec (.pairJoin port) s = execPairJoin port s := rfl
theorem exec_pairLease (port : Nat) (s : State) :
    exec (.pairLease port) s = execPairLease port s := rfl
theorem exec_pairHandover (port : Nat) (s : State) :
    exec (.pairHandover port) s = execPairHandover port s := rfl
theorem exec_pairTakeover (port : Nat) (s : State) :
    exec (.pairTakeover port) s = execPairTakeover port s := rfl
theorem exec_pairStepdown (port : Nat) (s : State) :
    exec (.pairStepdown port) s = execPairStepdown port s := rfl
theorem exec_pairRegion (port : Nat) (s : State) :
    exec (.pairRegion port) s = execPairRegion port s := rfl
theorem exec_pairVerify (port : Nat) (s : State) :
    exec (.pairVerify port) s = execPairVerify port s := rfl
theorem exec_pairRsp (port : Nat) (s : State) :
    exec (.pairRsp port) s = execPairRsp port s := rfl
theorem exec_planeAnswer (tag cmp : Nat) (same : Bool) (s : State) :
    exec (.planeAnswer tag cmp same) s = execPlaneAnswer tag cmp same s := rfl
theorem exec_planeCommand (plane stage tag step line what claim : Nat) (s : State) :
    exec (.planeCommand plane stage tag step line what claim) s = execPlaneCommand plane stage tag step line what claim s := rfl
theorem exec_mergeWindowExpiry (tag : Nat) (s : State) :
    exec (.mergeWindowExpiry tag) s = execMergeWindowExpiry tag s := rfl
theorem exec_resolveMarker (line failed : Nat) (s : State) :
    exec (.resolveMarker line failed) s = execResolveMarker line failed s := rfl
theorem exec_planeHeartbeat (plane path : Nat) (s : State) :
    exec (.planeHeartbeat plane path) s = execPlaneHeartbeat plane path s := rfl
theorem exec_planeSilence (plane path : Nat) (s : State) :
    exec (.planeSilence plane path) s = execPlaneSilence plane path s := rfl
theorem exec_takeover (plane claim : Nat) (s : State) :
    exec (.takeover plane claim) s = execTakeover plane claim s := rfl
theorem exec_dualIssueWindowEnd  (s : State) :
    exec (.dualIssueWindowEnd) s = execDualIssueWindowEnd s := rfl
theorem exec_planeRetire (w : Who) (arg : Nat) (s : State) :
    exec (.planeRetire w arg) s = execPlaneRetire w arg s := rfl
theorem exec_planeRejoin (w : Who) (arg : Nat) (s : State) :
    exec (.planeRejoin w arg) s = execPlaneRejoin w arg s := rfl
theorem exec_copyMarker (set : Nat) (s : State) :
    exec (.copyMarker set) s = execCopyMarker set s := rfl
theorem exec_mfScrubMarker (set : Nat) (failA failB : List Nat) (differ : List Nat) (s : State) :
    exec (.mfScrubMarker set failA failB differ) s = execMfScrubMarker set failA failB differ s := rfl
theorem exec_panelTest (panel : Nat) (ok : Bool) (s : State) :
    exec (.panelTest panel ok) s = execPanelTest panel ok s := rfl
theorem exec_healthRefresh  (s : State) :
    exec (.healthRefresh) s = execHealthRefresh s := rfl
theorem exec_healthClear (w : Who) (s : State) :
    exec (.healthClear w) s = execHealthClear w s := rfl
theorem exec_pairHeartbeatSend  (s : State) :
    exec (.pairHeartbeatSend) s = execPairHeartbeatSend s := rfl
theorem exec_partnerSilent  (s : State) :
    exec (.partnerSilent) s = execPartnerSilent s := rfl
theorem exec_leaseLapse  (s : State) :
    exec (.leaseLapse) s = execLeaseLapse s := rfl
theorem exec_takingServeStart  (s : State) :
    exec (.takingServeStart) s = execTakingServeStart s := rfl
theorem exec_overlapWindowEnd  (s : State) :
    exec (.overlapWindowEnd) s = execOverlapWindowEnd s := rfl
theorem exec_pairVerifyPeriod  (s : State) :
    exec (.pairVerifyPeriod) s = execPairVerifyPeriod s := rfl
theorem exec_pairHandoverCmd (w : Who) (s : State) :
    exec (.pairHandoverCmd w) s = execPairHandoverCmd w s := rfl
theorem exec_pairForcePrimary (w : Who) (s : State) :
    exec (.pairForcePrimary w) s = execPairForcePrimary w s := rfl
theorem exec_pairPartnerUnit (w : Who) (unit : Nat) (s : State) :
    exec (.pairPartnerUnit w unit) s = execPairPartnerUnit w unit s := rfl
theorem exec_resyncClaim (span : Nat) (s : State) :
    exec (.resyncClaim span) s = execResyncClaim span s := rfl
theorem exec_meterRebalance  (s : State) :
    exec (.meterRebalance) s = execMeterRebalance s := rfl
theorem exec_redQueueRetest (link : Nat) (s : State) :
    exec (.redQueueRetest link) s = execRedQueueRetest link s := rfl
theorem exec_holdRedMemExpiry (link : Nat) (s : State) :
    exec (.holdRedMemExpiry link) s = execHoldRedMemExpiry link s := rfl
theorem exec_holdYellowExpiry (kind link : Nat) (s : State) :
    exec (.holdYellowExpiry kind link) s = execHoldYellowExpiry kind link s := rfl
theorem exec_bmeterShaperSet (w : Who) (rec : ShaperArg) (s : State) :
    exec (.bmeterShaperSet w rec) s = execBmeterShaperSet w rec s := rfl
theorem exec_pmeterShaperSet (w : Who) (rec : ShaperArg) (s : State) :
    exec (.pmeterShaperSet w rec) s = execPmeterShaperSet w rec s := rfl
theorem exec_bucketLeak (source inst : Nat) (s : State) :
    exec (.bucketLeak source inst) s = execBucketLeak source inst s := rfl
theorem exec_tileChecksumFailure (tile : Nat) (s : State) :
    exec (.tileChecksumFailure tile) s = execTileChecksumFailure tile s := rfl
theorem exec_canaryStep (o : CanaryOutcome) (s : State) :
    exec (.canaryStep o) s = execCanaryStep o s := rfl
theorem exec_errLogClear (w : Who) (s : State) :
    exec (.errLogClear w) s = execErrLogClear w s := rfl
theorem exec_divLogClear (w : Who) (s : State) :
    exec (.divLogClear w) s = execDivLogClear w s := rfl
theorem exec_berthCreate (w : Who) (arg : Nat) (s : State) :
    exec (.berthCreate w arg) s = execBerthCreate w arg s := rfl
theorem exec_berthDelete (w : Who) (arg : Nat) (s : State) :
    exec (.berthDelete w arg) s = execBerthDelete w arg s := rfl
theorem exec_panelAssign (w : Who) (arg : Nat) (s : State) :
    exec (.panelAssign w arg) s = execPanelAssign w arg s := rfl
theorem exec_ldBind (w : Who) (arg : Nat) (s : State) :
    exec (.ldBind w arg) s = execLdBind w arg s := rfl
theorem exec_worldLandingSet (w : Who) (arg : Nat) (s : State) :
    exec (.worldLandingSet w arg) s = execWorldLandingSet w arg s := rfl
theorem exec_regionDelete (w : Who) (arg : Nat) (s : State) :
    exec (.regionDelete w arg) s = execRegionDelete w arg s := rfl
theorem exec_regionRemovalEnd (region : Nat) (s : State) :
    exec (.regionRemovalEnd region) s = execRegionRemovalEnd region s := rfl
theorem exec_permGrant (w : Who) (arg : Nat) (s : State) :
    exec (.permGrant w arg) s = execPermGrant w arg s := rfl
theorem exec_permDrainComplete  (s : State) :
    exec (.permDrainComplete) s = execPermDrainComplete s := rfl
theorem exec_confSet (w : Who) (arg : Nat) (s : State) :
    exec (.confSet w arg) s = execConfSet w arg s := rfl
theorem exec_getVersion (r : SpdmReq) (s : State) :
    exec (.getVersion r) s = execGetVersion r s := rfl
theorem exec_getCapabilities (r : SpdmReq) (s : State) :
    exec (.getCapabilities r) s = execGetCapabilities r s := rfl
theorem exec_negotiateAlgorithms (r : SpdmReq) (asym hash : Nat) (s : State) :
    exec (.negotiateAlgorithms r asym hash) s = execNegotiateAlgorithms r asym hash s := rfl
theorem exec_getDigests (r : SpdmReq) (s : State) :
    exec (.getDigests r) s = execGetDigests r s := rfl
theorem exec_getCertificate (r : SpdmReq) (slot offset len : Nat) (s : State) :
    exec (.getCertificate r slot offset len) s = execGetCertificate r slot offset len s := rfl
theorem exec_challenge (r : SpdmReq) (slot nonce : Nat) (s : State) :
    exec (.challenge r slot nonce) s = execChallenge r slot nonce s := rfl
theorem exec_spdmUnsupportedRequest (r : SpdmReq) (code : Nat) (s : State) :
    exec (.spdmUnsupportedRequest r code) s = execSpdmUnsupportedRequest r code s := rfl
theorem exec_keyRotate (w : Who) (s : State) :
    exec (.keyRotate w) s = execKeyRotate w s := rfl
theorem exec_rekeyCrossing (tile : Nat) (s : State) :
    exec (.rekeyCrossing tile) s = execRekeyCrossing tile s := rfl
theorem exec_rekeySweepComplete (berth : Nat) (s : State) :
    exec (.rekeySweepComplete berth) s = execRekeySweepComplete berth s := rfl
theorem exec_lcToDevelop (w : Who) (rsvd : Nat) (token : List Byte) (s : State) :
    exec (.lcToDevelop w rsvd token) s = execLcToDevelop w rsvd token s := rfl
theorem exec_lcToSealed (w : Who) (rsvd : Nat) (token : List Byte) (s : State) :
    exec (.lcToSealed w rsvd token) s = execLcToSealed w rsvd token s := rfl
theorem exec_lcToReturned (w : Who) (rsvd : Nat) (token : List Byte) (s : State) :
    exec (.lcToReturned w rsvd token) s = execLcToReturned w rsvd token s := rfl
theorem exec_lcToVoid (w : Who) (rsvd : Nat) (token : List Byte) (s : State) :
    exec (.lcToVoid w rsvd token) s = execLcToVoid w rsvd token s := rfl
theorem exec_lcUnlock (w : Who) (token : List Byte) (s : State) :
    exec (.lcUnlock w token) s = execLcUnlock w token s := rfl
theorem exec_pairSecret (w : Who) (secret : List Byte) (s : State) :
    exec (.pairSecret w secret) s = execPairSecret w secret s := rfl
theorem exec_fwStage (w : Who) (bundle : List Byte) (s : State) :
    exec (.fwStage w bundle) s = execFwStage w bundle s := rfl
theorem exec_fwActivate (w : Who) (arg : Nat) (s : State) :
    exec (.fwActivate w arg) s = execFwActivate w arg s := rfl
theorem exec_fwSvnCommit (w : Who) (s : State) :
    exec (.fwSvnCommit w) s = execFwSvnCommit w s := rfl
theorem exec_fwRollback (w : Who) (s : State) :
    exec (.fwRollback w) s = execFwRollback w s := rfl
theorem exec_trialHoldExpiry  (s : State) :
    exec (.trialHoldExpiry) s = execTrialHoldExpiry s := rfl
theorem exec_hello (m : TackIn) (s : State) :
    exec (.hello m) s = execHello m s := rfl
theorem exec_auth (m : TackIn) (s : State) :
    exec (.auth m) s = execAuth m s := rfl
theorem exec_close (m : TackIn) (s : State) :
    exec (.close m) s = execClose m s := rfl
theorem exec_heartbeat (m : TackIn) (s : State) :
    exec (.heartbeat m) s = execHeartbeat m s := rfl
theorem exec_get (m : TackIn) (s : State) :
    exec (.get m) s = execGet m s := rfl
theorem exec_set (m : TackIn) (s : State) :
    exec (.set m) s = execSet m s := rfl
theorem exec_next (m : TackIn) (s : State) :
    exec (.next m) s = execNext m s := rfl
theorem exec_segBegin (m : TackIn) (s : State) :
    exec (.segBegin m) s = execSegBegin m s := rfl
theorem exec_segData (m : TackIn) (s : State) :
    exec (.segData m) s = execSegData m s := rfl
theorem exec_segEnd (m : TackIn) (s : State) :
    exec (.segEnd m) s = execSegEnd m s := rfl
theorem exec_pairHb (m : TackIn) (s : State) :
    exec (.pairHb m) s = execPairHb m s := rfl
theorem exec_pairMsg (m : TackIn) (s : State) :
    exec (.pairMsg m) s = execPairMsg m s := rfl
theorem exec_tackIdleTimeout (session : Nat) (s : State) :
    exec (.tackIdleTimeout session) s = execTackIdleTimeout session s := rfl
theorem exec_eventHeartbeat  (s : State) :
    exec (.eventHeartbeat) s = execEventHeartbeat s := rfl
theorem exec_getEndpointId (src : Nat) (s : State) :
    exec (.getEndpointId src) s = execGetEndpointId src s := rfl
theorem exec_setEndpointId (src op eid : Nat) (s : State) :
    exec (.setEndpointId src op eid) s = execSetEndpointId src op eid s := rfl
theorem exec_getMctpVersionSupport (src type : Nat) (s : State) :
    exec (.getMctpVersionSupport src type) s = execGetMctpVersionSupport src type s := rfl
theorem exec_getMessageTypeSupport (src : Nat) (s : State) :
    exec (.getMessageTypeSupport src) s = execGetMessageTypeSupport src s := rfl
theorem exec_diagDataRead (w : Who) (s : State) :
    exec (.diagDataRead w) s = execDiagDataRead w s := rfl
theorem exec_diagDataWrite (w : Who) (data : List Byte) (s : State) :
    exec (.diagDataWrite w data) s = execDiagDataWrite w data s := rfl
theorem exec_powerCap (w : Who) (cap : Nat) (s : State) :
    exec (.powerCap w cap) s = execPowerCap w cap s := rfl
theorem exec_controlPeriod (power : Nat) (temps : List Int) (vcore : Nat) (s : State) :
    exec (.controlPeriod power temps vcore) s = execControlPeriod power temps vcore s := rfl
theorem exec_avsRetry  (s : State) :
    exec (.avsRetry) s = execAvsRetry s := rfl
theorem exec_powerOn (straps : Nat) (s : State) :
    exec (.powerOn straps) s = execPowerOn straps s := rfl
theorem exec_warmResetInput  (s : State) :
    exec (.warmResetInput) s = execWarmResetInput s := rfl
theorem exec_restart (w : Who) (arg : Nat) (s : State) :
    exec (.restart w arg) s = execRestart w arg s := rfl
theorem exec_pilotWatchdog  (s : State) :
    exec (.pilotWatchdog) s = execPilotWatchdog s := rfl
theorem exec_bootStepEnd (r : BootReport) (s : State) :
    exec (.bootStepEnd r) s = execBootStepEnd r s := rfl
theorem exec_landingOpen (link : Nat) (s : State) :
    exec (.landingOpen link) s = execLandingOpen link s := rfl
theorem exec_farFormat (w : Who) (s : State) :
    exec (.farFormat w) s = execFarFormat w s := rfl
theorem exec_railOutOfTolerance (rail : Nat) (s : State) :
    exec (.railOutOfTolerance rail) s = execRailOutOfTolerance rail s := rfl
theorem exec_thermtripRelease  (s : State) :
    exec (.thermtripRelease) s = execThermtripRelease s := rfl
theorem exec_unassignedOpcode (c : CoreCtx) (word : Nat) (s : State) :
    exec (.unassignedOpcode c word) s = execUnassignedOpcode c word s := rfl
theorem exec_poolWriteAccepted (core xfer : Nat) (s : State) :
    exec (.poolWriteAccepted core xfer) s = execPoolWriteAccepted core xfer s := rfl
theorem exec_yellowHoldRelease (kind link : Nat) (s : State) :
    exec (.yellowHoldRelease kind link) s = execYellowHoldRelease kind link s := rfl
theorem exec_blockLockLoss (port : Nat) (lanes : List Nat) (lost : Bool) (s : State) :
    exec (.blockLockLoss port lanes lost) s = execBlockLockLoss port lanes lost s := rfl
theorem exec_skpOrderedSet (port : Nat) (s : State) :
    exec (.skpOrderedSet port) s = execSkpOrderedSet port s := rfl
theorem exec_nakResendTimeout (port : Nat) (s : State) :
    exec (.nakResendTimeout port) s = execNakResendTimeout port s := rfl
theorem exec_spareResend (port : Nat) (s : State) :
    exec (.spareResend port) s = execSpareResend port s := rfl
theorem exec_loopbackEchoTimeout (port : Nat) (s : State) :
    exec (.loopbackEchoTimeout port) s = execLoopbackEchoTimeout port s := rfl
theorem exec_flitError (link : Nat) (lanes : List Nat) (s : State) :
    exec (.flitError link lanes) s = execFlitError link lanes s := rfl
theorem exec_perstRelease (link : Nat) (s : State) :
    exec (.perstRelease link) s = execPerstRelease link s := rfl
theorem exec_porstAssert  (s : State) :
    exec (.porstAssert) s = execPorstAssert s := rfl
theorem exec_mgLinkChange (port : Nat) (up : Bool) (s : State) :
    exec (.mgLinkChange port up) s = execMgLinkChange port up s := rfl
theorem exec_arpRequest (port addr src : Nat) (s : State) :
    exec (.arpRequest port addr src) s = execArpRequest port addr src s := rfl
theorem exec_neighbourDiscovery (port addr src : Nat) (s : State) :
    exec (.neighbourDiscovery port addr src) s = execNeighbourDiscovery port addr src s := rfl
theorem exec_icmpEchoRequest (port addr src : Nat) (data : List Byte) (s : State) :
    exec (.icmpEchoRequest port addr src data) s = execIcmpEchoRequest port addr src data s := rfl
theorem exec_jtagInstruction (j : JtagInstr) (s : State) :
    exec (.jtagInstruction j) s = execJtagInstruction j s := rfl
theorem exec_configRecordWritten  (s : State) :
    exec (.configRecordWritten) s = execConfigRecordWritten s := rfl
theorem exec_mergeComplete (group : Nat) (s : State) :
    exec (.mergeComplete group) s = execMergeComplete group s := rfl
theorem exec_eraseComplete (group : Nat) (s : State) :
    exec (.eraseComplete group) s = execEraseComplete group s := rfl
theorem exec_waitNoticeInterval (src ref : Nat) (s : State) :
    exec (.waitNoticeInterval src ref) s = execWaitNoticeInterval src ref s := rfl

end Sys2Proof.Machine
end

