-- ==== Sys2Proof/Laws/Tab.lean ====
section
/-! SUPPORT. Laws of tables and byte memories: a read after a write, and that every operation keeps the canonical form. -/

namespace Sys2Proof

@[simp] theorem tget_nil {α : Type} (d : α) (k : Nat) : tget d [] k = d := rfl

/-- Below every key of a table the default is read. -/
theorem tget_dropWhile {α : Type} (d : α) (t : Tab α) (k k' : Nat) (h : k ≤ k') :
    tget d (t.dropWhile (fun p => decide (p.1 ≤ k))) k' = if k = k' then d else tget d t k' := by
  induction t with
  | nil => simp
  | cons p r ih =>
    obtain ⟨j, v⟩ := p
    by_cases hj : j ≤ k
    · simp only [List.dropWhile, hj, decide_true, ih, tget]
      split
      · rfl
      · have h1 : j ≠ k' := by omega
        have h2 : ¬ k' < j := by omega
        simp [h1, h2]
    · simp only [List.dropWhile, hj, decide_false, tget]
      by_cases hk : k = k'
      · subst hk
        have h1 : j ≠ k := by omega
        have h2 : k < j := by omega
        simp [h1, h2]
      · simp [hk]

/-- Below the key, what a dropped prefix leaves reads the default. -/
theorem tget_dropWhile_lt {α : Type} (d : α) (t : Tab α) (k k' : Nat) (h : k' < k) :
    tget d (t.dropWhile (fun p => decide (p.1 ≤ k))) k' = d := by
  induction t with
  | nil => simp
  | cons p r ih =>
    obtain ⟨j, v⟩ := p
    by_cases hj : j ≤ k
    · simp [List.dropWhile, hj, ih]
    · have h1 : j ≠ k' := by omega
      have h2 : k' < j := by omega
      simp [List.dropWhile, hj, tget, h1, h2]

variable {α : Type} [DecidableEq α]

/-- A read of the key that was written gives the value written. -/
@[simp] theorem tget_tput_self (d : α) (t : Tab α) (k : Nat) (v : α) : tget d (tput d t k v) k = v := by
  induction t with
  | nil => by_cases h : v = d <;> simp [tput, tget, h]
  | cons p r ih =>
    obtain ⟨j, w⟩ := p
    simp only [tput]
    by_cases h1 : k < j
    · have h2 : j ≠ k := by omega
      by_cases h : v = d <;> simp [h1, h2, h, tget]
    · by_cases h2 : j = k
      · subst h2
        by_cases h : v = d
        · simp [h, tget_dropWhile]
        · simp [h, tget]
      · simp [h1, h2, tget, ih]

/-- A read of another key is unchanged by a write, whatever default each is read or written with. -/
theorem tget_tput_ne (d d' : α) (t : Tab α) (k k' : Nat) (v : α) (hk : k ≠ k') :
    tget d' (tput d t k v) k' = tget d' t k' := by
  induction t with
  | nil => by_cases h : v = d <;> simp [tput, tget, h, hk]
  | cons p r ih =>
    obtain ⟨j, w⟩ := p
    simp only [tput]
    by_cases h1 : k < j
    · by_cases h : v = d
      · simp [h1, h]
      · have h2 : k' < k → k' < j := by omega
        have h3 : k' < k → j ≠ k' := by omega
        by_cases h4 : k' < k
        · simp [h1, h, tget, hk, h4, h2 h4, h3 h4]
        · simp [h1, h, tget, hk, h4]
    · by_cases h2 : j = k
      · subst h2
        by_cases h : v = d
        · by_cases h4 : k' < j
          · simp [h, tget, hk, h4, tget_dropWhile_lt d' r j k' h4]
          · have h5 : j ≤ k' := by omega
            simp [h, tget, hk, h4, tget_dropWhile d' r j k' h5]
        · simp [h, tget, hk]
      · by_cases h3 : j = k'
        · subst h3; simp only [h1, h2, if_false]; simp [tget]
        · simp [h1, h2, tget, h3, ih]

/-- Read after write, both cases. -/
theorem tget_tput (d : α) (t : Tab α) (k k' : Nat) (v : α) : tget d (tput d t k v) k' = if k = k' then v else tget d t k' := by
  by_cases h : k = k'
  · subst h; simp
  · simp [h, tget_tput_ne d d t k k' v h]

@[simp] theorem tget_tmod_self (d : α) (t : Tab α) (k : Nat) (f : α → α) : tget d (tmod d t k f) k = f (tget d t k) := by
  simp [tmod]

theorem tget_tmod_ne (d : α) (t : Tab α) (k k' : Nat) (f : α → α) (h : k ≠ k') : tget d (tmod d t k f) k' = tget d t k' := by
  simp [tmod, tget_tput_ne _ _ _ _ _ _ h]

theorem tget_tmod (d : α) (t : Tab α) (k k' : Nat) (f : α → α) :
    tget d (tmod d t k f) k' = if k = k' then f (tget d t k) else tget d t k' := by
  simp [tmod, tget_tput]

/-! ## Canonical form -/

/-- The canonical form, said by the list's own predicates. -/
theorem tabWf_iff (d : α) (t : Tab α) :
    tabWf d t = true ↔ t.Pairwise (fun a b => a.1 < b.1) ∧ ∀ p ∈ t, p.2 ≠ d := by
  induction t with
  | nil => simp [tabWf]
  | cons p r ih =>
    obtain ⟨j, v⟩ := p
    cases r with
    | nil => simp [tabWf]
    | cons q r =>
      obtain ⟨k, w⟩ := q
      simp only [tabWf, Bool.and_eq_true, decide_eq_true_eq, ih, List.pairwise_cons]
      constructor
      · rintro ⟨⟨hv, hjk⟩, ⟨hk, hr⟩, hd⟩
        refine ⟨⟨?_, hk, hr⟩, ?_⟩
        · intro a ha
          rcases List.mem_cons.mp ha with rfl | ha
          · exact hjk
          · exact Nat.lt_trans hjk (hk a ha)
        · intro a ha
          rcases List.mem_cons.mp ha with rfl | ha
          · exact hv
          · exact hd a ha
      · rintro ⟨⟨hj, hk, hr⟩, hd⟩
        exact ⟨⟨hd (j, v) (by simp), hj (k, w) (by simp)⟩, ⟨hk, hr⟩, fun a ha => hd a (List.mem_cons_of_mem _ ha)⟩

/-- A filter of a canonical table is canonical. -/
theorem tabWf_filter (d : α) (t : Tab α) (p : Nat × α → Bool) (h : tabWf d t = true) : tabWf d (t.filter p) = true := by
  rw [tabWf_iff] at *
  exact ⟨h.1.filter p, fun a ha => h.2 a ((List.mem_filter.mp ha).1)⟩

/-- What is kept was in the table, satisfies `p` and has a key from `lo` on. -/
theorem mem_tkeepFrom {α : Type} (p : Nat → Bool) (lo : Nat) (t : Tab α) (a : Nat × α) (h : a ∈ tkeepFrom p lo t) :
    a ∈ t ∧ p a.1 = true ∧ lo ≤ a.1 := by
  induction t generalizing lo with
  | nil => simp [tkeepFrom] at h
  | cons q r ih =>
    obtain ⟨j, v⟩ := q
    simp only [tkeepFrom] at h
    split at h
    · obtain ⟨h1, h2, h3⟩ := ih lo h
      exact ⟨List.mem_cons_of_mem _ h1, h2, h3⟩
    · split at h
      · next hj =>
        rcases List.mem_cons.mp h with rfl | h
        · exact ⟨List.mem_cons_self .., hj, by simp only; omega⟩
        · obtain ⟨h1, h2, h3⟩ := ih _ h
          exact ⟨List.mem_cons_of_mem _ h1, h2, by omega⟩
      · obtain ⟨h1, h2, h3⟩ := ih _ h
        exact ⟨List.mem_cons_of_mem _ h1, h2, by omega⟩

/-- The keys kept are strictly rising, whatever the table. -/
theorem pairwise_tkeepFrom {α : Type} (p : Nat → Bool) (lo : Nat) (t : Tab α) :
    (tkeepFrom p lo t).Pairwise (fun a b => a.1 < b.1) := by
  induction t generalizing lo with
  | nil => exact List.Pairwise.nil
  | cons q r ih =>
    obtain ⟨j, v⟩ := q
    simp only [tkeepFrom]
    split
    · exact ih lo
    · split
      · exact List.pairwise_cons.mpr ⟨fun a ha => (mem_tkeepFrom p _ r a ha).2.2, ih _⟩
      · exact ih _

/-- A key below every listed key reads the default. -/
theorem tget_below {α : Type} (d : α) (t : Tab α) (k : Nat) (h : ∀ a ∈ t, k < a.1) : tget d t k = d := by
  cases t with
  | nil => rfl
  | cons q r =>
    have hj := h q (List.mem_cons_self ..)
    obtain ⟨j, v⟩ := q
    have h1 : j ≠ k := by simp only at hj; omega
    simp only at hj
    simp [tget, h1, hj]

/-- A read of a kept key is that of the table, any other reads the default. -/
theorem tget_tkeepFrom {α : Type} (d : α) (p : Nat → Bool) (lo : Nat) (t : Tab α) (k : Nat) (h : lo ≤ k) :
    tget d (tkeepFrom p lo t) k = if p k then tget d t k else d := by
  induction t generalizing lo with
  | nil => simp [tkeepFrom]
  | cons q r ih =>
    obtain ⟨j, v⟩ := q
    simp only [tkeepFrom]
    split
    · have h1 : j ≠ k := by omega
      have h2 : ¬ k < j := by omega
      rw [ih lo h]
      simp [tget, h1, h2]
    · rcases Nat.lt_trichotomy k j with hk | hk | hk
      · have h1 : j ≠ k := by omega
        rw [tget_below d _ k (fun a ha => by
          split at ha
          · rcases List.mem_cons.mp ha with rfl | ha
            · exact hk
            · exact Nat.lt_trans hk (mem_tkeepFrom p _ r a ha).2.2
          · exact Nat.lt_trans hk (mem_tkeepFrom p _ r a ha).2.2)]
        simp [tget, h1, hk]
      · subst hk
        split
        · simp [tget]
        · rw [tget_below d _ k (fun a ha => (mem_tkeepFrom p _ r a ha).2.2)]
      · have h1 : j ≠ k := by omega
        have h2 : ¬ k < j := by omega
        split
        · simp only [tget, h1, h2, if_false, ih _ (show j + 1 ≤ k from hk)]
        · simp only [tget, h1, h2, if_false, ih _ (show j + 1 ≤ k from hk)]

/-- A read of what is kept. -/
@[simp] theorem tget_tkeep {α : Type} (d : α) (p : Nat → Bool) (t : Tab α) (k : Nat) :
    tget d (tkeep p t) k = if p k then tget d t k else d := tget_tkeepFrom d p 0 t k (Nat.zero_le k)

/-- A read of a range of a table. -/
theorem tget_trange {α : Type} (d : α) (t : Tab α) (a n k : Nat) :
    tget d (trange t a n) k = if a ≤ k ∧ k < a + n then tget d t k else d := by
  simp [trange, tget_tkeep]

/-- A read after a range is cleared. -/
theorem tget_tclear {α : Type} (d : α) (t : Tab α) (a n k : Nat) :
    tget d (tclear t a n) k = if a ≤ k ∧ k < a + n then d else tget d t k := by
  simp only [tclear, tget_tkeep]
  by_cases h : a ≤ k ∧ k < a + n
  · simp [h]
  · rw [if_neg h, if_pos (by simp; omega)]

/-- A read past every key of the first of two joined tables. -/
theorem tget_append_lo {α : Type} (d : α) (s t : Tab α) (k : Nat) (h : ∀ a ∈ s, a.1 < k) : tget d (s ++ t) k = tget d t k := by
  induction s with
  | nil => rfl
  | cons q r ih =>
    have hj := h q (List.mem_cons_self ..)
    obtain ⟨j, v⟩ := q
    simp only at hj
    have h1 : j ≠ k := by omega
    have h2 : ¬ k < j := by omega
    simp only [List.cons_append, tget, h1, h2, if_false]
    exact ih (fun a ha => h a (List.mem_cons_of_mem _ ha))

/-- A read below every key of the second of two joined tables. -/
theorem tget_append_hi {α : Type} (d : α) (s t : Tab α) (k : Nat) (h : ∀ a ∈ t, k < a.1) : tget d (s ++ t) k = tget d s k := by
  induction s with
  | nil => simpa using tget_below d t k h
  | cons q r ih =>
    obtain ⟨j, v⟩ := q
    simp only [List.cons_append, tget]
    split
    · rfl
    · split
      · rfl
      · exact ih

/-- A read after a range is copied from another table. -/
theorem tget_tcopy {α : Type} (d : α) (dst src : Tab α) (a n k : Nat) :
    tget d (tcopy dst src a n) k = if a ≤ k ∧ k < a + n then tget d src k else tget d dst k := by
  have hlo : ∀ x ∈ tkeep (fun k => decide (k < a)) dst, x.1 < a := fun x hx => by simpa using (mem_tkeepFrom _ _ _ x hx).2.1
  have hmid : ∀ x ∈ trange src a n, a ≤ x.1 ∧ x.1 < a + n := fun x hx => by simpa using (mem_tkeepFrom _ _ _ x hx).2.1
  have hhi : ∀ x ∈ tkeep (fun k => decide (a + n ≤ k)) dst, a + n ≤ x.1 := fun x hx => by simpa using (mem_tkeepFrom _ _ _ x hx).2.1
  unfold tcopy
  by_cases h1 : k < a
  · rw [tget_append_hi _ _ _ _ (fun x hx => by have := hhi x hx; omega), tget_append_hi _ _ _ _ (fun x hx => by have := hmid x hx; omega)]
    have h2 : ¬ (a ≤ k ∧ k < a + n) := by omega
    simp [h1, h2]
  · by_cases h2 : k < a + n
    · rw [tget_append_hi _ _ _ _ (fun x hx => by have := hhi x hx; omega), tget_append_lo _ _ _ _ (fun x hx => by have := hlo x hx; omega)]
      have h3 : a ≤ k ∧ k < a + n := by omega
      simp [tget_trange, h3]
    · rw [tget_append_lo _ _ _ _ (fun x hx => by
        rcases List.mem_append.mp hx with hx | hx
        · have := hlo x hx; omega
        · have := hmid x hx; omega)]
      have h3 : ¬ (a ≤ k ∧ k < a + n) := by omega
      have h4 : a + n ≤ k := by omega
      rw [if_neg h3, tget_tkeep, if_pos (by simpa using h4)]

/-- What is kept of a canonical table is canonical. -/
theorem tabWf_tkeep (d : α) (p : Nat → Bool) (t : Tab α) (h : tabWf d t = true) : tabWf d (tkeep p t) = true := by
  rw [tabWf_iff] at *
  exact ⟨pairwise_tkeepFrom p 0 t, fun a ha => h.2 a (mem_tkeepFrom p 0 t a ha).1⟩

theorem tabWf_trange (d : α) (t : Tab α) (a n : Nat) (h : tabWf d t = true) : tabWf d (trange t a n) = true := tabWf_tkeep d _ t h
theorem tabWf_tclear (d : α) (t : Tab α) (a n : Nat) (h : tabWf d t = true) : tabWf d (tclear t a n) = true := tabWf_tkeep d _ t h

/-- The tail of a canonical table after its low keys is canonical. -/
theorem tabWf_dropWhile (d : α) (t : Tab α) (p : Nat × α → Bool) (h : tabWf d t = true) : tabWf d (t.dropWhile p) = true := by
  rw [tabWf_iff] at *
  exact ⟨h.1.sublist (List.dropWhile_sublist p), fun a ha => h.2 a ((List.dropWhile_sublist p).subset ha)⟩

/-- The keys that a write leaves are the keys that were there, and the one written. -/
theorem mem_tput (d : α) (t : Tab α) (k : Nat) (v : α) (p : Nat × α) (h : p ∈ tput d t k v) : p ∈ t ∨ (p = (k, v) ∧ v ≠ d) := by
  induction t with
  | nil =>
    by_cases hv : v = d
    · simp [tput, hv] at h
    · simp [tput, hv] at h; exact .inr ⟨h, hv⟩
  | cons q r ih =>
    obtain ⟨j, w⟩ := q
    simp only [tput] at h
    split at h
    · split at h
      · exact .inl h
      · next hv =>
        rcases List.mem_cons.mp h with h | h
        · exact .inr ⟨h, hv⟩
        · exact .inl h
    · split at h
      · split at h
        · exact .inl (List.mem_cons_of_mem _ ((List.dropWhile_sublist _).subset h))
        · next hv =>
          rcases List.mem_cons.mp h with h | h
          · exact .inr ⟨h, hv⟩
          · exact .inl (List.mem_cons_of_mem _ h)
      · rcases List.mem_cons.mp h with h | h
        · exact .inl (h ▸ List.mem_cons_self ..)
        · rcases ih h with h | h
          · exact .inl (List.mem_cons_of_mem _ h)
          · exact .inr h

/-- A write keeps the canonical form. -/
theorem tabWf_tput (d : α) (t : Tab α) (k : Nat) (v : α) (h : tabWf d t = true) : tabWf d (tput d t k v) = true := by
  rw [tabWf_iff] at *
  obtain ⟨hs, hd⟩ := h
  refine ⟨?_, fun p hp => (mem_tput d t k v p hp).elim (hd p) (fun e => e.1 ▸ e.2)⟩
  induction t with
  | nil => by_cases hv : v = d <;> simp [tput, hv]
  | cons q r ih =>
    obtain ⟨j, w⟩ := q
    have hr := List.pairwise_cons.mp hs
    simp only [tput]
    split
    · next hkj =>
      split
      · exact hs
      · refine List.pairwise_cons.mpr ⟨fun a ha => ?_, hs⟩
        rcases List.mem_cons.mp ha with rfl | ha
        · exact hkj
        · exact Nat.lt_trans hkj (hr.1 a ha)
    · split
      · next hjk =>
        split
        · exact hr.2.sublist (List.dropWhile_sublist _)
        · exact List.pairwise_cons.mpr ⟨fun a ha => hjk ▸ hr.1 a ha, hr.2⟩
      · next h1 h2 =>
        refine List.pairwise_cons.mpr ⟨fun a ha => ?_, ih hr.2 (fun p hp => hd p (List.mem_cons_of_mem _ hp))⟩
        rcases mem_tput d r k v a ha with ha | ⟨rfl, -⟩
        · exact hr.1 a ha
        · show j < k
          omega

theorem tabWf_tmod (d : α) (t : Tab α) (k : Nat) (f : α → α) (h : tabWf d t = true) : tabWf d (tmod d t k f) = true :=
  tabWf_tput d t k _ h

/-- A range copied from one canonical table into another leaves it canonical. -/
theorem tabWf_tcopy (d : α) (dst src : Tab α) (a n : Nat) (h1 : tabWf d dst = true) (h2 : tabWf d src = true) :
    tabWf d (tcopy dst src a n) = true := by
  rw [tabWf_iff] at *
  have hlo : ∀ x ∈ tkeep (fun k => decide (k < a)) dst, x.1 < a := fun x hx => by simpa using (mem_tkeepFrom _ _ _ x hx).2.1
  have hmid : ∀ x ∈ trange src a n, a ≤ x.1 ∧ x.1 < a + n := fun x hx => by simpa using (mem_tkeepFrom _ _ _ x hx).2.1
  have hhi : ∀ x ∈ tkeep (fun k => decide (a + n ≤ k)) dst, a + n ≤ x.1 := fun x hx => by simpa using (mem_tkeepFrom _ _ _ x hx).2.1
  refine ⟨?_, fun p hp => ?_⟩
  · rw [tcopy, List.pairwise_append, List.pairwise_append]
    refine ⟨⟨pairwise_tkeepFrom _ _ _, pairwise_tkeepFrom _ _ _, fun x hx y hy => ?_⟩, pairwise_tkeepFrom _ _ _, fun x hx y hy => ?_⟩
    · exact Nat.lt_of_lt_of_le (hlo x hx) (hmid y hy).1
    · have h3 := hhi y hy
      rcases List.mem_append.mp hx with hx | hx
      · have := hlo x hx; omega
      · have := hmid x hx; omega
  · simp only [tcopy, List.mem_append] at hp
    rcases hp with (hp | hp) | hp
    · exact h1.2 p (mem_tkeepFrom _ _ _ p hp).1
    · exact h2.2 p (mem_tkeepFrom _ _ _ p hp).1
    · exact h1.2 p (mem_tkeepFrom _ _ _ p hp).1

/-- A range moved to another place is canonical. -/
theorem tabWf_tshift (d : α) (t : Tab α) (a n dest : Nat) (h : tabWf d t = true) : tabWf d (tshift t a n dest) = true := by
  have hr := tabWf_trange d t a n h
  rw [tabWf_iff] at *
  refine ⟨?_, fun p hp => ?_⟩
  · rw [tshift, List.pairwise_map]
    refine hr.1.imp_of_mem (fun {x y} hx hy hxy => ?_)
    have h1 : a ≤ x.1 := by simpa using (mem_tkeepFrom _ _ _ x hx).2.1 |> fun h => (by simpa using h : a ≤ x.1 ∧ _).1
    show x.1 - a + dest < y.1 - a + dest
    omega
  · obtain ⟨q, hq, rfl⟩ := List.mem_map.mp hp
    exact hr.2 q hq

/-- Storing bytes keeps the canonical form. -/
theorem tabWf_storeBytes (m : Tab Byte) (a : Nat) (bs : List Byte) (h : tabWf 0 m = true) : tabWf 0 (storeBytes m a bs) = true := by
  induction bs generalizing m a with
  | nil => exact h
  | cons b bs ih => exact ih _ _ (tabWf_tput 0 m a b h)

theorem tabWf_storeMasked (m : Tab Byte) (a : Nat) (bs : List Byte) (ks : List Bool) (h : tabWf 0 m = true) :
    tabWf 0 (storeMasked m a bs ks) = true := by
  induction bs generalizing m a ks with
  | nil => cases ks <;> exact h
  | cons b bs ih =>
    cases ks with
    | nil => exact h
    | cons k ks =>
      cases k
      · exact ih _ _ _ h
      · exact ih _ _ _ (tabWf_tput 0 m a b h)

/-- A byte outside the bytes stored reads as before. -/
theorem tget_storeBytes_outside (m : Tab Byte) (a : Nat) (bs : List Byte) (x : Nat) (h : x < a ∨ a + bs.length ≤ x) :
    tget 0 (storeBytes m a bs) x = tget 0 m x := by
  induction bs generalizing m a with
  | nil => rfl
  | cons b bs ih =>
    simp only [List.length_cons] at h
    rw [storeBytes, ih _ _ (by omega), tget_tput_ne _ _ _ _ _ _ (by omega)]

/-- The bytes stored read back. -/
theorem loadBytes_storeBytes (m : Tab Byte) (a : Nat) (bs : List Byte) : loadBytes (storeBytes m a bs) a bs.length = bs := by
  induction bs generalizing m a with
  | nil => rfl
  | cons b bs ih =>
    rw [storeBytes, List.length_cons, loadBytes, ih, tget_storeBytes_outside _ _ _ _ (by omega), tget_tput_self]

end Sys2Proof
end

