-- ==== Sys2Proof/Laws/State.lean ====
section
/-! SUPPORT. The state after each named update, field by field: the field that the update changes, and every field that it leaves. -/

namespace Sys2Proof.Machine

/-! ## rset changes regs alone -/

@[simp] theorem rset_cmdRes (o : Obj) (i v : Nat) (s : State) : (rset o i v s).cmdRes = s.cmdRes := rfl
@[simp] theorem rset_regions (o : Obj) (i v : Nat) (s : State) : (rset o i v s).regions = s.regions := rfl
@[simp] theorem rset_lds (o : Obj) (i v : Nat) (s : State) : (rset o i v s).lds = s.lds := rfl
@[simp] theorem rset_clk (o : Obj) (i v : Nat) (s : State) : (rset o i v s).clk = s.clk := rfl
@[simp] theorem rset_mf (o : Obj) (i v : Nat) (s : State) : (rset o i v s).mf = s.mf := rfl
@[simp] theorem rset_atw (o : Obj) (i v : Nat) (s : State) : (rset o i v s).atw = s.atw := rfl
@[simp] theorem rset_ferry (o : Obj) (i v : Nat) (s : State) : (rset o i v s).ferry = s.ferry := rfl
@[simp] theorem rset_mem (o : Obj) (i v : Nat) (s : State) : (rset o i v s).mem = s.mem := rfl
@[simp] theorem rset_grid (o : Obj) (i v : Nat) (s : State) : (rset o i v s).grid = s.grid := rfl
@[simp] theorem rset_hosts (o : Obj) (i v : Nat) (s : State) : (rset o i v s).hosts = s.hosts := rfl
@[simp] theorem rset_meters (o : Obj) (i v : Nat) (s : State) : (rset o i v s).meters = s.meters := rfl
@[simp] theorem rset_errs (o : Obj) (i v : Nat) (s : State) : (rset o i v s).errs = s.errs := rfl
@[simp] theorem rset_berths (o : Obj) (i v : Nat) (s : State) : (rset o i v s).berths = s.berths := rfl
@[simp] theorem rset_dram (o : Obj) (i v : Nat) (s : State) : (rset o i v s).dram = s.dram := rfl
@[simp] theorem rset_flash (o : Obj) (i v : Nat) (s : State) : (rset o i v s).flash = s.flash := rfl
@[simp] theorem rset_seam (o : Obj) (i v : Nat) (s : State) : (rset o i v s).seam = s.seam := rfl
@[simp] theorem rset_red (o : Obj) (i v : Nat) (s : State) : (rset o i v s).red = s.red := rfl
@[simp] theorem rset_hlt (o : Obj) (i v : Nat) (s : State) : (rset o i v s).hlt = s.hlt := rfl
@[simp] theorem rset_pair (o : Obj) (i v : Nat) (s : State) : (rset o i v s).pair = s.pair := rfl
@[simp] theorem rset_jobs (o : Obj) (i v : Nat) (s : State) : (rset o i v s).jobs = s.jobs := rfl
@[simp] theorem rset_weave (o : Obj) (i v : Nat) (s : State) : (rset o i v s).weave = s.weave := rfl
@[simp] theorem rset_cfg (o : Obj) (i v : Nat) (s : State) : (rset o i v s).cfg = s.cfg := rfl
@[simp] theorem rset_boot (o : Obj) (i v : Nat) (s : State) : (rset o i v s).boot = s.boot := rfl
@[simp] theorem rset_keys (o : Obj) (i v : Nat) (s : State) : (rset o i v s).keys = s.keys := rfl
@[simp] theorem rset_fw (o : Obj) (i v : Nat) (s : State) : (rset o i v s).fw = s.fw := rfl
@[simp] theorem rset_tack (o : Obj) (i v : Nat) (s : State) : (rset o i v s).tack = s.tack := rfl
@[simp] theorem rset_power (o : Obj) (i v : Nat) (s : State) : (rset o i v s).power = s.power := rfl
@[simp] theorem rset_test (o : Obj) (i v : Nat) (s : State) : (rset o i v s).test = s.test := rfl
@[simp] theorem rset_out (o : Obj) (i v : Nat) (s : State) : (rset o i v s).out = s.out := rfl
@[simp] theorem rset_freeCtr (o : Obj) (i v : Nat) (s : State) : (rset o i v s).freeCtr = s.freeCtr := rfl
@[simp] theorem rset_pending (o : Obj) (i v : Nat) (s : State) : (rset o i v s).pending = s.pending := rfl

/-! ## radd changes regs alone -/

@[simp] theorem radd_cmdRes (o : Obj) (i n : Nat) (s : State) : (radd o i n s).cmdRes = s.cmdRes := rfl
@[simp] theorem radd_regions (o : Obj) (i n : Nat) (s : State) : (radd o i n s).regions = s.regions := rfl
@[simp] theorem radd_lds (o : Obj) (i n : Nat) (s : State) : (radd o i n s).lds = s.lds := rfl
@[simp] theorem radd_clk (o : Obj) (i n : Nat) (s : State) : (radd o i n s).clk = s.clk := rfl
@[simp] theorem radd_mf (o : Obj) (i n : Nat) (s : State) : (radd o i n s).mf = s.mf := rfl
@[simp] theorem radd_atw (o : Obj) (i n : Nat) (s : State) : (radd o i n s).atw = s.atw := rfl
@[simp] theorem radd_ferry (o : Obj) (i n : Nat) (s : State) : (radd o i n s).ferry = s.ferry := rfl
@[simp] theorem radd_mem (o : Obj) (i n : Nat) (s : State) : (radd o i n s).mem = s.mem := rfl
@[simp] theorem radd_grid (o : Obj) (i n : Nat) (s : State) : (radd o i n s).grid = s.grid := rfl
@[simp] theorem radd_hosts (o : Obj) (i n : Nat) (s : State) : (radd o i n s).hosts = s.hosts := rfl
@[simp] theorem radd_meters (o : Obj) (i n : Nat) (s : State) : (radd o i n s).meters = s.meters := rfl
@[simp] theorem radd_errs (o : Obj) (i n : Nat) (s : State) : (radd o i n s).errs = s.errs := rfl
@[simp] theorem radd_berths (o : Obj) (i n : Nat) (s : State) : (radd o i n s).berths = s.berths := rfl
@[simp] theorem radd_dram (o : Obj) (i n : Nat) (s : State) : (radd o i n s).dram = s.dram := rfl
@[simp] theorem radd_flash (o : Obj) (i n : Nat) (s : State) : (radd o i n s).flash = s.flash := rfl
@[simp] theorem radd_seam (o : Obj) (i n : Nat) (s : State) : (radd o i n s).seam = s.seam := rfl
@[simp] theorem radd_red (o : Obj) (i n : Nat) (s : State) : (radd o i n s).red = s.red := rfl
@[simp] theorem radd_hlt (o : Obj) (i n : Nat) (s : State) : (radd o i n s).hlt = s.hlt := rfl
@[simp] theorem radd_pair (o : Obj) (i n : Nat) (s : State) : (radd o i n s).pair = s.pair := rfl
@[simp] theorem radd_jobs (o : Obj) (i n : Nat) (s : State) : (radd o i n s).jobs = s.jobs := rfl
@[simp] theorem radd_weave (o : Obj) (i n : Nat) (s : State) : (radd o i n s).weave = s.weave := rfl
@[simp] theorem radd_cfg (o : Obj) (i n : Nat) (s : State) : (radd o i n s).cfg = s.cfg := rfl
@[simp] theorem radd_boot (o : Obj) (i n : Nat) (s : State) : (radd o i n s).boot = s.boot := rfl
@[simp] theorem radd_keys (o : Obj) (i n : Nat) (s : State) : (radd o i n s).keys = s.keys := rfl
@[simp] theorem radd_fw (o : Obj) (i n : Nat) (s : State) : (radd o i n s).fw = s.fw := rfl
@[simp] theorem radd_tack (o : Obj) (i n : Nat) (s : State) : (radd o i n s).tack = s.tack := rfl
@[simp] theorem radd_power (o : Obj) (i n : Nat) (s : State) : (radd o i n s).power = s.power := rfl
@[simp] theorem radd_test (o : Obj) (i n : Nat) (s : State) : (radd o i n s).test = s.test := rfl
@[simp] theorem radd_out (o : Obj) (i n : Nat) (s : State) : (radd o i n s).out = s.out := rfl
@[simp] theorem radd_freeCtr (o : Obj) (i n : Nat) (s : State) : (radd o i n s).freeCtr = s.freeCtr := rfl
@[simp] theorem radd_pending (o : Obj) (i n : Nat) (s : State) : (radd o i n s).pending = s.pending := rfl

/-! ## rinc changes regs alone -/

@[simp] theorem rinc_cmdRes (o : Obj) (i : Nat) (s : State) : (rinc o i s).cmdRes = s.cmdRes := rfl
@[simp] theorem rinc_regions (o : Obj) (i : Nat) (s : State) : (rinc o i s).regions = s.regions := rfl
@[simp] theorem rinc_lds (o : Obj) (i : Nat) (s : State) : (rinc o i s).lds = s.lds := rfl
@[simp] theorem rinc_clk (o : Obj) (i : Nat) (s : State) : (rinc o i s).clk = s.clk := rfl
@[simp] theorem rinc_mf (o : Obj) (i : Nat) (s : State) : (rinc o i s).mf = s.mf := rfl
@[simp] theorem rinc_atw (o : Obj) (i : Nat) (s : State) : (rinc o i s).atw = s.atw := rfl
@[simp] theorem rinc_ferry (o : Obj) (i : Nat) (s : State) : (rinc o i s).ferry = s.ferry := rfl
@[simp] theorem rinc_mem (o : Obj) (i : Nat) (s : State) : (rinc o i s).mem = s.mem := rfl
@[simp] theorem rinc_grid (o : Obj) (i : Nat) (s : State) : (rinc o i s).grid = s.grid := rfl
@[simp] theorem rinc_hosts (o : Obj) (i : Nat) (s : State) : (rinc o i s).hosts = s.hosts := rfl
@[simp] theorem rinc_meters (o : Obj) (i : Nat) (s : State) : (rinc o i s).meters = s.meters := rfl
@[simp] theorem rinc_errs (o : Obj) (i : Nat) (s : State) : (rinc o i s).errs = s.errs := rfl
@[simp] theorem rinc_berths (o : Obj) (i : Nat) (s : State) : (rinc o i s).berths = s.berths := rfl
@[simp] theorem rinc_dram (o : Obj) (i : Nat) (s : State) : (rinc o i s).dram = s.dram := rfl
@[simp] theorem rinc_flash (o : Obj) (i : Nat) (s : State) : (rinc o i s).flash = s.flash := rfl
@[simp] theorem rinc_seam (o : Obj) (i : Nat) (s : State) : (rinc o i s).seam = s.seam := rfl
@[simp] theorem rinc_red (o : Obj) (i : Nat) (s : State) : (rinc o i s).red = s.red := rfl
@[simp] theorem rinc_hlt (o : Obj) (i : Nat) (s : State) : (rinc o i s).hlt = s.hlt := rfl
@[simp] theorem rinc_pair (o : Obj) (i : Nat) (s : State) : (rinc o i s).pair = s.pair := rfl
@[simp] theorem rinc_jobs (o : Obj) (i : Nat) (s : State) : (rinc o i s).jobs = s.jobs := rfl
@[simp] theorem rinc_weave (o : Obj) (i : Nat) (s : State) : (rinc o i s).weave = s.weave := rfl
@[simp] theorem rinc_cfg (o : Obj) (i : Nat) (s : State) : (rinc o i s).cfg = s.cfg := rfl
@[simp] theorem rinc_boot (o : Obj) (i : Nat) (s : State) : (rinc o i s).boot = s.boot := rfl
@[simp] theorem rinc_keys (o : Obj) (i : Nat) (s : State) : (rinc o i s).keys = s.keys := rfl
@[simp] theorem rinc_fw (o : Obj) (i : Nat) (s : State) : (rinc o i s).fw = s.fw := rfl
@[simp] theorem rinc_tack (o : Obj) (i : Nat) (s : State) : (rinc o i s).tack = s.tack := rfl
@[simp] theorem rinc_power (o : Obj) (i : Nat) (s : State) : (rinc o i s).power = s.power := rfl
@[simp] theorem rinc_test (o : Obj) (i : Nat) (s : State) : (rinc o i s).test = s.test := rfl
@[simp] theorem rinc_out (o : Obj) (i : Nat) (s : State) : (rinc o i s).out = s.out := rfl
@[simp] theorem rinc_freeCtr (o : Obj) (i : Nat) (s : State) : (rinc o i s).freeCtr = s.freeCtr := rfl
@[simp] theorem rinc_pending (o : Obj) (i : Nat) (s : State) : (rinc o i s).pending = s.pending := rfl

/-! ## emit changes out alone -/

@[simp] theorem emit_regs (m : Out) (s : State) : (emit m s).regs = s.regs := rfl
@[simp] theorem emit_cmdRes (m : Out) (s : State) : (emit m s).cmdRes = s.cmdRes := rfl
@[simp] theorem emit_regions (m : Out) (s : State) : (emit m s).regions = s.regions := rfl
@[simp] theorem emit_lds (m : Out) (s : State) : (emit m s).lds = s.lds := rfl
@[simp] theorem emit_clk (m : Out) (s : State) : (emit m s).clk = s.clk := rfl
@[simp] theorem emit_mf (m : Out) (s : State) : (emit m s).mf = s.mf := rfl
@[simp] theorem emit_atw (m : Out) (s : State) : (emit m s).atw = s.atw := rfl
@[simp] theorem emit_ferry (m : Out) (s : State) : (emit m s).ferry = s.ferry := rfl
@[simp] theorem emit_mem (m : Out) (s : State) : (emit m s).mem = s.mem := rfl
@[simp] theorem emit_grid (m : Out) (s : State) : (emit m s).grid = s.grid := rfl
@[simp] theorem emit_hosts (m : Out) (s : State) : (emit m s).hosts = s.hosts := rfl
@[simp] theorem emit_meters (m : Out) (s : State) : (emit m s).meters = s.meters := rfl
@[simp] theorem emit_errs (m : Out) (s : State) : (emit m s).errs = s.errs := rfl
@[simp] theorem emit_berths (m : Out) (s : State) : (emit m s).berths = s.berths := rfl
@[simp] theorem emit_dram (m : Out) (s : State) : (emit m s).dram = s.dram := rfl
@[simp] theorem emit_flash (m : Out) (s : State) : (emit m s).flash = s.flash := rfl
@[simp] theorem emit_seam (m : Out) (s : State) : (emit m s).seam = s.seam := rfl
@[simp] theorem emit_red (m : Out) (s : State) : (emit m s).red = s.red := rfl
@[simp] theorem emit_hlt (m : Out) (s : State) : (emit m s).hlt = s.hlt := rfl
@[simp] theorem emit_pair (m : Out) (s : State) : (emit m s).pair = s.pair := rfl
@[simp] theorem emit_jobs (m : Out) (s : State) : (emit m s).jobs = s.jobs := rfl
@[simp] theorem emit_weave (m : Out) (s : State) : (emit m s).weave = s.weave := rfl
@[simp] theorem emit_cfg (m : Out) (s : State) : (emit m s).cfg = s.cfg := rfl
@[simp] theorem emit_boot (m : Out) (s : State) : (emit m s).boot = s.boot := rfl
@[simp] theorem emit_keys (m : Out) (s : State) : (emit m s).keys = s.keys := rfl
@[simp] theorem emit_fw (m : Out) (s : State) : (emit m s).fw = s.fw := rfl
@[simp] theorem emit_tack (m : Out) (s : State) : (emit m s).tack = s.tack := rfl
@[simp] theorem emit_power (m : Out) (s : State) : (emit m s).power = s.power := rfl
@[simp] theorem emit_test (m : Out) (s : State) : (emit m s).test = s.test := rfl
@[simp] theorem emit_freeCtr (m : Out) (s : State) : (emit m s).freeCtr = s.freeCtr := rfl
@[simp] theorem emit_pending (m : Out) (s : State) : (emit m s).pending = s.pending := rfl

/-! ## modRegion changes regions alone -/

@[simp] theorem modRegion_regs (n : Nat) (f : Region → Region) (s : State) : (modRegion n f s).regs = s.regs := rfl
@[simp] theorem modRegion_cmdRes (n : Nat) (f : Region → Region) (s : State) : (modRegion n f s).cmdRes = s.cmdRes := rfl
@[simp] theorem modRegion_lds (n : Nat) (f : Region → Region) (s : State) : (modRegion n f s).lds = s.lds := rfl
@[simp] theorem modRegion_clk (n : Nat) (f : Region → Region) (s : State) : (modRegion n f s).clk = s.clk := rfl
@[simp] theorem modRegion_mf (n : Nat) (f : Region → Region) (s : State) : (modRegion n f s).mf = s.mf := rfl
@[simp] theorem modRegion_atw (n : Nat) (f : Region → Region) (s : State) : (modRegion n f s).atw = s.atw := rfl
@[simp] theorem modRegion_ferry (n : Nat) (f : Region → Region) (s : State) : (modRegion n f s).ferry = s.ferry := rfl
@[simp] theorem modRegion_mem (n : Nat) (f : Region → Region) (s : State) : (modRegion n f s).mem = s.mem := rfl
@[simp] theorem modRegion_grid (n : Nat) (f : Region → Region) (s : State) : (modRegion n f s).grid = s.grid := rfl
@[simp] theorem modRegion_hosts (n : Nat) (f : Region → Region) (s : State) : (modRegion n f s).hosts = s.hosts := rfl
@[simp] theorem modRegion_meters (n : Nat) (f : Region → Region) (s : State) : (modRegion n f s).meters = s.meters := rfl
@[simp] theorem modRegion_errs (n : Nat) (f : Region → Region) (s : State) : (modRegion n f s).errs = s.errs := rfl
@[simp] theorem modRegion_berths (n : Nat) (f : Region → Region) (s : State) : (modRegion n f s).berths = s.berths := rfl
@[simp] theorem modRegion_dram (n : Nat) (f : Region → Region) (s : State) : (modRegion n f s).dram = s.dram := rfl
@[simp] theorem modRegion_flash (n : Nat) (f : Region → Region) (s : State) : (modRegion n f s).flash = s.flash := rfl
@[simp] theorem modRegion_seam (n : Nat) (f : Region → Region) (s : State) : (modRegion n f s).seam = s.seam := rfl
@[simp] theorem modRegion_red (n : Nat) (f : Region → Region) (s : State) : (modRegion n f s).red = s.red := rfl
@[simp] theorem modRegion_hlt (n : Nat) (f : Region → Region) (s : State) : (modRegion n f s).hlt = s.hlt := rfl
@[simp] theorem modRegion_pair (n : Nat) (f : Region → Region) (s : State) : (modRegion n f s).pair = s.pair := rfl
@[simp] theorem modRegion_jobs (n : Nat) (f : Region → Region) (s : State) : (modRegion n f s).jobs = s.jobs := rfl
@[simp] theorem modRegion_weave (n : Nat) (f : Region → Region) (s : State) : (modRegion n f s).weave = s.weave := rfl
@[simp] theorem modRegion_cfg (n : Nat) (f : Region → Region) (s : State) : (modRegion n f s).cfg = s.cfg := rfl
@[simp] theorem modRegion_boot (n : Nat) (f : Region → Region) (s : State) : (modRegion n f s).boot = s.boot := rfl
@[simp] theorem modRegion_keys (n : Nat) (f : Region → Region) (s : State) : (modRegion n f s).keys = s.keys := rfl
@[simp] theorem modRegion_fw (n : Nat) (f : Region → Region) (s : State) : (modRegion n f s).fw = s.fw := rfl
@[simp] theorem modRegion_tack (n : Nat) (f : Region → Region) (s : State) : (modRegion n f s).tack = s.tack := rfl
@[simp] theorem modRegion_power (n : Nat) (f : Region → Region) (s : State) : (modRegion n f s).power = s.power := rfl
@[simp] theorem modRegion_test (n : Nat) (f : Region → Region) (s : State) : (modRegion n f s).test = s.test := rfl
@[simp] theorem modRegion_out (n : Nat) (f : Region → Region) (s : State) : (modRegion n f s).out = s.out := rfl
@[simp] theorem modRegion_freeCtr (n : Nat) (f : Region → Region) (s : State) : (modRegion n f s).freeCtr = s.freeCtr := rfl
@[simp] theorem modRegion_pending (n : Nat) (f : Region → Region) (s : State) : (modRegion n f s).pending = s.pending := rfl

/-! ## modLd changes lds alone -/

@[simp] theorem modLd_regs (n : Nat) (f : Ld → Ld) (s : State) : (modLd n f s).regs = s.regs := rfl
@[simp] theorem modLd_cmdRes (n : Nat) (f : Ld → Ld) (s : State) : (modLd n f s).cmdRes = s.cmdRes := rfl
@[simp] theorem modLd_regions (n : Nat) (f : Ld → Ld) (s : State) : (modLd n f s).regions = s.regions := rfl
@[simp] theorem modLd_clk (n : Nat) (f : Ld → Ld) (s : State) : (modLd n f s).clk = s.clk := rfl
@[simp] theorem modLd_mf (n : Nat) (f : Ld → Ld) (s : State) : (modLd n f s).mf = s.mf := rfl
@[simp] theorem modLd_atw (n : Nat) (f : Ld → Ld) (s : State) : (modLd n f s).atw = s.atw := rfl
@[simp] theorem modLd_ferry (n : Nat) (f : Ld → Ld) (s : State) : (modLd n f s).ferry = s.ferry := rfl
@[simp] theorem modLd_mem (n : Nat) (f : Ld → Ld) (s : State) : (modLd n f s).mem = s.mem := rfl
@[simp] theorem modLd_grid (n : Nat) (f : Ld → Ld) (s : State) : (modLd n f s).grid = s.grid := rfl
@[simp] theorem modLd_hosts (n : Nat) (f : Ld → Ld) (s : State) : (modLd n f s).hosts = s.hosts := rfl
@[simp] theorem modLd_meters (n : Nat) (f : Ld → Ld) (s : State) : (modLd n f s).meters = s.meters := rfl
@[simp] theorem modLd_errs (n : Nat) (f : Ld → Ld) (s : State) : (modLd n f s).errs = s.errs := rfl
@[simp] theorem modLd_berths (n : Nat) (f : Ld → Ld) (s : State) : (modLd n f s).berths = s.berths := rfl
@[simp] theorem modLd_dram (n : Nat) (f : Ld → Ld) (s : State) : (modLd n f s).dram = s.dram := rfl
@[simp] theorem modLd_flash (n : Nat) (f : Ld → Ld) (s : State) : (modLd n f s).flash = s.flash := rfl
@[simp] theorem modLd_seam (n : Nat) (f : Ld → Ld) (s : State) : (modLd n f s).seam = s.seam := rfl
@[simp] theorem modLd_red (n : Nat) (f : Ld → Ld) (s : State) : (modLd n f s).red = s.red := rfl
@[simp] theorem modLd_hlt (n : Nat) (f : Ld → Ld) (s : State) : (modLd n f s).hlt = s.hlt := rfl
@[simp] theorem modLd_pair (n : Nat) (f : Ld → Ld) (s : State) : (modLd n f s).pair = s.pair := rfl
@[simp] theorem modLd_jobs (n : Nat) (f : Ld → Ld) (s : State) : (modLd n f s).jobs = s.jobs := rfl
@[simp] theorem modLd_weave (n : Nat) (f : Ld → Ld) (s : State) : (modLd n f s).weave = s.weave := rfl
@[simp] theorem modLd_cfg (n : Nat) (f : Ld → Ld) (s : State) : (modLd n f s).cfg = s.cfg := rfl
@[simp] theorem modLd_boot (n : Nat) (f : Ld → Ld) (s : State) : (modLd n f s).boot = s.boot := rfl
@[simp] theorem modLd_keys (n : Nat) (f : Ld → Ld) (s : State) : (modLd n f s).keys = s.keys := rfl
@[simp] theorem modLd_fw (n : Nat) (f : Ld → Ld) (s : State) : (modLd n f s).fw = s.fw := rfl
@[simp] theorem modLd_tack (n : Nat) (f : Ld → Ld) (s : State) : (modLd n f s).tack = s.tack := rfl
@[simp] theorem modLd_power (n : Nat) (f : Ld → Ld) (s : State) : (modLd n f s).power = s.power := rfl
@[simp] theorem modLd_test (n : Nat) (f : Ld → Ld) (s : State) : (modLd n f s).test = s.test := rfl
@[simp] theorem modLd_out (n : Nat) (f : Ld → Ld) (s : State) : (modLd n f s).out = s.out := rfl
@[simp] theorem modLd_freeCtr (n : Nat) (f : Ld → Ld) (s : State) : (modLd n f s).freeCtr = s.freeCtr := rfl
@[simp] theorem modLd_pending (n : Nat) (f : Ld → Ld) (s : State) : (modLd n f s).pending = s.pending := rfl

/-! ## modLink changes hosts alone -/

@[simp] theorem modLink_regs (n : Nat) (f : Link → Link) (s : State) : (modLink n f s).regs = s.regs := rfl
@[simp] theorem modLink_cmdRes (n : Nat) (f : Link → Link) (s : State) : (modLink n f s).cmdRes = s.cmdRes := rfl
@[simp] theorem modLink_regions (n : Nat) (f : Link → Link) (s : State) : (modLink n f s).regions = s.regions := rfl
@[simp] theorem modLink_lds (n : Nat) (f : Link → Link) (s : State) : (modLink n f s).lds = s.lds := rfl
@[simp] theorem modLink_clk (n : Nat) (f : Link → Link) (s : State) : (modLink n f s).clk = s.clk := rfl
@[simp] theorem modLink_mf (n : Nat) (f : Link → Link) (s : State) : (modLink n f s).mf = s.mf := rfl
@[simp] theorem modLink_atw (n : Nat) (f : Link → Link) (s : State) : (modLink n f s).atw = s.atw := rfl
@[simp] theorem modLink_ferry (n : Nat) (f : Link → Link) (s : State) : (modLink n f s).ferry = s.ferry := rfl
@[simp] theorem modLink_mem (n : Nat) (f : Link → Link) (s : State) : (modLink n f s).mem = s.mem := rfl
@[simp] theorem modLink_grid (n : Nat) (f : Link → Link) (s : State) : (modLink n f s).grid = s.grid := rfl
@[simp] theorem modLink_meters (n : Nat) (f : Link → Link) (s : State) : (modLink n f s).meters = s.meters := rfl
@[simp] theorem modLink_errs (n : Nat) (f : Link → Link) (s : State) : (modLink n f s).errs = s.errs := rfl
@[simp] theorem modLink_berths (n : Nat) (f : Link → Link) (s : State) : (modLink n f s).berths = s.berths := rfl
@[simp] theorem modLink_dram (n : Nat) (f : Link → Link) (s : State) : (modLink n f s).dram = s.dram := rfl
@[simp] theorem modLink_flash (n : Nat) (f : Link → Link) (s : State) : (modLink n f s).flash = s.flash := rfl
@[simp] theorem modLink_seam (n : Nat) (f : Link → Link) (s : State) : (modLink n f s).seam = s.seam := rfl
@[simp] theorem modLink_red (n : Nat) (f : Link → Link) (s : State) : (modLink n f s).red = s.red := rfl
@[simp] theorem modLink_hlt (n : Nat) (f : Link → Link) (s : State) : (modLink n f s).hlt = s.hlt := rfl
@[simp] theorem modLink_pair (n : Nat) (f : Link → Link) (s : State) : (modLink n f s).pair = s.pair := rfl
@[simp] theorem modLink_jobs (n : Nat) (f : Link → Link) (s : State) : (modLink n f s).jobs = s.jobs := rfl
@[simp] theorem modLink_weave (n : Nat) (f : Link → Link) (s : State) : (modLink n f s).weave = s.weave := rfl
@[simp] theorem modLink_cfg (n : Nat) (f : Link → Link) (s : State) : (modLink n f s).cfg = s.cfg := rfl
@[simp] theorem modLink_boot (n : Nat) (f : Link → Link) (s : State) : (modLink n f s).boot = s.boot := rfl
@[simp] theorem modLink_keys (n : Nat) (f : Link → Link) (s : State) : (modLink n f s).keys = s.keys := rfl
@[simp] theorem modLink_fw (n : Nat) (f : Link → Link) (s : State) : (modLink n f s).fw = s.fw := rfl
@[simp] theorem modLink_tack (n : Nat) (f : Link → Link) (s : State) : (modLink n f s).tack = s.tack := rfl
@[simp] theorem modLink_power (n : Nat) (f : Link → Link) (s : State) : (modLink n f s).power = s.power := rfl
@[simp] theorem modLink_test (n : Nat) (f : Link → Link) (s : State) : (modLink n f s).test = s.test := rfl
@[simp] theorem modLink_out (n : Nat) (f : Link → Link) (s : State) : (modLink n f s).out = s.out := rfl
@[simp] theorem modLink_freeCtr (n : Nat) (f : Link → Link) (s : State) : (modLink n f s).freeCtr = s.freeCtr := rfl
@[simp] theorem modLink_pending (n : Nat) (f : Link → Link) (s : State) : (modLink n f s).pending = s.pending := rfl

/-! ## modAgent changes mf alone -/

@[simp] theorem modAgent_regs (n : Nat) (f : Agent → Agent) (s : State) : (modAgent n f s).regs = s.regs := rfl
@[simp] theorem modAgent_cmdRes (n : Nat) (f : Agent → Agent) (s : State) : (modAgent n f s).cmdRes = s.cmdRes := rfl
@[simp] theorem modAgent_regions (n : Nat) (f : Agent → Agent) (s : State) : (modAgent n f s).regions = s.regions := rfl
@[simp] theorem modAgent_lds (n : Nat) (f : Agent → Agent) (s : State) : (modAgent n f s).lds = s.lds := rfl
@[simp] theorem modAgent_clk (n : Nat) (f : Agent → Agent) (s : State) : (modAgent n f s).clk = s.clk := rfl
@[simp] theorem modAgent_atw (n : Nat) (f : Agent → Agent) (s : State) : (modAgent n f s).atw = s.atw := rfl
@[simp] theorem modAgent_ferry (n : Nat) (f : Agent → Agent) (s : State) : (modAgent n f s).ferry = s.ferry := rfl
@[simp] theorem modAgent_mem (n : Nat) (f : Agent → Agent) (s : State) : (modAgent n f s).mem = s.mem := rfl
@[simp] theorem modAgent_grid (n : Nat) (f : Agent → Agent) (s : State) : (modAgent n f s).grid = s.grid := rfl
@[simp] theorem modAgent_hosts (n : Nat) (f : Agent → Agent) (s : State) : (modAgent n f s).hosts = s.hosts := rfl
@[simp] theorem modAgent_meters (n : Nat) (f : Agent → Agent) (s : State) : (modAgent n f s).meters = s.meters := rfl
@[simp] theorem modAgent_errs (n : Nat) (f : Agent → Agent) (s : State) : (modAgent n f s).errs = s.errs := rfl
@[simp] theorem modAgent_berths (n : Nat) (f : Agent → Agent) (s : State) : (modAgent n f s).berths = s.berths := rfl
@[simp] theorem modAgent_dram (n : Nat) (f : Agent → Agent) (s : State) : (modAgent n f s).dram = s.dram := rfl
@[simp] theorem modAgent_flash (n : Nat) (f : Agent → Agent) (s : State) : (modAgent n f s).flash = s.flash := rfl
@[simp] theorem modAgent_seam (n : Nat) (f : Agent → Agent) (s : State) : (modAgent n f s).seam = s.seam := rfl
@[simp] theorem modAgent_red (n : Nat) (f : Agent → Agent) (s : State) : (modAgent n f s).red = s.red := rfl
@[simp] theorem modAgent_hlt (n : Nat) (f : Agent → Agent) (s : State) : (modAgent n f s).hlt = s.hlt := rfl
@[simp] theorem modAgent_pair (n : Nat) (f : Agent → Agent) (s : State) : (modAgent n f s).pair = s.pair := rfl
@[simp] theorem modAgent_jobs (n : Nat) (f : Agent → Agent) (s : State) : (modAgent n f s).jobs = s.jobs := rfl
@[simp] theorem modAgent_weave (n : Nat) (f : Agent → Agent) (s : State) : (modAgent n f s).weave = s.weave := rfl
@[simp] theorem modAgent_cfg (n : Nat) (f : Agent → Agent) (s : State) : (modAgent n f s).cfg = s.cfg := rfl
@[simp] theorem modAgent_boot (n : Nat) (f : Agent → Agent) (s : State) : (modAgent n f s).boot = s.boot := rfl
@[simp] theorem modAgent_keys (n : Nat) (f : Agent → Agent) (s : State) : (modAgent n f s).keys = s.keys := rfl
@[simp] theorem modAgent_fw (n : Nat) (f : Agent → Agent) (s : State) : (modAgent n f s).fw = s.fw := rfl
@[simp] theorem modAgent_tack (n : Nat) (f : Agent → Agent) (s : State) : (modAgent n f s).tack = s.tack := rfl
@[simp] theorem modAgent_power (n : Nat) (f : Agent → Agent) (s : State) : (modAgent n f s).power = s.power := rfl
@[simp] theorem modAgent_test (n : Nat) (f : Agent → Agent) (s : State) : (modAgent n f s).test = s.test := rfl
@[simp] theorem modAgent_out (n : Nat) (f : Agent → Agent) (s : State) : (modAgent n f s).out = s.out := rfl
@[simp] theorem modAgent_freeCtr (n : Nat) (f : Agent → Agent) (s : State) : (modAgent n f s).freeCtr = s.freeCtr := rfl
@[simp] theorem modAgent_pending (n : Nat) (f : Agent → Agent) (s : State) : (modAgent n f s).pending = s.pending := rfl

/-! ## modBerth changes berths alone -/

@[simp] theorem modBerth_regs (n : Nat) (f : Berth → Berth) (s : State) : (modBerth n f s).regs = s.regs := rfl
@[simp] theorem modBerth_cmdRes (n : Nat) (f : Berth → Berth) (s : State) : (modBerth n f s).cmdRes = s.cmdRes := rfl
@[simp] theorem modBerth_regions (n : Nat) (f : Berth → Berth) (s : State) : (modBerth n f s).regions = s.regions := rfl
@[simp] theorem modBerth_lds (n : Nat) (f : Berth → Berth) (s : State) : (modBerth n f s).lds = s.lds := rfl
@[simp] theorem modBerth_clk (n : Nat) (f : Berth → Berth) (s : State) : (modBerth n f s).clk = s.clk := rfl
@[simp] theorem modBerth_mf (n : Nat) (f : Berth → Berth) (s : State) : (modBerth n f s).mf = s.mf := rfl
@[simp] theorem modBerth_atw (n : Nat) (f : Berth → Berth) (s : State) : (modBerth n f s).atw = s.atw := rfl
@[simp] theorem modBerth_ferry (n : Nat) (f : Berth → Berth) (s : State) : (modBerth n f s).ferry = s.ferry := rfl
@[simp] theorem modBerth_mem (n : Nat) (f : Berth → Berth) (s : State) : (modBerth n f s).mem = s.mem := rfl
@[simp] theorem modBerth_grid (n : Nat) (f : Berth → Berth) (s : State) : (modBerth n f s).grid = s.grid := rfl
@[simp] theorem modBerth_hosts (n : Nat) (f : Berth → Berth) (s : State) : (modBerth n f s).hosts = s.hosts := rfl
@[simp] theorem modBerth_meters (n : Nat) (f : Berth → Berth) (s : State) : (modBerth n f s).meters = s.meters := rfl
@[simp] theorem modBerth_errs (n : Nat) (f : Berth → Berth) (s : State) : (modBerth n f s).errs = s.errs := rfl
@[simp] theorem modBerth_dram (n : Nat) (f : Berth → Berth) (s : State) : (modBerth n f s).dram = s.dram := rfl
@[simp] theorem modBerth_flash (n : Nat) (f : Berth → Berth) (s : State) : (modBerth n f s).flash = s.flash := rfl
@[simp] theorem modBerth_seam (n : Nat) (f : Berth → Berth) (s : State) : (modBerth n f s).seam = s.seam := rfl
@[simp] theorem modBerth_red (n : Nat) (f : Berth → Berth) (s : State) : (modBerth n f s).red = s.red := rfl
@[simp] theorem modBerth_hlt (n : Nat) (f : Berth → Berth) (s : State) : (modBerth n f s).hlt = s.hlt := rfl
@[simp] theorem modBerth_pair (n : Nat) (f : Berth → Berth) (s : State) : (modBerth n f s).pair = s.pair := rfl
@[simp] theorem modBerth_jobs (n : Nat) (f : Berth → Berth) (s : State) : (modBerth n f s).jobs = s.jobs := rfl
@[simp] theorem modBerth_weave (n : Nat) (f : Berth → Berth) (s : State) : (modBerth n f s).weave = s.weave := rfl
@[simp] theorem modBerth_cfg (n : Nat) (f : Berth → Berth) (s : State) : (modBerth n f s).cfg = s.cfg := rfl
@[simp] theorem modBerth_boot (n : Nat) (f : Berth → Berth) (s : State) : (modBerth n f s).boot = s.boot := rfl
@[simp] theorem modBerth_keys (n : Nat) (f : Berth → Berth) (s : State) : (modBerth n f s).keys = s.keys := rfl
@[simp] theorem modBerth_fw (n : Nat) (f : Berth → Berth) (s : State) : (modBerth n f s).fw = s.fw := rfl
@[simp] theorem modBerth_tack (n : Nat) (f : Berth → Berth) (s : State) : (modBerth n f s).tack = s.tack := rfl
@[simp] theorem modBerth_power (n : Nat) (f : Berth → Berth) (s : State) : (modBerth n f s).power = s.power := rfl
@[simp] theorem modBerth_test (n : Nat) (f : Berth → Berth) (s : State) : (modBerth n f s).test = s.test := rfl
@[simp] theorem modBerth_out (n : Nat) (f : Berth → Berth) (s : State) : (modBerth n f s).out = s.out := rfl
@[simp] theorem modBerth_freeCtr (n : Nat) (f : Berth → Berth) (s : State) : (modBerth n f s).freeCtr = s.freeCtr := rfl
@[simp] theorem modBerth_pending (n : Nat) (f : Berth → Berth) (s : State) : (modBerth n f s).pending = s.pending := rfl

/-! ## modPanel changes grid alone -/

@[simp] theorem modPanel_regs (n : Nat) (f : Panel → Panel) (s : State) : (modPanel n f s).regs = s.regs := rfl
@[simp] theorem modPanel_cmdRes (n : Nat) (f : Panel → Panel) (s : State) : (modPanel n f s).cmdRes = s.cmdRes := rfl
@[simp] theorem modPanel_regions (n : Nat) (f : Panel → Panel) (s : State) : (modPanel n f s).regions = s.regions := rfl
@[simp] theorem modPanel_lds (n : Nat) (f : Panel → Panel) (s : State) : (modPanel n f s).lds = s.lds := rfl
@[simp] theorem modPanel_clk (n : Nat) (f : Panel → Panel) (s : State) : (modPanel n f s).clk = s.clk := rfl
@[simp] theorem modPanel_mf (n : Nat) (f : Panel → Panel) (s : State) : (modPanel n f s).mf = s.mf := rfl
@[simp] theorem modPanel_atw (n : Nat) (f : Panel → Panel) (s : State) : (modPanel n f s).atw = s.atw := rfl
@[simp] theorem modPanel_ferry (n : Nat) (f : Panel → Panel) (s : State) : (modPanel n f s).ferry = s.ferry := rfl
@[simp] theorem modPanel_mem (n : Nat) (f : Panel → Panel) (s : State) : (modPanel n f s).mem = s.mem := rfl
@[simp] theorem modPanel_hosts (n : Nat) (f : Panel → Panel) (s : State) : (modPanel n f s).hosts = s.hosts := rfl
@[simp] theorem modPanel_meters (n : Nat) (f : Panel → Panel) (s : State) : (modPanel n f s).meters = s.meters := rfl
@[simp] theorem modPanel_errs (n : Nat) (f : Panel → Panel) (s : State) : (modPanel n f s).errs = s.errs := rfl
@[simp] theorem modPanel_berths (n : Nat) (f : Panel → Panel) (s : State) : (modPanel n f s).berths = s.berths := rfl
@[simp] theorem modPanel_dram (n : Nat) (f : Panel → Panel) (s : State) : (modPanel n f s).dram = s.dram := rfl
@[simp] theorem modPanel_flash (n : Nat) (f : Panel → Panel) (s : State) : (modPanel n f s).flash = s.flash := rfl
@[simp] theorem modPanel_seam (n : Nat) (f : Panel → Panel) (s : State) : (modPanel n f s).seam = s.seam := rfl
@[simp] theorem modPanel_red (n : Nat) (f : Panel → Panel) (s : State) : (modPanel n f s).red = s.red := rfl
@[simp] theorem modPanel_hlt (n : Nat) (f : Panel → Panel) (s : State) : (modPanel n f s).hlt = s.hlt := rfl
@[simp] theorem modPanel_pair (n : Nat) (f : Panel → Panel) (s : State) : (modPanel n f s).pair = s.pair := rfl
@[simp] theorem modPanel_jobs (n : Nat) (f : Panel → Panel) (s : State) : (modPanel n f s).jobs = s.jobs := rfl
@[simp] theorem modPanel_weave (n : Nat) (f : Panel → Panel) (s : State) : (modPanel n f s).weave = s.weave := rfl
@[simp] theorem modPanel_cfg (n : Nat) (f : Panel → Panel) (s : State) : (modPanel n f s).cfg = s.cfg := rfl
@[simp] theorem modPanel_boot (n : Nat) (f : Panel → Panel) (s : State) : (modPanel n f s).boot = s.boot := rfl
@[simp] theorem modPanel_keys (n : Nat) (f : Panel → Panel) (s : State) : (modPanel n f s).keys = s.keys := rfl
@[simp] theorem modPanel_fw (n : Nat) (f : Panel → Panel) (s : State) : (modPanel n f s).fw = s.fw := rfl
@[simp] theorem modPanel_tack (n : Nat) (f : Panel → Panel) (s : State) : (modPanel n f s).tack = s.tack := rfl
@[simp] theorem modPanel_power (n : Nat) (f : Panel → Panel) (s : State) : (modPanel n f s).power = s.power := rfl
@[simp] theorem modPanel_test (n : Nat) (f : Panel → Panel) (s : State) : (modPanel n f s).test = s.test := rfl
@[simp] theorem modPanel_out (n : Nat) (f : Panel → Panel) (s : State) : (modPanel n f s).out = s.out := rfl
@[simp] theorem modPanel_freeCtr (n : Nat) (f : Panel → Panel) (s : State) : (modPanel n f s).freeCtr = s.freeCtr := rfl
@[simp] theorem modPanel_pending (n : Nat) (f : Panel → Panel) (s : State) : (modPanel n f s).pending = s.pending := rfl

/-! ## modCore changes grid alone -/

@[simp] theorem modCore_regs (n : Nat) (f : Core → Core) (s : State) : (modCore n f s).regs = s.regs := rfl
@[simp] theorem modCore_cmdRes (n : Nat) (f : Core → Core) (s : State) : (modCore n f s).cmdRes = s.cmdRes := rfl
@[simp] theorem modCore_regions (n : Nat) (f : Core → Core) (s : State) : (modCore n f s).regions = s.regions := rfl
@[simp] theorem modCore_lds (n : Nat) (f : Core → Core) (s : State) : (modCore n f s).lds = s.lds := rfl
@[simp] theorem modCore_clk (n : Nat) (f : Core → Core) (s : State) : (modCore n f s).clk = s.clk := rfl
@[simp] theorem modCore_mf (n : Nat) (f : Core → Core) (s : State) : (modCore n f s).mf = s.mf := rfl
@[simp] theorem modCore_atw (n : Nat) (f : Core → Core) (s : State) : (modCore n f s).atw = s.atw := rfl
@[simp] theorem modCore_ferry (n : Nat) (f : Core → Core) (s : State) : (modCore n f s).ferry = s.ferry := rfl
@[simp] theorem modCore_mem (n : Nat) (f : Core → Core) (s : State) : (modCore n f s).mem = s.mem := rfl
@[simp] theorem modCore_hosts (n : Nat) (f : Core → Core) (s : State) : (modCore n f s).hosts = s.hosts := rfl
@[simp] theorem modCore_meters (n : Nat) (f : Core → Core) (s : State) : (modCore n f s).meters = s.meters := rfl
@[simp] theorem modCore_errs (n : Nat) (f : Core → Core) (s : State) : (modCore n f s).errs = s.errs := rfl
@[simp] theorem modCore_berths (n : Nat) (f : Core → Core) (s : State) : (modCore n f s).berths = s.berths := rfl
@[simp] theorem modCore_dram (n : Nat) (f : Core → Core) (s : State) : (modCore n f s).dram = s.dram := rfl
@[simp] theorem modCore_flash (n : Nat) (f : Core → Core) (s : State) : (modCore n f s).flash = s.flash := rfl
@[simp] theorem modCore_seam (n : Nat) (f : Core → Core) (s : State) : (modCore n f s).seam = s.seam := rfl
@[simp] theorem modCore_red (n : Nat) (f : Core → Core) (s : State) : (modCore n f s).red = s.red := rfl
@[simp] theorem modCore_hlt (n : Nat) (f : Core → Core) (s : State) : (modCore n f s).hlt = s.hlt := rfl
@[simp] theorem modCore_pair (n : Nat) (f : Core → Core) (s : State) : (modCore n f s).pair = s.pair := rfl
@[simp] theorem modCore_jobs (n : Nat) (f : Core → Core) (s : State) : (modCore n f s).jobs = s.jobs := rfl
@[simp] theorem modCore_weave (n : Nat) (f : Core → Core) (s : State) : (modCore n f s).weave = s.weave := rfl
@[simp] theorem modCore_cfg (n : Nat) (f : Core → Core) (s : State) : (modCore n f s).cfg = s.cfg := rfl
@[simp] theorem modCore_boot (n : Nat) (f : Core → Core) (s : State) : (modCore n f s).boot = s.boot := rfl
@[simp] theorem modCore_keys (n : Nat) (f : Core → Core) (s : State) : (modCore n f s).keys = s.keys := rfl
@[simp] theorem modCore_fw (n : Nat) (f : Core → Core) (s : State) : (modCore n f s).fw = s.fw := rfl
@[simp] theorem modCore_tack (n : Nat) (f : Core → Core) (s : State) : (modCore n f s).tack = s.tack := rfl
@[simp] theorem modCore_power (n : Nat) (f : Core → Core) (s : State) : (modCore n f s).power = s.power := rfl
@[simp] theorem modCore_test (n : Nat) (f : Core → Core) (s : State) : (modCore n f s).test = s.test := rfl
@[simp] theorem modCore_out (n : Nat) (f : Core → Core) (s : State) : (modCore n f s).out = s.out := rfl
@[simp] theorem modCore_freeCtr (n : Nat) (f : Core → Core) (s : State) : (modCore n f s).freeCtr = s.freeCtr := rfl
@[simp] theorem modCore_pending (n : Nat) (f : Core → Core) (s : State) : (modCore n f s).pending = s.pending := rfl

/-! ## modFar changes ferry alone -/

@[simp] theorem modFar_regs (n : Nat) (f : Far → Far) (s : State) : (modFar n f s).regs = s.regs := rfl
@[simp] theorem modFar_cmdRes (n : Nat) (f : Far → Far) (s : State) : (modFar n f s).cmdRes = s.cmdRes := rfl
@[simp] theorem modFar_regions (n : Nat) (f : Far → Far) (s : State) : (modFar n f s).regions = s.regions := rfl
@[simp] theorem modFar_lds (n : Nat) (f : Far → Far) (s : State) : (modFar n f s).lds = s.lds := rfl
@[simp] theorem modFar_clk (n : Nat) (f : Far → Far) (s : State) : (modFar n f s).clk = s.clk := rfl
@[simp] theorem modFar_mf (n : Nat) (f : Far → Far) (s : State) : (modFar n f s).mf = s.mf := rfl
@[simp] theorem modFar_atw (n : Nat) (f : Far → Far) (s : State) : (modFar n f s).atw = s.atw := rfl
@[simp] theorem modFar_mem (n : Nat) (f : Far → Far) (s : State) : (modFar n f s).mem = s.mem := rfl
@[simp] theorem modFar_grid (n : Nat) (f : Far → Far) (s : State) : (modFar n f s).grid = s.grid := rfl
@[simp] theorem modFar_hosts (n : Nat) (f : Far → Far) (s : State) : (modFar n f s).hosts = s.hosts := rfl
@[simp] theorem modFar_meters (n : Nat) (f : Far → Far) (s : State) : (modFar n f s).meters = s.meters := rfl
@[simp] theorem modFar_errs (n : Nat) (f : Far → Far) (s : State) : (modFar n f s).errs = s.errs := rfl
@[simp] theorem modFar_berths (n : Nat) (f : Far → Far) (s : State) : (modFar n f s).berths = s.berths := rfl
@[simp] theorem modFar_dram (n : Nat) (f : Far → Far) (s : State) : (modFar n f s).dram = s.dram := rfl
@[simp] theorem modFar_flash (n : Nat) (f : Far → Far) (s : State) : (modFar n f s).flash = s.flash := rfl
@[simp] theorem modFar_seam (n : Nat) (f : Far → Far) (s : State) : (modFar n f s).seam = s.seam := rfl
@[simp] theorem modFar_red (n : Nat) (f : Far → Far) (s : State) : (modFar n f s).red = s.red := rfl
@[simp] theorem modFar_hlt (n : Nat) (f : Far → Far) (s : State) : (modFar n f s).hlt = s.hlt := rfl
@[simp] theorem modFar_pair (n : Nat) (f : Far → Far) (s : State) : (modFar n f s).pair = s.pair := rfl
@[simp] theorem modFar_jobs (n : Nat) (f : Far → Far) (s : State) : (modFar n f s).jobs = s.jobs := rfl
@[simp] theorem modFar_weave (n : Nat) (f : Far → Far) (s : State) : (modFar n f s).weave = s.weave := rfl
@[simp] theorem modFar_cfg (n : Nat) (f : Far → Far) (s : State) : (modFar n f s).cfg = s.cfg := rfl
@[simp] theorem modFar_boot (n : Nat) (f : Far → Far) (s : State) : (modFar n f s).boot = s.boot := rfl
@[simp] theorem modFar_keys (n : Nat) (f : Far → Far) (s : State) : (modFar n f s).keys = s.keys := rfl
@[simp] theorem modFar_fw (n : Nat) (f : Far → Far) (s : State) : (modFar n f s).fw = s.fw := rfl
@[simp] theorem modFar_tack (n : Nat) (f : Far → Far) (s : State) : (modFar n f s).tack = s.tack := rfl
@[simp] theorem modFar_power (n : Nat) (f : Far → Far) (s : State) : (modFar n f s).power = s.power := rfl
@[simp] theorem modFar_test (n : Nat) (f : Far → Far) (s : State) : (modFar n f s).test = s.test := rfl
@[simp] theorem modFar_out (n : Nat) (f : Far → Far) (s : State) : (modFar n f s).out = s.out := rfl
@[simp] theorem modFar_freeCtr (n : Nat) (f : Far → Far) (s : State) : (modFar n f s).freeCtr = s.freeCtr := rfl
@[simp] theorem modFar_pending (n : Nat) (f : Far → Far) (s : State) : (modFar n f s).pending = s.pending := rfl

/-! ## modTag changes ferry alone -/

@[simp] theorem modTag_regs (n : Nat) (f : Tag → Tag) (s : State) : (modTag n f s).regs = s.regs := rfl
@[simp] theorem modTag_cmdRes (n : Nat) (f : Tag → Tag) (s : State) : (modTag n f s).cmdRes = s.cmdRes := rfl
@[simp] theorem modTag_regions (n : Nat) (f : Tag → Tag) (s : State) : (modTag n f s).regions = s.regions := rfl
@[simp] theorem modTag_lds (n : Nat) (f : Tag → Tag) (s : State) : (modTag n f s).lds = s.lds := rfl
@[simp] theorem modTag_clk (n : Nat) (f : Tag → Tag) (s : State) : (modTag n f s).clk = s.clk := rfl
@[simp] theorem modTag_mf (n : Nat) (f : Tag → Tag) (s : State) : (modTag n f s).mf = s.mf := rfl
@[simp] theorem modTag_atw (n : Nat) (f : Tag → Tag) (s : State) : (modTag n f s).atw = s.atw := rfl
@[simp] theorem modTag_mem (n : Nat) (f : Tag → Tag) (s : State) : (modTag n f s).mem = s.mem := rfl
@[simp] theorem modTag_grid (n : Nat) (f : Tag → Tag) (s : State) : (modTag n f s).grid = s.grid := rfl
@[simp] theorem modTag_hosts (n : Nat) (f : Tag → Tag) (s : State) : (modTag n f s).hosts = s.hosts := rfl
@[simp] theorem modTag_meters (n : Nat) (f : Tag → Tag) (s : State) : (modTag n f s).meters = s.meters := rfl
@[simp] theorem modTag_errs (n : Nat) (f : Tag → Tag) (s : State) : (modTag n f s).errs = s.errs := rfl
@[simp] theorem modTag_berths (n : Nat) (f : Tag → Tag) (s : State) : (modTag n f s).berths = s.berths := rfl
@[simp] theorem modTag_dram (n : Nat) (f : Tag → Tag) (s : State) : (modTag n f s).dram = s.dram := rfl
@[simp] theorem modTag_flash (n : Nat) (f : Tag → Tag) (s : State) : (modTag n f s).flash = s.flash := rfl
@[simp] theorem modTag_seam (n : Nat) (f : Tag → Tag) (s : State) : (modTag n f s).seam = s.seam := rfl
@[simp] theorem modTag_red (n : Nat) (f : Tag → Tag) (s : State) : (modTag n f s).red = s.red := rfl
@[simp] theorem modTag_hlt (n : Nat) (f : Tag → Tag) (s : State) : (modTag n f s).hlt = s.hlt := rfl
@[simp] theorem modTag_pair (n : Nat) (f : Tag → Tag) (s : State) : (modTag n f s).pair = s.pair := rfl
@[simp] theorem modTag_jobs (n : Nat) (f : Tag → Tag) (s : State) : (modTag n f s).jobs = s.jobs := rfl
@[simp] theorem modTag_weave (n : Nat) (f : Tag → Tag) (s : State) : (modTag n f s).weave = s.weave := rfl
@[simp] theorem modTag_cfg (n : Nat) (f : Tag → Tag) (s : State) : (modTag n f s).cfg = s.cfg := rfl
@[simp] theorem modTag_boot (n : Nat) (f : Tag → Tag) (s : State) : (modTag n f s).boot = s.boot := rfl
@[simp] theorem modTag_keys (n : Nat) (f : Tag → Tag) (s : State) : (modTag n f s).keys = s.keys := rfl
@[simp] theorem modTag_fw (n : Nat) (f : Tag → Tag) (s : State) : (modTag n f s).fw = s.fw := rfl
@[simp] theorem modTag_tack (n : Nat) (f : Tag → Tag) (s : State) : (modTag n f s).tack = s.tack := rfl
@[simp] theorem modTag_power (n : Nat) (f : Tag → Tag) (s : State) : (modTag n f s).power = s.power := rfl
@[simp] theorem modTag_test (n : Nat) (f : Tag → Tag) (s : State) : (modTag n f s).test = s.test := rfl
@[simp] theorem modTag_out (n : Nat) (f : Tag → Tag) (s : State) : (modTag n f s).out = s.out := rfl
@[simp] theorem modTag_freeCtr (n : Nat) (f : Tag → Tag) (s : State) : (modTag n f s).freeCtr = s.freeCtr := rfl
@[simp] theorem modTag_pending (n : Nat) (f : Tag → Tag) (s : State) : (modTag n f s).pending = s.pending := rfl

/-! ## setTag changes ferry alone -/

@[simp] theorem setTag_regs (n : Nat) (g : Tag) (s : State) : (setTag n g s).regs = s.regs := rfl
@[simp] theorem setTag_cmdRes (n : Nat) (g : Tag) (s : State) : (setTag n g s).cmdRes = s.cmdRes := rfl
@[simp] theorem setTag_regions (n : Nat) (g : Tag) (s : State) : (setTag n g s).regions = s.regions := rfl
@[simp] theorem setTag_lds (n : Nat) (g : Tag) (s : State) : (setTag n g s).lds = s.lds := rfl
@[simp] theorem setTag_clk (n : Nat) (g : Tag) (s : State) : (setTag n g s).clk = s.clk := rfl
@[simp] theorem setTag_mf (n : Nat) (g : Tag) (s : State) : (setTag n g s).mf = s.mf := rfl
@[simp] theorem setTag_atw (n : Nat) (g : Tag) (s : State) : (setTag n g s).atw = s.atw := rfl
@[simp] theorem setTag_mem (n : Nat) (g : Tag) (s : State) : (setTag n g s).mem = s.mem := rfl
@[simp] theorem setTag_grid (n : Nat) (g : Tag) (s : State) : (setTag n g s).grid = s.grid := rfl
@[simp] theorem setTag_hosts (n : Nat) (g : Tag) (s : State) : (setTag n g s).hosts = s.hosts := rfl
@[simp] theorem setTag_meters (n : Nat) (g : Tag) (s : State) : (setTag n g s).meters = s.meters := rfl
@[simp] theorem setTag_errs (n : Nat) (g : Tag) (s : State) : (setTag n g s).errs = s.errs := rfl
@[simp] theorem setTag_berths (n : Nat) (g : Tag) (s : State) : (setTag n g s).berths = s.berths := rfl
@[simp] theorem setTag_dram (n : Nat) (g : Tag) (s : State) : (setTag n g s).dram = s.dram := rfl
@[simp] theorem setTag_flash (n : Nat) (g : Tag) (s : State) : (setTag n g s).flash = s.flash := rfl
@[simp] theorem setTag_seam (n : Nat) (g : Tag) (s : State) : (setTag n g s).seam = s.seam := rfl
@[simp] theorem setTag_red (n : Nat) (g : Tag) (s : State) : (setTag n g s).red = s.red := rfl
@[simp] theorem setTag_hlt (n : Nat) (g : Tag) (s : State) : (setTag n g s).hlt = s.hlt := rfl
@[simp] theorem setTag_pair (n : Nat) (g : Tag) (s : State) : (setTag n g s).pair = s.pair := rfl
@[simp] theorem setTag_jobs (n : Nat) (g : Tag) (s : State) : (setTag n g s).jobs = s.jobs := rfl
@[simp] theorem setTag_weave (n : Nat) (g : Tag) (s : State) : (setTag n g s).weave = s.weave := rfl
@[simp] theorem setTag_cfg (n : Nat) (g : Tag) (s : State) : (setTag n g s).cfg = s.cfg := rfl
@[simp] theorem setTag_boot (n : Nat) (g : Tag) (s : State) : (setTag n g s).boot = s.boot := rfl
@[simp] theorem setTag_keys (n : Nat) (g : Tag) (s : State) : (setTag n g s).keys = s.keys := rfl
@[simp] theorem setTag_fw (n : Nat) (g : Tag) (s : State) : (setTag n g s).fw = s.fw := rfl
@[simp] theorem setTag_tack (n : Nat) (g : Tag) (s : State) : (setTag n g s).tack = s.tack := rfl
@[simp] theorem setTag_power (n : Nat) (g : Tag) (s : State) : (setTag n g s).power = s.power := rfl
@[simp] theorem setTag_test (n : Nat) (g : Tag) (s : State) : (setTag n g s).test = s.test := rfl
@[simp] theorem setTag_out (n : Nat) (g : Tag) (s : State) : (setTag n g s).out = s.out := rfl
@[simp] theorem setTag_freeCtr (n : Nat) (g : Tag) (s : State) : (setTag n g s).freeCtr = s.freeCtr := rfl
@[simp] theorem setTag_pending (n : Nat) (g : Tag) (s : State) : (setTag n g s).pending = s.pending := rfl

/-! ## What each update leaves in its own field -/

@[simp] theorem emit_out (m : Out) (s : State) : (emit m s).out = m :: s.out := rfl
@[simp] theorem fresh_fst (s : State) : (fresh s).1 = Config.freeNat s.freeCtr := rfl
@[simp] theorem fresh_freeCtr (s : State) : (fresh s).2.freeCtr = s.freeCtr + 1 := rfl

/-- A register reads the value last written to it. -/
@[simp] theorem rget_rset_self (o : Obj) (i v : Nat) (s : State) : rget o i (rset o i v s) = v := by
  simp [rget, rset]

/-- A register of another object or place keeps its value. -/
theorem rget_rset_ne (o o' : Obj) (i i' v : Nat) (s : State) (h : objKey o i ≠ objKey o' i') :
    rget o' i' (rset o i v s) = rget o' i' s := by
  simp [rget, rset, tget_tput_ne _ _ _ _ _ _ h]

/-- Registers depend on the register file alone. -/
theorem rget_congr (o : Obj) (i : Nat) (s t : State) (h : t.regs = s.regs) : rget o i t = rget o i s := by
  simp [rget, h]

/-- A counter rises by what was added, and wraps at its width. -/
@[simp] theorem rget_radd_self (o : Obj) (i n : Nat) (s : State) :
    rget o i (radd o i n s) = (rget o i s + n) % 2 ^ objWidth o.ty := rget_rset_self ..

theorem rget_radd_ne (o o' : Obj) (i i' n : Nat) (s : State) (h : objKey o i ≠ objKey o' i') :
    rget o' i' (radd o i n s) = rget o' i' s := rget_rset_ne _ _ _ _ _ _ h

@[simp] theorem rget_rinc_self (o : Obj) (i : Nat) (s : State) :
    rget o i (rinc o i s) = (rget o i s + 1) % 2 ^ objWidth o.ty := rget_radd_self ..

theorem rget_rinc_ne (o o' : Obj) (i i' : Nat) (s : State) (h : objKey o i ≠ objKey o' i') :
    rget o' i' (rinc o i s) = rget o' i' s := rget_radd_ne _ _ _ _ _ _ h

/-- Two numbers with places below `m` differ when their rows do. -/
theorem place_ne (m a b i i' : Nat) (hi : i < m) (hi' : i' < m) (h : a ≠ b) : a * m + i ≠ b * m + i' := by
  intro e
  have hm : 0 < m := Nat.lt_of_le_of_lt (Nat.zero_le i) hi
  have hd := congrArg (· / m) e
  simp only [Nat.mul_comm _ m, Nat.mul_add_div hm, Nat.div_eq_of_lt hi, Nat.div_eq_of_lt hi'] at hd
  exact h hd

/-- Two registers of different objects lie at different keys. -/
theorem objKey_ne (o o' : Obj) (i i' : Nat) (hi : i < 65536) (hi' : i' < 65536)
    (h : o.index * 256 + o.sub ≠ o'.index * 256 + o'.sub) : objKey o i ≠ objKey o' i' :=
  place_ne 65536 _ _ i i' hi hi' h

/-- Two places of one object lie at different keys. -/
theorem objKey_ne_place (o : Obj) (i i' : Nat) (h : i ≠ i') : objKey o i ≠ objKey o i' := by
  intro e
  exact h (Nat.add_left_cancel e)

@[simp] theorem regionOf_modRegion_self (n : Nat) (f : Region → Region) (s : State) :
    regionOf (modRegion n f s) n = f (regionOf s n) := by simp [regionOf, modRegion]
theorem regionOf_modRegion_ne (n k : Nat) (f : Region → Region) (s : State) (h : n ≠ k) :
    regionOf (modRegion n f s) k = regionOf s k := by simp [regionOf, modRegion, tget_tmod_ne _ _ _ _ _ h]

@[simp] theorem ldOf_modLd_self (n : Nat) (f : Ld → Ld) (s : State) : ldOf (modLd n f s) n = f (ldOf s n) := by
  simp [ldOf, modLd]
theorem ldOf_modLd_ne (n k : Nat) (f : Ld → Ld) (s : State) (h : n ≠ k) : ldOf (modLd n f s) k = ldOf s k := by
  simp [ldOf, modLd, tget_tmod_ne _ _ _ _ _ h]

@[simp] theorem linkOf_modLink_self (n : Nat) (f : Link → Link) (s : State) : linkOf (modLink n f s) n = f (linkOf s n) := by
  simp [linkOf, modLink]
theorem linkOf_modLink_ne (n k : Nat) (f : Link → Link) (s : State) (h : n ≠ k) : linkOf (modLink n f s) k = linkOf s k := by
  simp [linkOf, modLink, tget_tmod_ne _ _ _ _ _ h]

@[simp] theorem agentOf_modAgent_self (n : Nat) (f : Agent → Agent) (s : State) :
    agentOf (modAgent n f s) n = f (agentOf s n) := by simp [agentOf, modAgent]
theorem agentOf_modAgent_ne (n k : Nat) (f : Agent → Agent) (s : State) (h : n ≠ k) :
    agentOf (modAgent n f s) k = agentOf s k := by simp [agentOf, modAgent, tget_tmod_ne _ _ _ _ _ h]

@[simp] theorem berthOf_modBerth_self (n : Nat) (f : Berth → Berth) (s : State) :
    berthOf (modBerth n f s) n = f (berthOf s n) := by simp [berthOf, modBerth]
theorem berthOf_modBerth_ne (n k : Nat) (f : Berth → Berth) (s : State) (h : n ≠ k) :
    berthOf (modBerth n f s) k = berthOf s k := by simp [berthOf, modBerth, tget_tmod_ne _ _ _ _ _ h]

@[simp] theorem panelOf_modPanel_self (n : Nat) (f : Panel → Panel) (s : State) :
    panelOf (modPanel n f s) n = f (panelOf s n) := by simp [panelOf, modPanel]
theorem panelOf_modPanel_ne (n k : Nat) (f : Panel → Panel) (s : State) (h : n ≠ k) :
    panelOf (modPanel n f s) k = panelOf s k := by simp [panelOf, modPanel, tget_tmod_ne _ _ _ _ _ h]

@[simp] theorem coreOf_modCore_self (n : Nat) (f : Core → Core) (s : State) : coreOf (modCore n f s) n = f (coreOf s n) := by
  simp [coreOf, modCore]
theorem coreOf_modCore_ne (n k : Nat) (f : Core → Core) (s : State) (h : n ≠ k) : coreOf (modCore n f s) k = coreOf s k := by
  simp [coreOf, modCore, tget_tmod_ne _ _ _ _ _ h]

/-- A change of cores leaves every panel, and a change of a panel every core. -/
@[simp] theorem panelOf_modCore (n k : Nat) (f : Core → Core) (s : State) : panelOf (modCore n f s) k = panelOf s k := rfl
@[simp] theorem coreOf_modPanel (n k : Nat) (f : Panel → Panel) (s : State) : coreOf (modPanel n f s) k = coreOf s k := rfl
@[simp] theorem coreOf_rset (o : Obj) (i v c : Nat) (s : State) : coreOf (rset o i v s) c = coreOf s c := rfl
@[simp] theorem coreOf_radd (o : Obj) (i v c : Nat) (s : State) : coreOf (radd o i v s) c = coreOf s c := rfl
@[simp] theorem coreOf_rinc (o : Obj) (i c : Nat) (s : State) : coreOf (rinc o i s) c = coreOf s c := rfl

@[simp] theorem farOf_modFar_self (n : Nat) (f : Far → Far) (s : State) : farOf (modFar n f s) n = f (farOf s n) := by
  simp [farOf, modFar]
theorem farOf_modFar_ne (n k : Nat) (f : Far → Far) (s : State) (h : n ≠ k) : farOf (modFar n f s) k = farOf s k := by
  simp [farOf, modFar, tget_tmod_ne _ _ _ _ _ h]

@[simp] theorem tagOf_setTag_self (n : Nat) (g : Tag) (s : State) : tagOf (setTag n g s) n = g := by
  have h : tagDflt (setTag n g s) n = tagDflt s n := rfl
  simp [tagOf, h]; simp [setTag]

/-- Running over a list keeps what each step keeps. -/
theorem each_keeps {α β : Type} (l : List α) (f : α → State → State) (s : State) (g : State → β)
    (h : ∀ x t, g (f x t) = g t) : g (each l f s) = g s := by
  induction l generalizing s with
  | nil => rfl
  | cons x l ih => exact (ih (f x s)).trans (h x s)

/-- Running over a list keeps a property that each step keeps. -/
theorem each_inv {α : Type} (l : List α) (f : α → State → State) (s : State) (P : State → Prop) (h0 : P s)
    (h : ∀ x t, P t → P (f x t)) : P (each l f s) := by
  induction l generalizing s with
  | nil => exact h0
  | cons x l ih => exact ih (f x s) (h x s h0)

end Sys2Proof.Machine
end

