-- ==== Sys2Proof/Laws/Core.lean ====
section
/-! SUPPORT. Laws of the cores: reading registers after a write, and what issuing an instruction comes to. -/

namespace Sys2Proof.Machine

/-! ## Registers -/

@[simp] theorem greg_zero (k : Core) : greg k 0 = 0 := rfl

/-- g0 reads as 0 whatever is written; any other register reads what was written to it last (Table 07.1). -/
theorem greg_setG (rd n : Nat) (v : Word) (k : Core) :
    greg (setG rd v k) n = if n = rd ∧ n ≠ 0 then v else greg k n := by
  unfold greg setG
  by_cases h0 : n = 0
  · simp [h0]
  · by_cases hr : rd = 0
    · have : n ≠ rd := by omega
      simp [h0, hr]
    · by_cases h : n = rd
      · subst h; simp [h0]
      · have h' : rd ≠ n := fun e => h e.symm
        simp [h0, hr, h, tget_tput_ne _ _ _ _ _ _ h']

/-- A write of a general register changes nothing else of the core. -/
theorem setG_eq (rd : Nat) (v : Word) (k : Core) : setG rd v k = { k with g := (setG rd v k).g } := by
  unfold setG; split <;> rfl

/-- One lane reads what was written to it last. -/
theorem laneOf_setLane (v lane v' lane' : Nat) (x : Word) (k : Core) :
    laneOf (setLane v lane x k) v' lane' = if laneKey v lane = laneKey v' lane' then x else laneOf k v' lane' := by
  simp [laneOf, setLane, tget_tput]

theorem accOf_setAcc (a lane a' lane' : Nat) (x : BitVec 64) (k : Core) :
    accOf (setAcc a lane x k) a' lane' = if a * 16 + lane = a' * 16 + lane' then x else accOf k a' lane' := by
  simp [accOf, setAcc, tget_tput]

/-! ## Issuing -/

theorem chkNow_pass (s : State) : chkNow s .pass = .pass := by unfold chkNow; split <;> rfl

/-- An effect that goes on is kept whole, the PC moves and the instruction is counted. -/
theorem issue_go (c : CoreCtx) (addr : Core → Option Nat) (run : Core → State → CoreRes) (s t : State) (pc : Nat)
    (h : Ready c s) (hr : run (coreOf s c.core) s = .go pc t) :
    issue c addr run s = .next (complete c.core pc t) := by
  obtain ⟨hm, hc, hl⟩ := h
  simp [issue, hm, hr, hc, hl, chkNow_pass, countRes, countLs]

/-- An effect that keeps the core at its instruction is kept whole. -/
theorem issue_stay (c : CoreCtx) (addr : Core → Option Nat) (run : Core → State → CoreRes) (s t : State) (st : Nat)
    (h : Ready c s) (hr : run (coreOf s c.core) s = .stay st t) :
    issue c addr run s = .next (startWait c.core st t) := by
  obtain ⟨hm, hc, hl⟩ := h
  simp [issue, hm, hr, hc, hl, chkNow_pass, countRes, countLs]

/-- An exception leaves no effect of the instruction (R192). -/
theorem issue_trap (c : CoreCtx) (addr : Core → Option Nat) (run : Core → State → CoreRes) (s : State) (cause code detail hi : Nat)
    (h : Ready c s) (hr : run (coreOf s c.core) s = .trap cause code detail hi) :
    issue c addr run s = .next (raiseExc c.core cause code detail hi s) := by
  obtain ⟨hm, hc, hl⟩ := h
  simp [issue, hm, hr, hc, hl, countLs]

/-- A wait leaves the core at its instruction. -/
theorem issue_wait (c : CoreCtx) (addr : Core → Option Nat) (run : Core → State → CoreRes) (s : State) (st : Nat)
    (h : Ready c s) (hr : run (coreOf s c.core) s = .wait st) :
    issue c addr run s = .next (startWait c.core st s) := by
  obtain ⟨hm, hc, hl⟩ := h
  simp [issue, hm, hr]

/-- The core after a completed instruction, and every other core. -/
theorem coreOf_complete_self (c pc : Nat) (s : State) :
    coreOf (complete c pc s) c = { coreOf s c with pc := pc, wait := 0 } := by simp [complete]
theorem coreOf_complete_ne (c pc k : Nat) (s : State) (h : c ≠ k) : coreOf (complete c pc s) k = coreOf s k := by
  simp [complete, coreOf_modCore_ne _ _ _ _ h]
@[simp] theorem complete_mem (c pc : Nat) (s : State) : (complete c pc s).mem = s.mem := rfl

/-! ## Local store -/

/-- A store of bytes changes no core. -/
@[simp] theorem coreOf_lsStore (c a n : Nat) (bs : List Byte) (s : State) : coreOf (lsStore c a bs s) n = coreOf s n := rfl
@[simp] theorem coreOf_setLsPoison (c b n : Nat) (p : Bool) (s : State) : coreOf (setLsPoison c b p s) n = coreOf s n := rfl

theorem coreOf_coreStore (c a n : Nat) (bs : List Byte) (s : State) : coreOf (coreStore c a bs s) n = coreOf s n := by
  unfold coreStore
  rw [each_keeps (g := fun s => coreOf s n)]
  · rfl
  · intros; rfl

/-- A store leaves the bytes of the shores, and every local store byte outside it. -/
theorem coreStore_ls (c a : Nat) (bs : List Byte) (s : State) :
    (coreStore c a bs s).mem.ls = storeBytes s.mem.ls (c * lsBytes + a) bs := by
  unfold coreStore
  rw [each_keeps (g := fun s => s.mem.ls)]
  · rfl
  · intros; rfl

theorem coreStore_near (c a : Nat) (bs : List Byte) (s : State) : (coreStore c a bs s).mem.near = s.mem.near := by
  unfold coreStore
  rw [each_keeps (g := fun s => s.mem.near)]
  · rfl
  · intros; rfl

theorem coreStore_far (c a : Nat) (bs : List Byte) (s : State) : (coreStore c a bs s).mem.far = s.mem.far := by
  unfold coreStore
  rw [each_keeps (g := fun s => s.mem.far)]
  · rfl
  · intros; rfl

/-- The bytes stored read back. -/
theorem lsLoad_coreStore (c a : Nat) (bs : List Byte) (s : State) : lsLoad (coreStore c a bs s) c a bs.length = bs := by
  rw [lsLoad, coreStore_ls, loadBytes_storeBytes]

end Sys2Proof.Machine
end

