-- ==== Sys2Proof/Tests/Slice0.lean ====
section
/-! SUPPORT. Tests: ill-formed commands are refused by the well-formedness check, and every statement that has hypotheses holds of
something: for each of its clauses a small state and operands that meet the clause's hypotheses. -/

namespace Sys2Proof.Tests

set_option Elab.async false

open Sys2Proof Sys2Proof.Machine

/-! ## Small states -/

/-- A core that issues, with nothing found wrong. -/
def issuer (core : Nat) : CoreCtx := ⟨core, .pass, .ok⟩

/-- A job of berth 2 that runs on panel 0. -/
def job : Job :=
  { kind := 0, prio := 0, restart := false, world := false, panels := 1, tlimit := 1000, image := 0, arg := 0, result := 0, user := 0, ld := 1,
    slot := 0, slotSeq := 1, colour := 0, berth := 2, code := 2, reason := 0, step := 0, pw := 1, ph := 1, bound := [0], order := 0, tSubmit := 0,
    tStart := 0, tLast := 0, ran := 0, preempts := 0, descDone := [], descNotOk := 0, cause := none, causeCore := 0, saved := [] }

/-- A plain region of berth 2 over the first GiB. -/
def region : Region := { st := 2, base := 0, size := 1, owner := 2, share := true, chans := [0] }

/-- A serving device: logical device 1 of berth 2 with agent 3 on link 0, whose landing is open and whose decoder 0 covers region 7; tile 0
is resident; job 0 runs on panel 0, and cores 0 and 1 issue. -/
def rig : State :=
  { regs := [(objKey .LC_STATE 0, 2)],
    regions := [(7, region)],
    lds := [(1, { enabled := true, agent := 3, berth := 2, coh := 2, accepted := [7], decoders := [(0, ⟨0, 2 ^ 30, 0, true, false, false⟩)] })],
    mf := { agents := [(3, { st := 1 }), (4, { st := 1 })] },
    ferry := { tags := [(0, { st := 4, valid := BitVec.allOnes 1024 })] },
    grid := { cores := [(0, { task := 1 }), (1, { task := 1 })], panels := [(0, { st := 1, berth := 2, job := 1 })] },
    hosts := { links := [(0, { st := 2, rate := 2, width := 8, flit := 2 })], opened := [0] },
    berths := { berths := [(2, { st := 1 })] },
    dram := { chans := [(0, { st := 3 }), (1, { st := 3 }), (2, { st := 3 }), (3, { st := 3 })] },
    flash := { chans := [(0, { st := 3 })] },
    jobs := { jobs := [(0, some job)] } }

/-- The rig with core 0 changed. -/
def core0 (f : Core → Core) : State := modCore 0 f rig

/-! ## Cores -/

/-- Any scalar instruction: ScalarArithmeticResults, ScalarImmediateResults, SpecialRegisterInstructions, BranchesAndJumps. -/
theorem witness_core_issues : Ready (issuer 0) rig ∧ (16383 < 2 ^ 14 ∧ 31 < 32 ∧ 1048575 < 2 ^ 20) := by
  exact ⟨⟨by decide, rfl, rfl⟩, by decide⟩

/-- A core whose g1 holds `v`. -/
def g1 (v : Word) : State := core0 (fun k => { k with g := [(1, v)] })

/-- Loads and stores of 1, 2, 4, 64 bytes at the last address that holds them. -/
theorem witness_local_store :
    Ready (issuer 0) (g1 131008) ∧ Loads (g1 131008) 0 131068 4 4 ∧ Loads (g1 131008) 0 131070 2 2 ∧ Loads (g1 131008) 0 131071 1 1
    ∧ Loads (g1 131008) 0 131008 64 64 ∧ Stores (g1 131008) 0 131068 4 4 ∧ Stores (g1 131008) 0 131070 2 2 ∧ Stores (g1 131008) 0 131071 1 1
    ∧ Stores (g1 131008) 0 131008 64 4 ∧ effAddr (coreOf (g1 131008) 0) 1 60 = 131068 ∧ effAddr (coreOf (g1 131008) 0) 1 0 = 131008 := by
  unfold Ready Loads Stores; decide +kernel

/-- A check trap whose comparison holds and one whose comparison does not, on equal registers; and the exception's lingering job. -/
def lingering : State := core0 (fun k => { k with xfers := [⟨0, 0, 0, 0, 0, 1, 0, []⟩] })

theorem witness_exceptions :
    Ready (issuer 0) lingering ∧ Claims.Lingers lingering 0 0 job ∧ tchkHolds 0 (greg (coreOf lingering 0) 1) (greg (coreOf lingering 0) 2) = true
    ∧ tchkHolds 5 (greg (coreOf lingering 0) 1) (greg (coreOf lingering 0) 2) = true ∧ tchkHolds 1 (greg (coreOf lingering 0) 1) (greg (coreOf lingering 0) 2) = false := by
  unfold Ready Claims.Lingers; decide +kernel

/-- The last lane of the last lane register, and the last accumulator. -/
theorem witness_lane_moves : Ready (issuer 0) rig ∧ 15 < 16 ∧ 30 % 2 = 0 ∧ 3 < 4 := by
  unfold Ready; decide +kernel

/-- A pattern word with its check code: class, formats of A, B and D, SUBOP and LMASK. -/
def pattern (cls af bf df subop lmask : Nat) : Nat :=
  let w := cls + 16 * af + 256 * bf + 4096 * df + 2 ^ 21 * subop + 2 ^ 24 * lmask
  w + 2 ^ 56 * crc8 (bitsOf 56 w)

/-- A core whose pattern slot 7 holds `w`. -/
def slot7 (w : Nat) : State := core0 (fun k => { k with ps := [(7, some w)] })

/-- VLD of 16 lanes at the end of local store; PLD of a pattern word that passes its checks (the word of all zeros does). -/
theorem witness_lane_loads : Ready (issuer 0) (g1 131008) ∧ 15 < 16 ∧ Loads (g1 131008) 0 131008 (4 * (15 + 1)) 4
    ∧ vecAddr (coreOf (g1 131008) 0) 1 0 = 131008 ∧ 7 < 8 ∧ Loads (g1 131064) 0 131064 8 8
    ∧ patOk (leNat (lsLoad (g1 131064) 0 131064 8)) = true ∧ patOk (pattern 6 8 8 8 3 65535) = true := by
  unfold Ready Loads; decide +kernel

/-- The eight bytes of a pattern word stand in local store and PLD may take them. -/
theorem witness_pattern_load :
    let s := { g1 131064 with mem := { ls := storeBytes [] 131064 (natLE 8 (pattern 6 8 8 8 3 65535)) } }
    Ready (issuer 0) s ∧ Loads s 0 131064 8 8 ∧ leNat (lsLoad s 0 131064 8) = pattern 6 8 8 8 3 65535 := by
  unfold Ready Loads; decide +kernel

/-- LOGIC on INT32 with every function, and ADD and SUB on INT32, with and without every lane. -/
theorem witness_lane_operations :
    (∀ subop ∈ [0, 1, 2, 3], let s := slot7 (pattern 6 8 8 8 subop 65535)
      let p := patOf (pattern 6 8 8 8 subop 65535)
      Ready (issuer 0) s ∧ tget none (coreOf s 0).ps 7 = some (pattern 6 8 8 8 subop 65535) ∧ p.df = p.af ∧ p.sbs = false ∧ p.dbs = false
      ∧ p.cls = 6 ∧ fmtBits p.af = 32 ∧ fmtBits p.bf = 32 ∧ p.subop = subop)
    ∧ (∀ subop ∈ [0, 1], let s := slot7 (pattern 1 8 8 8 subop 0)
      let p := patOf (pattern 1 8 8 8 subop 0)
      Ready (issuer 0) s ∧ tget none (coreOf s 0).ps 7 = some (pattern 1 8 8 8 subop 0) ∧ p.df = p.af ∧ p.sbs = false ∧ p.dbs = false
      ∧ p.cls = 1 ∧ p.af = 8 ∧ p.bf = 8 ∧ p.subop = subop) := by
  unfold Ready; decide +kernel

/-! ### Messages, barriers and transfers -/

/-- A SEND of the longest message to the neighbour in the east and through the weave port to the core itself. -/
theorem witness_send : Ready (issuer 0) rig ∧ 7 < 8 ∧ 56 + 7 < 64 ∧ 1 < 4 ∧ neighbour 0 1 = some 1 ∧ 1 ≠ 0 ∧ linkOpen rig 0 1 = true
    ∧ (queueOf rig 1 ((1 + 2) % 4)).length < 4 ∧ (greg (coreOf rig 0) 5).toNat < 1200
    ∧ (panelOf rig 0).berth = (panelOf rig (panelOfCore (greg (coreOf rig 0) 5).toNat)).berth
    ∧ (panelOf rig 0).world = (panelOf rig (panelOfCore (greg (coreOf rig 0) 5).toNat)).world ∧ (panelOf rig 0).outbound.length < 32 := by
  unfold Ready; decide +kernel

/-- A message of eight words. -/
def msg : Msg := ⟨1, 0, 9, [1, 2, 3, 4, 5, 6, 7, 8]⟩

/-- The rig with that message in queue `q` of core 0. -/
def queued (q : Nat) : State := core0 (fun k => { k with queues := [(q, [msg])] })

/-- RECV from the east link, from the first queue that holds a message, and a try with nothing queued. -/
theorem witness_recv : Ready (issuer 0) (queued 1) ∧ 56 ≤ 56 ∧ msg.words.length ≤ 8 ∧ 1 < 4 ∧ neighbour 0 1 = some 1
    ∧ linkOpen (queued 1) 0 1 = true ∧ queueOf (queued 1) 0 1 = msg :: [] ∧ Ready (issuer 0) (queued 4) ∧ (∀ r, r < 4 → queueOf (queued 4) 0 r = [])
    ∧ queueOf (queued 4) 0 4 = msg :: [] ∧ Ready (issuer 0) rig ∧ (∀ r, r < 5 → queueOf rig 0 r = []) := by
  unfold Ready; decide +kernel

/-- A cell waits at panel 0 for core 0, whose weave queue holds seven messages. -/
def celled : State := modPanel 0 (fun p => { p with outbound := [msg] }) (core0 (fun k => { k with queues := [(4, List.replicate 7 msg)] }))

theorem witness_cell : (panelOf celled 0).outbound = msg :: [] ∧ (panelOf celled (panelOfCore msg.dst)).st = 1 ∧ jobRuns celled msg.dst = true ∧ (queueOf celled msg.dst 4).length < 8 := by
  decide +kernel

/-- Core 0 arrives at barrier 3 for cores 0 and 1, as the first and as the last. -/
theorem witness_barrier :
    let first := g1 3
    let last := modPanel 0 (fun p => { p with bars := [(3, ⟨3, 2⟩)] }) (g1 3)
    (Ready (issuer 0) first ∧ 3 < 4 ∧ 3 < 2 ^ 20 ∧ bit 3 (panelIndex 0) = true ∧ (barOf first 0 3).arrived = 0
      ∧ (∀ n ∈ barCores 0 3, (coreOf first n).task = 1) ∧ (barOf first 0 3).arrived ||| 2 ^ panelIndex 0 ≠ 3)
    ∧ (Ready (issuer 0) last ∧ (barOf last 0 3).mask = 3 ∧ (∀ n ∈ barCores 0 3, (coreOf last n).task = 1)
      ∧ (barOf last 0 3).arrived ||| 2 ^ panelIndex 0 = 3 ∧ (barCores 0 3).Nodup) := by
  unfold Ready; decide +kernel

/-- FENCE and END with no transfer outstanding, another core's task running; FENCE with one outstanding. -/
theorem witness_fence_end : Ready (issuer 0) rig ∧ (coreOf rig 0).xfers = [] ∧ Ready (issuer 0) lingering ∧ (coreOf lingering 0).xfers ≠ []
    ∧ (∀ b, b < 4 → (barOf rig 0 b).arrived = 0) ∧ jobOfCore rig 0 = some 0 ∧ jobOf rig 0 = some job
    ∧ (∃ n ∈ jobCores job, n ≠ 0 ∧ (coreOf rig n).task = 1) := by
  unfold Ready; decide +kernel

/-- A core whose pair g2 names line 0 of tile 0 and whose g4 names the last block, or the first of the last 64. -/
def xfer (block : Nat) : State := core0 (fun k => { k with g := [(4, BitVec.ofNat 32 (block * 64)), (6, 63 * 256 + 63)] })

/-- Line, chunk, header and watch transfers at the last blocks that hold them. -/
theorem witness_transfers :
    Claims.TransferOk 0 4 2 64 1 false (xfer 2047) ∧ Claims.TransferOk 0 4 2 64 1 true (xfer 2047) ∧ Claims.TransferOk 0 4 2 4096 64 false (xfer 1984)
    ∧ Claims.TransferOk 0 4 2 4096 64 true (xfer 1984) ∧ Claims.TransferOk 0 0 2 65536 0 false (xfer 2047) ∧ Claims.TransferOk 0 4 2 65536 1 false (xfer 2047)
    ∧ Claims.TransferOk 0 4 2 65536 1 true (xfer 2047) ∧ watchFull (xfer 2047) 0 0 = false ∧ Ready (issuer 0) (xfer 2047) ∧ Ready (issuer 0) (xfer 1984)
    ∧ (greg (coreOf (xfer 2047) 0) 6).toNat % 64 ≤ (greg (coreOf (xfer 2047) 0) 6).toNat / 256 % 64 := by
  refine ⟨?_, ?_, ?_, ?_, ?_, ?_, ?_, by decide +kernel, by unfold Ready; decide +kernel, by unfold Ready; decide +kernel, by decide +kernel⟩ <;>
    (constructor <;> decide +kernel)

/-- A line transfer of core 0 that owes one line, which its home slice has served. -/
def landing (fn : Nat) : State :=
  { core0 (fun k => { k with xfers := [⟨5, fn, 3, 2047, 0, 1, 0, []⟩], blk := [(2047, 1)] }) with
    mf := { rig.mf with served := [⟨.core 0 5, 3, List.replicate 64 0xA5, false⟩] } }

theorem witness_transfer_end : ∀ fn ∈ [0, 1, 2],
    let s := landing fn
    let x : Xfer := ⟨5, fn, 3, 2047, 0, 1, 0, []⟩
    let v : Served := ⟨.core 0 5, 3, List.replicate 64 0xA5, false⟩
    xferOf s 0 5 = some x ∧ x.id = 5 ∧ x.owed = 1 ∧ s.mf.served.filter (fun u => u.src == .core 0 5) = [v] ∧ v.line = x.line ∧ v.data.length = 64
      ∧ jobOfCore s 0 = some 0 ∧ jobOf s 0 = some job ∧ job.ending = none := by
  decide +kernel

/-- AMO: g2 holds a request word for an ADD of the last INT32 of the first line. -/
def atomic : State := core0 (fun k => { k with g := [(2, 60), (3, BitVec.ofNat 32 ((2 ^ 49 * 8 + 2 ^ 53 * 4) / 2 ^ 32))] })

theorem witness_amo :
    let w := pairOf (coreOf atomic 0) 2
    Ready (issuer 0) atomic ∧ 2 % 2 = 0 ∧ 4 % 4 = 0 ∧ bits w 59 5 = 0 ∧ bits w 0 49 = 60 ∧ bits w 49 4 = 8 ∧ bits w 53 6 = 4 ∧ atwPaired 4 8 = true
      ∧ 60 % atwSize 8 = 0 ∧ devMay atomic (coreBerth atomic 0) (coreWorld atomic 0) (60 / 64) (4 != 0) = true := by
  unfold Ready; decide +kernel

theorem witness_residue : mayIssue { rig with regs := [(objKey .GRID_RESIDUE_ENABLE 0, 1)] } 0 = true
    ∧ rget .GRID_RESIDUE_ENABLE 0 { rig with regs := [(objKey .GRID_RESIDUE_ENABLE 0, 1)] } = 1 := by
  decide +kernel

/-! ## Regions, pace and clocks -/

/-- An administrator of the secure world on path 1, and a vendor. -/
def admin : Who := ⟨1, 2, true⟩
def vendor : Who := ⟨1, 3, true⟩

/-- A creation word: SIZE 1 at the lowest free range, of class `cls`, for berth `owner`, shared. -/
def creation (cls owner : Nat) : Nat := 1 + 2 ^ 19 * 0x7FFFF + 2 ^ 38 * cls + 2 ^ 40 * owner + 2 ^ 47

/-- The rig with region 7 changed. -/
def withRegion (r : Region) : State := { rig with regions := [(7, r)] }

/-- A removal whose steps have ended. -/
def removed : State :=
  { withRegion { region with st := 3, noRights := true, removeExtents := true } with lds := [], mem := { near := [(5, 1), (2 ^ 30, 2)], far := [(9, 3)] } }

theorem witness_regions :
    Claims.Runs .REGION_CREATE admin rig ∧ (∀ cls ∈ [0, 3], createStatus rig true (createArg (creation cls 2)) = 0)
    ∧ lowest 8192 (fun n => (regionOf rig n).st == 0) = some 0 ∧ baseFor rig (createArg (creation 0 2)) = some 1
    ∧ createStatus rig true (createArg (creation 0 3)) = 5
    ∧ (regionOf (withRegion { region with st := 1, cls := 3 }) 7).st = 1
    ∧ framesReady (withRegion { region with st := 1, cls := 3 }) (regionOf (withRegion { region with st := 1, cls := 3 }) 7) = true
    ∧ Claims.Runs .REGION_DELETE admin rig ∧ bits 7 0 13 = 7 ∧ (regionOf rig 7).st = 2 ∧ (regionOf rig 7).world = false ∧ (berthOf rig 2).st = 1
    ∧ removalDone removed 7 = true := by
  unfold Claims.Runs; decide +kernel

/-- A window that ends with the pace of loop 0 at 700 and every other loop faulty; a window held back; and the low-water command. -/
theorem witness_pace : 6 < 7 ∧ rig.clk.projWindows ≤ 1 ∧ 147 < 148 ∧ ([LoopReading.pace 700].getD 0 .bad = .pace (699 + 1))
    ∧ 1 < ({ rig with clk := { projWindows := 2 } } : State).clk.projWindows ∧ Claims.Runs .PACE_LOW_WATER_CLEAR admin rig := by
  unfold Claims.Runs; decide +kernel

theorem witness_clocks : rig.clk.backupOsc = false ∧ rig.boot.held = 0 ∧ bit ({ rig with clk := { unlocked := 2 ^ 8 } } : State).clk.unlocked 8 = true := by
  decide +kernel

/-! ## Host requests -/

/-- A request of logical device 1 for line 0 passes its landing; a line of no decoder, and an agent that is dead. -/
theorem witness_landing : Claims.Lands 1 0 0 0 7 rig (accept 1 rig).2 := by
  constructor <;> decide +kernel

theorem witness_meters : unmetered (accept 1 rig).2 ⟨.host 1 5, trackedAgent rig 1, 0, .memInv .i, 2, 0, false, 0, 0, 0, .cmp⟩ = true
    ∧ (colourReq (memMeters rig 1) 0 64 none (accept 1 rig).2).colour = 0 := by
  decide +kernel

/-- The rig with agent 3 dead. -/
def deadAgent : State := { rig with mf := { agents := [(3, { st := 2, cause := 2 })] } }

theorem witness_landing_answers :
    linkAccepts rig 1 = true ∧ landingOpen rig 1 = true ∧ accept 1 rig = (some 0, (accept 1 rig).2) ∧ agentDead rig (ldOf rig 1).agent = false
    ∧ translate rig 1 (2 ^ 30) = none ∧ linkAccepts deadAgent 1 = true ∧ accept 1 deadAgent = (some 0, (accept 1 deadAgent).2)
    ∧ agentDead deadAgent (ldOf deadAgent 1).agent = true := by
  decide +kernel

/-- A request of agent 3 for line `n`. -/
def request (n : Nat) (k : ReqKind) : Req := ⟨.host 1 5, some 3, n, k, 2, 0, false, 0, 0, 0, .cmp⟩

theorem witness_home : ∀ n ∈ [0, 1023], Claims.AtHome (request n (.memRd .s)) 1 5 3 rig := by
  intro n hn
  simp only [List.mem_cons, List.not_mem_nil, or_false] at hn
  obtain rfl | rfl := hn <;> (constructor <;> decide +kernel)

/-- The rig with one manifest entry for line 5, in both planes, and perhaps its recall. -/
def withEntry (e : MfEntry) (rc : Option Recall) : State :=
  { rig with
    lds := [(1, { enabled := true, agent := 3, berth := 2, coh := 2, accepted := [7] }), (17, { enabled := true, agent := 4, berth := 2, coh := 2 })],
    mf := { rig.mf with planeA := { entries := [(5, e)] }, planeB := { entries := [(5, e)] }, recalls := match rc with
      | none => []
      | some _ => [(5, rc)] } }

/-- Agent 4 owns line 5. -/
def owned : State := withEntry { st := .o, owner := 4 } none

theorem witness_recall_starts :
    let r := request 5 (.memRd .s)
    r.src = .host 1 5 ∧ r.agent = some 3 ∧ 3 ≠ 4 ∧ r.revoked = false ∧ lineBusy owned 5 = false ∧ (entryOf owned 5).st = .o ∧ (entryOf owned 5).owner = 4
      ∧ (entryOf owned 5).atomic = 0 ∧ agentDead owned 4 = false ∧ agentDead owned 3 = false ∧ owned.red.stA = 0 ∧ recallsFull owned = false
      ∧ tget 0 owned.weave.snpUsed (portOfAgent owned 4) < 512 := by
  decide +kernel

/-- Line 5 is recalled from agent 4 by a sweep: from a sharer, or from an owner. -/
def recalled (st : LineState) : State := withEntry { st := st, owner := 4, sharers := 16 } (some ⟨.cur, .sweep, 0, false, false, 0⟩)

theorem witness_recall_ends :
    recallOf rig 5 = none
    ∧ (∀ resp ∈ [BiResp.i, .s, .e], let s := recalled .ro
      recallOf s 5 = some ⟨.cur, .sweep, 0, false, false, 0⟩ ∧ owesAnswer (entryOf s 5) 4 = true ∧ answerFits .cur resp (entryOf s 5).st = true ∧ (entryOf s 5).st = .ro
        ∧ s.mf.waits = [] ∧ s.red.stA = 0)
    ∧ orderedFirst (recalled .ro) 4 5 = false
    ∧ (let s := { rig with mf := { setK := 4, newK := 2 } }
      s.mf.newK ≠ s.mf.setK ∧ 8388607 ∉ s.mf.remapDone ∧ 8388607 < 2097152 * s.mf.setK ∧ s.mf.remapDone.length + 1 ≠ 2097152 * s.mf.setK
        ∧ linesWhere s (fun l _ => setAt s.mf.setK l == 8388607) = [])
    ∧ rig.red.stA = 0 := by
  decide +kernel

/-- Agent 4 does not answer the recall of line 5, which it shares alone; an agent whose sweep has nothing left. -/
theorem witness_dead_agents :
    (let s := recalled .rs
     (agentOf s 4).st = 1 ∧ s.mf.waits = [] ∧ s.meters.held = [] ∧ s.weave.snpWait = [] ∧ s.red.stA = 0 ∧ recallOf s 5 = some ⟨.cur, .sweep, 0, false, false, 0⟩ ∧ (entryOf s 5).st = .rs
      ∧ (entryOf s 5).sharers = withAgent 0 4 ∧ linesWhere s (fun _ e => owesAnswer e 4) = [5])
    ∧ (let s := deadAgent
       (agentOf s 3).st = 2 ∧ (agentOf s 3).reviveDue = false ∧ (agentOf s 3).poisoned = 0 ∧ s.mf.waits = [] ∧ linesWhere s (fun _ e => owesAnswer e 3) = []
        ∧ linesWhere s (fun _ e => (e.st == .o && e.owner == 3) || (e.st == .s && e.sharers.getLsbD 3)) = [] ∧ ldOfAgent s 3 = some 1 ∧ (ldOf s 1).leaving = false
        ∧ s.errs.log.length < 4096)
    ∧ Claims.Runs .DEAD_POISON_LOG_CLEAR admin rig := by
  unfold Claims.Runs; decide +kernel

/-! ## The atomic window and hints -/

/-- A window request for the INT32 at byte 60 of region 7. -/
def atw (addr type : Nat) : AtwReq := ⟨1, 511, addr, type, 0, true, some 3, none⟩

theorem witness_window :
    (∀ q ∈ [(60, 8), (62, 9), (63, 10), (56, 13), (60, 1)], let r := atw q.1 q.2
      linkAccepts rig r.ld = true ∧ accept r.ld rig = (some 0, (accept 1 rig).2) ∧ (atwOf rig r.ld r.slot).busy = false ∧ agentDead rig (ldOf rig r.ld).agent = false
      ∧ r.full = true ∧ r.rsvd = 0 ∧ r.type < 16 ∧ r.addr < 2 ^ 49 ∧ atwSize r.type ≠ 0 ∧ r.addr % atwSize r.type = 0 ∧ acceptedRegion rig r.ld (r.addr / 64) = some 7
      ∧ worldReaches rig (ldWorld rig r.ld) 7 = true ∧ hostRight rig r.ld 7 rHostR = true ∧ hostRight rig r.ld 7 rHostW = true ∧ tandemLine rig (r.addr / 64) = false)
    ∧ (colourReq [berthMeter (ldOf rig 1).berth 1] 0 1 none rig).colour = 0 := by
  decide +kernel

/-- A busy slot with a read held on it. -/
def heldRead : State := { rig with atw := { slots := [(1 * 512 + 511, { busy := true, status := 1, seq := 1 })], reads := [⟨1, 511, 9⟩] } }

theorem witness_window_reads : linkAccepts rig 1 = true ∧ accept 1 rig = (some 0, (accept 1 rig).2) ∧ (atwOf rig 1 511).busy = false
    ∧ linkAccepts heldRead 1 = true ∧ accept 1 heldRead = (some 0, (accept 1 heldRead).2) ∧ (atwOf heldRead 1 511).busy = true
    ∧ heldRead.atw.reads.filter (fun h => h.ld == 1 && h.slot == 511) ≠ [] := by
  decide +kernel

/-- A home execution of the slot on the INT32 at byte 60. -/
def execution (op op1 op2 : Nat) : Req := ⟨.atw 1 511, some 3, 0, .window op 8 60 op1 op2 0, 2, 0, false, 0, 0, 0, .cmp⟩
def executing (op op1 op2 : Nat) : State :=
  { rig with
    mf := { rig.mf with ready := [execution op op1 op2] }, mem := { near := [(60, 5), (64, 1)] },
    atw := { slots := [(1 * 512 + 511, { busy := true, status := 1, seq := 1 })] } }

theorem witness_home_executions :
    (∀ op, op < 11 → Claims.AtFfu (execution op 3 7) (executing op 3 7)) ∧ 60 / 64 = (execution 0 3 7).line ∧ 60 % atwSize 8 = 0 ∧ (∀ op, op < 11 → atwPaired op 8 = true)
    ∧ leNat (loadBytes (executing 3 3 5).mem.near 60 4) = 5 % 2 ^ 32 ∧ leNat (loadBytes (executing 3 3 7).mem.near 60 4) ≠ 7 % 2 ^ 32
    ∧ intVal 8 3 < intVal 8 5 ∧ ¬ intVal 8 5 < intVal 8 3 ∧ intVal 8 5 + intVal 8 3 ≤ intVal 8 8 ∧ intVal 8 7 < intVal 8 5 + intVal 8 3 := by
  refine ⟨?_, by decide +kernel⟩
  intro op h
  have key : ∀ op, op < 11 → (executing op 3 7).mf.ready.find? (fun q => q.line == (execution op 3 7).line) = some (execution op 3 7)
      ∧ nearPoisoned (executing op 3 7) (execution op 3 7).line = false ∧ tandemLine (executing op 3 7) (execution op 3 7).line = false
      ∧ (tagOf (executing op 3 7) (tileOfLine (execution op 3 7).line)).st = 4
      ∧ crossingOf (executing op 3 7) (tileOfLine (execution op 3 7).line) = none := by decide +kernel
  obtain ⟨h1, h2, h3, h4, h5⟩ := key op h
  exact ⟨h1, Or.inr h4, ⟨h5, rfl, rfl, rfl, rfl, rfl⟩, h2, h3⟩

/-- A hint on a tile of region 7, and one that writes only a part of its word. -/
def hint (tile : Nat) (full : Bool) : HintReq := ⟨1, 63, tile, 0, 0, full, some 1⟩

theorem witness_hints :
    (∀ kind, kind < 6 → hintCheck 1 kind (hint 0 true) 1 rig = none) ∧ (∀ kind ∈ [0, 1, 2, 4, 5], hintCheck 1 kind (hint 16383 true) 1 rig = none) ∧ linkAccepts rig 1 = true ∧ accept 1 rig = (some 0, (accept 1 rig).2)
    ∧ (hintOf rig (hintKey 1 63)).busy = false ∧ agentDead rig (ldOf rig 1).agent = false ∧ 16383 < 2 ^ 33 ∧ (hint 0 false).full = false
    ∧ (colourReq [berthMeter (ldOf rig 1).berth 2] 0 (0 + 1) none rig).colour = 0
    ∧ (tagOf { rig with ferry := { tags := [(0, { st := 4, stage := true, expiry := 9 })] } } 0).stage = true := by
  decide +kernel

/-! ## Tiles, the ferry and converter descriptors -/

/-- A crossing of tile 0 that holds its slots. -/
def crossing (kind : CrossKind) (placed next : Nat) : Crossing :=
  { tile := 0, kind := kind, cls := 0, flash := 0, dram := 0, held := 2, aged := false, lane := 0, placed := placed, next := next, start := 0, snap := [],
    snapPoison := [], snapHdr := {}, snapDirty := 0, written := false, dDemand := false, fDemand := false, waiting := false, waitSince := 0, rebuilding := none }

/-- The rig with tile 0's tag, far record and crossings given. -/
def tiled (g : Tag) (f : Far) (cs : List Crossing) : State := { rig with ferry := { tags := [(0, g)], far := [(0, f)], crossings := cs } }

/-- Tile 0 is promoted: chunk 15 comes, as the first and as the last. -/
def promoting (placed : Nat) : State := tiled { st := 2 } { kind := 1, len := 64 } [crossing .promote placed 15]

theorem witness_promotion : ∀ placed ∈ [0, 2 ^ 15 - 1], let s := promoting placed
    Claims.Calm s ∧ crossingOf s 0 = some (crossing .promote placed 15) ∧ slotsNeeded (crossing .promote placed 15) ≤ 2 ∧ bit placed 15 = false ∧ (farOf s 0).kind = 1
      ∧ (farOf s 0).stale = false ∧ keyMismatch s 0 (farOf s 0).hdr.kslot (farOf s 0).hdr.kgen = false ∧ (flashOf s (farOf s 0).chan).st = 3 ∧ (tagOf s 0).st = 2
      ∧ (placed ||| 2 ^ 15 = 65535 ↔ placed = 2 ^ 15 - 1) := by
  unfold Claims.Calm; decide +kernel

/-- Tile 0 is evicted, or cleaned, with every line zero: its far copy becomes a ZERO mark. -/
def leaving (kind : CrossKind) : State :=
  { tiled { st := 6, valid := BitVec.allOnes 1024 } { kind := 1, len := 64 } [crossing kind 0 0] with flash := { chans := [(0, { st := 3 })], exposed := 0 } }

theorem witness_demotion : ∀ kind ∈ [CrossKind.evict, .clean], let s := leaving kind
    Claims.Calm s ∧ crossingOf s 0 = some (crossing kind 0 0) ∧ slotsNeeded (crossing kind 0 0) ≤ 2 ∧ logFull s = false ∧ farTakes s = true
      ∧ demotionFails (crossing kind 0 0) s = false ∧ poisonFits s (crossing kind 0 0).snapPoison = true ∧ (writeFar 0 (crossing kind 0 0) s).isSome = true := by
  unfold Claims.Calm; decide +kernel

/-- Channel 0 with one GiB of frames, of which the ferry is to keep all free, and tile 0 clean in it. -/
def sweeping : State :=
  { tiled { st := 3, valid := BitVec.allOnes 1024 } { kind := 1 } [] with
    regs := [(objKey .FERRY_FREE_LOW 0, 1000)], dram := { chans := [(0, { st := 3, cap := 3 })] } }

/-- A crossing that waits at the DRAM endpoint. -/
def waiting : Crossing := { crossing .promote 0 0 with held := 0, waiting := true }

theorem witness_ferry :
    (let s := { rig with mf := { tileRecalls := [0] } }
     Claims.Calm s ∧ s.mf.tileRecalls = [0] ∧ tileLines s 0 = [] ∧ (tagOf s 0).st = 4 ∧ (tagOf s 0).checking = false)
    ∧ (let s := sweeping
       s.ferry.misses = [] ∧ (∀ q ∈ s.regions, q.2.displaced = []) ∧ (chanOf s 0).st = 3 ∧ freeFrames s 0 + leavingFrames s 0 < freeLow s 0
        ∧ tagOf s 0 = { st := 3, valid := BitVec.allOnes 1024 } ∧ heldNow s 0 = false ∧ (farOf s 0).stale = false)
    ∧ (let s := { rig with regs := [(objKey .FERRY_DEMOTE_AGE 0, 0)] }
       rget .FERRY_DEMOTE_AGE 0 s = 0 ∧ (s.ferry.tags.map (·.1)).Nodup ∧ (∀ q ∈ s.ferry.tags, tagOf s q.1 = q.2) ∧ (0, tagOf s 0) ∈ s.ferry.tags ∧ (tagOf s 0).st ≠ 0
        ∧ (tagOf s 0).rsv = false ∧ (chanOf s (tagOf s 0).home).st = 3)
    ∧ (let s := tiled { st := 2 } { kind := 1 } [waiting]
       s.ferry.crossings = [waiting] ∧ crossingOf s 0 = some waiting ∧ nextEndpoint waiting = 0 ∧ (slotFor s waiting 0).isSome = true ∧ waiting.held < slotsNeeded waiting)
    ∧ (let s := tiled { st := 4, hdr := { sealed := true } } {} []
       (tagOf s 0).st = 4 ∧ (tagOf s 0).hdr.sealed = true ∧ (tagOf s 0).checking = false ∧ crossingOf s 0 = none ∧ tileLines s 0 = []
        ∧ keyMismatch s 0 (tagOf s 0).kslot (tagOf s 0).hdr.kgen = false) := by
  unfold Claims.Calm; decide +kernel

/-- The sweep's order has tile 0 alone. -/
theorem witness_sweep_order : (sweepOrder sweeping 0).filter (mayEvict sweeping) = [(0, { st := 3, valid := BitVec.allOnes 1024 })] := by
  have h : cachedIn sweeping 0 = [(0, { st := 3, valid := BitVec.allOnes 1024 })] := by decide +kernel
  unfold sweepOrder
  rw [h, List.mergeSort_singleton]
  decide +kernel

/-- A descriptor: CONVERT of one row of sixteen FP32 at byte 65,536 to tile 0, or DECLARE, or UNDECLARE of tile 0. -/
def descriptor (op : Nat) : List Byte :=
  let ctrl := op + 8 + (if op = 0 then 16 else 0) + 2 ^ 8 + 2 ^ 32 + 2 ^ 48 * 16
  let bs := natLE 8 ctrl ++ natLE 8 (if op = 0 then 65536 else 0) ++ natLE 8 0 ++ natLE 4 (if op = 0 then 64 else 0) ++ natLE 4 0 ++ natLE 8 0 ++ List.replicate 20 0
  bs ++ natLE 4 (crc32c bs)

/-- A convert job whose one descriptor stands at line 2048 and is read. -/
def converter : Job := { job with kind := 1, arg := 1, image := 2048 * 64 }

/-- The job at its descriptor, with its run and what is served. -/
def converting (op : Nat) (run : Option ConvRun) (served : List Served) : State :=
  { rig with
    mf := { rig.mf with served := ⟨.dev (unitConvDesc 0 0), 2048, descriptor op, false⟩ :: served },
    jobs := { jobs := [(0, some converter)], convs := match run with
      | none => []
      | some _ => [(0, run)] } }

theorem witness_descriptors : ∀ op ∈ [0, 1, 2], Claims.DescRuns op ⟨0, 0, false⟩ converter (descriptor op) (converting op none [])
    ∧ convOf (converting op none []) (convKey 0 0) = none := by
  intro op h
  simp only [List.mem_cons, List.not_mem_nil, or_false] at h
  obtain rfl | rfl | rfl := h <;> (refine ⟨?_, by decide +kernel⟩; constructor <;> decide +kernel)

theorem witness_descriptor_begins : ∀ op ∈ [0, 1, 2], let q := descOf (descriptor op)
    let s := converting op none []
    q.dstTile = true ∧ q.srcTile = false ∧ (op = 2 ∨ geometryOk q q.rows q.cols = true) ∧ mayReadSrc s converter q = true
      ∧ mayWriteDst s converter q (descRows q {}) (descCols q {}) = true := by
  decide +kernel

/-- Every line of a list is served to unit `u`. -/
def servedLines (u : Nat) (lines : List Nat) : List Served := lines.map (fun l => ⟨.dev u, l, [], false⟩)

theorem got_servedLines (u : Nat) (lines : List Nat) (s : State) (h : servedFor s u = servedLines u lines) : gotLines s u lines = some ([], false) := by
  unfold gotLines
  rw [h]
  have e : (servedLines u lines).any (fun v => v.poison) = false := by simp [servedLines]
  have f : ∀ l, (match (servedLines u lines).find? (fun v => v.line == l) with
      | some v => v.data
      | none => []) = [] := by
    intro l
    split
    · rename_i v hv
      have := List.mem_of_find?_eq_some hv
      simp only [servedLines, List.mem_map] at this
      obtain ⟨_, _, rfl⟩ := this
      rfl
    · rfl
  rw [if_pos (by simp [servedLines]), e]
  exact congrArg (fun x => some (x, false)) (List.flatMap_eq_nil_iff.2 (fun l _ => f l))

/-- DECLARE's source lines are served, and UNDECLARE has none. -/
theorem witness_descriptor_got :
    let u := unitConv 0 0
    let lines := sourceLines (descOf (descriptor 1))
    let s := { converting 1 (some {}) [] with mf := { rig.mf with served := servedLines u lines } }
    convOf s (convKey 0 0) = some {} ∧ gotLines s u lines = some ([], false) ∧ gotLines (converting 2 (some {}) []) u [] = some ([], false) := by
  refine ⟨by decide +kernel, got_servedLines _ _ _ ?_, by decide +kernel⟩
  simp [servedFor, servedLines]

theorem witness_descriptor_closes : ∀ op ∈ [0, 1, 2], let s := converting op (some { writing := true }) []
    convOf s (convKey 0 0) = some { writing := true } ∧ (servedFor s (unitConvWrite 0 0)).length = 0 ∧ (hdrReady 0 true s).2 = true := by
  decide +kernel

/-- Range recalls of a removal, a decoder and a release with nothing left; a release that is over; one not given back in time. -/
def ranged (why : RangeWhy) : State := { rig with mf := { ranges := [⟨3, 0, 1, none, .inv, why⟩] } }
def withExtent (f : Ld → Ld) : State := { rig with lds := [(1, f (ldOf rig 1))] }

theorem witness_extents :
    (∀ why ∈ [RangeWhy.removal 7, .decoder 1 0, .release 1 7], (ranged why).mf.ranges = [⟨3, 0, 1, none, .inv, why⟩] ∧ rangeClear (ranged why) ⟨3, 0, 1, none, .inv, why⟩ = true)
    ∧ (let s := withExtent (fun l => { l with releasing := [7] })
       7 ∈ (ldOf s 1).releasing ∧ ldOpenIn s 1 7 = false ∧ s.mf.ranges = [])
    ∧ (let s := withExtent (fun l => { l with asked := [7], coh := 1 })
       7 ∈ (ldOf s 1).asked ∧ (ldOf s 1).coh ≠ 2) := by
  decide +kernel

/-! ## Jobs and the weave -/

/-- A submission of the descriptor at byte 128 to the last job slot, and slots that are free, held by their meter, or busy with another. -/
def submission (addr : Nat) : JobReq := ⟨1, 63, addr, 0, true⟩
def slotted (x : JobSlot) : State := { rig with jobs := { slots := [(jslotKey 1 63, x)] } }

theorem witness_submissions :
    linkAccepts rig 1 = true ∧ accept 1 rig = (some 0, (accept 1 rig).2) ∧ (submission 128).full = true ∧ (jslotOf rig 1 63).busy = false ∧ (submission 128).rsvd = 0
    ∧ (submission 128).addr % 64 = 0 ∧ (colourReq [berthMeter (ldOf rig 1).berth 3] (linkOfLd rig 1) 1 none rig).colour = 0 ∧ (submission 127).addr % 64 ≠ 0
    ∧ (let s := slotted { addr := 128, code := 4, busy := true }
       linkAccepts s 1 = true ∧ accept 1 s = (some 0, (accept 1 s).2) ∧ (jslotOf s 1 63).busy = true ∧ (submission 128).addr = (jslotOf s 1 63).addr
        ∧ (jslotOf s 1 63).code = 4 ∧ (submission 64).addr ≠ (jslotOf s 1 63).addr) := by
  decide +kernel

/-- A convert job waits and panel 0 is its berth's and idle. -/
def waitingJob : Job := { job with kind := 1, code := 1, bound := [] }
def placing : State := { rig with jobs := { jobs := [(0, some waitingJob)] }, grid := { panels := [(0, { berth := 2 })] } }

theorem witness_placement : admitting placing = [] ∧ (heads placing).head? = some (0, waitingJob) ∧ placement placing waitingJob = some [0] ∧ jobOf placing 0 = some waitingJob
    ∧ waitingJob.kind = 1 ∧ waitingJob.code = 1 ∧ waitingJob.step = 0 := by
  refine ⟨by decide +kernel, ?_, by decide +kernel⟩
  have h : (List.range 64).filterMap (headOf placing) = [(0, waitingJob)] := by decide +kernel
  unfold heads
  rw [h, List.mergeSort_singleton]
  rfl

/-- An image of one panel with one task: header, then the task record, which starts at word 8. -/
def image (ver : Nat) : List Byte :=
  let head := natLE 8 (1 + 2 ^ 16 + 2 ^ 20 + 2 ^ 24) ++ natLE 4 64 ++ natLE 4 80 ++ natLE 4 0 ++ natLE 4 128 ++ natLE 4 ver ++ List.replicate 32 0
  let body := natLE 4 (8 * 2 ^ 16) ++ List.replicate 60 0
  head ++ natLE 4 (crc32c (head ++ List.replicate 4 0 ++ body)) ++ body

/-- Job 0 loads that image from line 2048. -/
def loadingJob : Job := { job with step := 1, image := 2048 * 64, size := 128 }
def loading (img : List Byte) : State :=
  { rig with
    mf := { rig.mf with served := [⟨.dev (unitImage 0), 2048, img.take 64, false⟩, ⟨.dev (unitImage 0), 2049, img.drop 64, false⟩] },
    jobs := { jobs := [(0, some loadingJob)] } }

theorem witness_image : ∀ ver ∈ [fwIf rig 5, 0], let s := loading (image ver)
    jobOf s 0 = some loadingJob ∧ loadingJob.step = 1 ∧ losesPanel s loadingJob = false ∧ askLines (unitImage 0) 2 (linesOf loadingJob.image loadingJob.size) s = s
      ∧ gotLines s (unitImage 0) (linesOf loadingJob.image loadingJob.size) = some (image ver, false) ∧ imageValid s loadingJob (image ver) = decide (ver = fwIf rig 5)
      ∧ (imageTasks (image ver)).length = 1 := by
  decide +kernel

/-- Job 0 changed. -/
def withJob (f : Job → Job) : State := { rig with jobs := { jobs := [(0, some (f job))] } }

theorem witness_job_steps :
    (let s := withJob (fun j => { j with step := 2 })
     let j := { job with step := 2 }
     jobOf s 0 = some j ∧ jobQuiet s j = true ∧ j.ending = none ∧ saveSlots s ≠ 0 ∧ losesPanel s j = false ∧ j.lost = none ∧ j.bound.Nodup
      ∧ (∀ p ∈ j.bound, (panelOf s p).leaving = false ∧ (panelOf s p).lent = false))
    ∧ (let s := withJob (fun j => { j with step := 3 })
       jobOf s 0 = some { job with step := 3 } ∧ losesPanel s { job with step := 3 } = false)
    ∧ (let s := { lingering with jobs := { jobs := [(0, some { job with tlimit := 1 })] }, clk := { tsx := 25000 } }
       let j := { job with tlimit := 1 }
       jobOf s 0 = some j ∧ j.code = 2 ∧ j.step = 0 ∧ j.ending = none ∧ msTicks j.tlimit ≤ j.ran + ticksSince j.tLast (now s) ∧ jobQuiet s j = false) := by
  decide +kernel

/-- A job waits behind job 1 of its berth, which has run for a second. -/
def crowded : State := { rig with jobs := { jobs := [(0, some waitingJob), (1, some job)] }, clk := { tsx := 25000001 } }

theorem witness_quantum : crowded.jobs.jobs = [(0, some waitingJob), (1, some job)] ∧ headOf crowded 2 = some (0, waitingJob)
    ∧ msTicks (rget .JOB_QUANTUM 2 crowded) < ticksSince waitingJob.tLast (now crowded) ∧ mayPreempt crowded waitingJob = false ∧ mayPreempt crowded job = true
    ∧ effPrio crowded job = effPrio crowded waitingJob ∧ msTicks (rget .JOB_QUANTUM 2 crowded) ≤ ticksSince job.tLast (now crowded) ∧ jobOf crowded 1 = some job := by
  decide +kernel

theorem witness_save_all : Claims.Runs .GRID_SAVE_ALL admin rig ∧ (List.range 60).any (fun p => decide (saveSlots rig ≤ (savedOn rig p).length)) = false
    ∧ rig.jobs.jobs = [(0, some job)] ∧ jobOf rig 0 = some job ∧ job.code = 2 ∧ job.step = 0 := by
  unfold Claims.Runs; decide +kernel

/-- A read of logical device 1 waits for its tile. -/
def missing : State := { rig with ferry := { rig.ferry with misses := [request 0 (.memRd .s)] } }

theorem witness_weave :
    (rig.weave.st = 0 ∧ deadEndpoints rig ≠ rig.weave.bank) ∧ ({ rig with weave := { st := 2 } } : State).weave.st = 2 ∧ bit 1 0 = true
    ∧ (reqsOf missing 64 0 = [request 0 (.memRd .s)] ∧ (ldOf missing 1).enabled = true ∧ linkServes missing (linkOfLd missing 1) = true ∧ missing.weave.longs = []
      ∧ missing.errs.log.length < 4096)
    ∧ rig.weave.snpWait = []
    ∧ (let s := { rig with weave := { longs := [(64, 5, 1)] } }
       s.weave.longs.find? (fun l => l.1 == 64 && l.2.1 == 5) = some (64, 5, 1)) := by
  decide +kernel

/-! ## The near and far shores -/

/-- Two channels that mirror one another hold tile 0 of a mirror-near region. -/
def mirrored : State :=
  { rig with regions := [(7, { region with cls := 1 })], dram := { chans := [(0, { st := 3 }), (12, { st := 3 })] }, ferry := { tags := [(0, { st := 4, rsv := true })] } }

theorem witness_dram_reads :
    chanWorks rig 0 = true ∧ chanHas rig 0 1023 = true ∧ (chanOf rig 0).st = 3
    ∧ ((∀ r, regionAtLine rig 0 = some r → (regionOf rig r).cls ≠ 1) ∧ farHas rig 0 = false ∧ canFetch rig 0 = false ∧ containsByReset rig 0 0 = false)
    ∧ (chanWorks mirrored 0 = true ∧ chanHas mirrored 0 0 = true ∧ regionAtLine mirrored 0 = some 7 ∧ (regionOf mirrored 7).cls = 1 ∧ chanWorks mirrored 12 = true) := by
  refine ⟨by decide +kernel, by decide +kernel, by decide +kernel, ⟨?_, by decide +kernel⟩, by decide +kernel⟩
  intro r h
  have : regionAtLine rig 0 = some 7 := by decide +kernel
  rw [this] at h
  cases h
  decide +kernel

/-- The rig with its DRAM part changed. -/
def withDram (d : Dram) : State := { rig with dram := { d with chans := rig.dram.chans } }

/-- Two channels alone, with nothing in them. -/
def bare : State := { dram := { chans := [(0, { st := 3 }), (12, { st := 3 })] } }

/-- R268: a read of a tile that channel 0, which retires, still holds moves it to channel 12, its new home. -/
theorem test_demand_relocation :
    let s : State := { bare with
      dram := { bare.dram with chans := [(0, { st := 4 }), (12, { st := 3 })], retiring := some (0, 0xB0), step := 4 }
      regions := [(7, { region with cls := 3, chans := [12] })], ferry := { tags := [(0, { st := 4, home := 0 })] } }
    homeOf s 0 = 0 ∧ homeOf (tryAccess (request 0 .devRead) s).1 0 = 12 := by
  decide +kernel

theorem witness_dram_maintenance :
    chanWorks rig 0 = true ∧ orgTwoRanks (chanOf rig 0).org = true ∧ 127 < 128 ∧ 0 < [(90 : Int)].length
    ∧ Claims.Runs .DRAM_RETIRE admin rig ∧ (chanOf rig 0).st = 3 ∧ 1 < (inService rig).length ∧ rig.dram.retiring = none ∧ rig.dram.queue = [] ∧ (chanOf rig 23).st ≠ 3
    ∧ (withDram { queue := [(0, 0xB0)] }).dram.queue = [(0, 0xB0)] ∧ (withDram { retiring := some (0, 0xB0), step := 5 }).dram.step = 5
    ∧ (∃ k ∈ inService rig, k ≠ 0 ∧ k % 2 = 0 % 2)
    ∧ ((chanOf bare 0).st = 3 ∧ shadowed bare 0 = true ∧ (∃ k ∈ inService bare, k ≠ 0) ∧ bare.ferry.tags = [] ∧ bare.regions = [] ∧ bare.ferry.crossings = [] ∧ bare.jobs.jobs = [] ∧ Claims.Calm bare
      ∧ planeState bare 1 = 1 ∧ bare.errs.log.length < 4000)
    ∧ Claims.Runs .DRAM_LOG_CLEAR admin rig := by
  unfold Claims.Runs Claims.Calm; decide +kernel

/-- Flash with a crossing of tile 0 and bands. -/
def flashy (cs : List Crossing) (far : Far) (f : Flash) : State :=
  { rig with ferry := { tags := [(0, { st := 2 })], far := [(0, far)], crossings := cs }, flash := { f with chans := [(0, { st := 3 }), (1, { st := 3 }), (2, { st := 3 })] } }

theorem witness_far_reads :
    (let c := crossing .promote 0 15
     let s := flashy [c] { kind := 1, slot := 0 } { bands := [(0, { use := 1, prog := [0], parity := [2] })] }
     crossingOf s 0 = some c ∧ slotsNeeded c ≤ c.held ∧ (farOf s 0).kind = 1 ∧ bit c.placed 15 = false ∧ c.rebuilding = none ∧ (flashOf s (farOf s 0).chan).st = 3
      ∧ rowRebuilds s (farOf s 0).slot = true ∧ (farOf s 0).chan < 32)
    ∧ (let c := { crossing .promote 0 15 with rebuilding := some 15 }
       let s := flashy [c] { kind := 1, slot := 0 } {}
       Claims.Calm s ∧ crossingOf s 0 = some c ∧ 15 < 16 ∧ c.placed ||| 2 ^ 15 ≠ 65535 ∧ (tagOf s 0).st = 2)
    ∧ 31 < 32 ∧ (flashOf rig 0).st = 3 := by
  unfold Claims.Calm; decide +kernel

theorem witness_flash :
    (let s := flashy [] {} { openLog := [(0, some 5)], bands := [(5, { use := 1, row := 3, prog := [49], rowStart := some 0 })] }
     tget none s.flash.openLog 0 = some 5 ∧ openData s 0 = none ∧ (bandOf s 5).use = 1 ∧ (bandOf s 5).rowStart.isSome = true)
    ∧ (let s := flashy [] { kind := 1, slot := 5 * 1024 } { blockMap := [(0, some 5)], reclaiming := [(0, some 5)], bands := [(5, { use := 2, parity := [9] }), (9, { use := 2 })] }
       tget none s.flash.merging 0 = none ∧ nextMerge s 0 = some 0 ∧ openData s 0 = some 9 ∧ (emptyMembers s 9).head? = some 1)
    ∧ (let s := flashy [] { kind := 1, inLog := true } { merging := [(0, some ⟨0, 7⟩)] }
       tget none s.flash.merging 0 = some ⟨0, 7⟩ ∧ s.ferry.misses = [])
    ∧ (let s := { flashy [] {} { bands := [(5, { use := 1 })], openLog := [(0, some 6)] } with regs := [(objKey .FAR_FREE_BANDS_LOW 0, 262143)] }
       tget none s.flash.reclaiming 0 = none ∧ erasedBands s 0 < rget .FAR_FREE_BANDS_LOW 0 s ∧ reclaimable s 0 = [5]
        ∧ (liveTiles s (fun p => placeBand p == 5)).filter (fun t => (farOf s t).inLog) = [])
    ∧ (let s := flashy [] {} { bands := [(5, { use := 1, erases := 4 })], reclaiming := [(0, some 5)] }
       tget none s.flash.reclaiming 0 = some 5 ∧ bandLive s 5 = 0)
    ∧ 1048576 ≤ (flashy [] {} { sinceCkpt := 1048576 }).flash.sinceCkpt := by
  decide +kernel

/-- Flash with three channels and no capacity exposed, so that a retirement passes no floor. -/
def spare (f : Flash) : State := flashy [] {} { f with exposed := 0 }

theorem witness_flash_service :
    rig.boot.held = 0 ∧ (flashOf rig 0).st = 3 ∧ rig.ferry.crossings = [] ∧ rig.ferry.far = [] ∧ rig.ferry.misses = []
    ∧ Claims.Runs .FLASH_RETIRE admin (spare {}) ∧ (flashOf (spare {}) 0).st = 3 ∧ passesFloor (spare {}) 0 = false ∧ (spare {}).flash.retiring = none
    ∧ (spare {}).flash.queue = [] ∧ (flashOf (spare {}) 31).st ≠ 3 ∧ Claims.Runs .FLASH_RETIRE admin rig
    ∧ (let s := spare { retiring := some (0, 0xB1) }
       s.flash.retiring = some (0, 0xB1) ∧ s.flash.queue = [] ∧ liveTiles s (fun p => placeChan p == 0) = [] ∧ blocksOn s 0 = [])
    ∧ (let s := spare { queue := [(0, 0xB1)] }
       s.flash.retiring = none ∧ s.flash.queue = (0, 0xB1) :: [] ∧ (flashOf s 0).st = 3 ∧ passesFloor s 0 = false) := by
  unfold Claims.Runs; decide +kernel


/-! ## Host links and mailboxes -/

/-- Link 0 in the state `l` with its logical device and agent as they were. -/
def linked (l : Link) : State := { rig with hosts := { rig.hosts with links := [(0, l)] } }

/-- Link 0 trains and logical device 1 has not been in either mode. -/
def training : State :=
  { linked { st := 1 } with regions := [], lds := [(1, { enabled := true, agent := 3, berth := 2, coh := 0 })], hosts := { links := [(0, { st := 1 })], opened := [0] } }

theorem witness_links :
    (linkThere training 0 = true ∧ linkState training 0 = 1 ∧ bit training.clk.hpxUnlocked 0 = false ∧ 2 ≤ rget .HP_RATE_MAX 0 training ∧ 8 ≤ (linkLanes training 0).2
      ∧ ldsOnLink training 0 = [1] ∧ (ldOf training 1).coh = 0 ∧ (agentOf training (ldOf training 1).agent).st = 1 ∧ training.regions = []
      ∧ (ldOf training 1).offered = [] ∧ (ldOf training 1).accepted = [])
    ∧ (linkServes rig 0 = true ∧ rig.meters.held = [] ∧ ldsOnLink rig 0 = [1] ∧ (agentOf rig (ldOf rig 1).agent).st = 1 ∧ rig.mf.waits = []
      ∧ linesWhere rig (fun _ e => owesAnswer e (ldOf rig 1).agent) = [])
    ∧ (linkOf rig 0).st = 2 ∧ (linkOf (linked { st := 4, upState := 3 }) 0).rateDue = false ∧ (linkOf (linked { st := 4, upState := 3 }) 0).badLanes = []
    ∧ 0 < (linkOf (linked { st := 4, upState := 2, rate := 2, rateDue := true }) 0).rate
    ∧ linkThere training 0 = true ∧ linkServes training 0 = false ∧ (linkLanes rig 0).1 ≤ 7 ∧ 7 < (linkLanes rig 0).1 + (linkLanes rig 0).2
    ∧ (bucketOf rig 0x20 7).held = false ∧ (bucketOf rig 0x20 7).level < 63 := by
  decide +kernel

/-- Logical device 1 with decoder 7 not committed. -/
theorem witness_decoders :
    (ldOf rig 1).enabled = true ∧ (tget {} (ldOf rig 1).decoders 7).committed = false ∧ (tget {} (ldOf rig 1).decoders 1).committed = false
    ∧ decoderFits rig 1 1 (2 ^ 30) (2 ^ 30) 0 1 = true
    ∧ decoderFits rig 1 7 (2 ^ 30) 5 0 1 = false ∧ (tget {} (ldOf rig 1).decoders 0).committed = true ∧ (tget {} (ldOf rig 1).decoders 0).clearing = false
    ∧ (ldOf { rig with lds := [(1, { enabled := true, agent := 3, berth := 2, coh := 1, decoders := [(0, ⟨0, 2 ^ 30, 0, true, false, false⟩)] })] } 1).coh ≠ 2
    ∧ (agentOf rig (ldOf rig 1).agent).st = 1 ∧ holdsLines rig (ldOf rig 1).agent = false ∧ (∀ h ∈ rig.meters.held, heldLd h ≠ 1) := by
  decide +kernel

/-- A mailbox command of logical device 1 for the device's set and for the fabric manager's. -/
def mbox (fm : Bool) : MboxReq := ⟨1, fm⟩

/-- A mailbox with one record of a memory error in its failure log. -/
def record : ErrRec := ⟨0xA0, 0, 3, 7, 2, false, true, 9, 5, 0⟩
def boxed (m : Mbox) : State :=
  { rig with hosts := { rig.hosts with mboxes := [(1, m)] }, mf := { rig.mf with deadLog := [⟨5, 3, 2, 9, 7⟩] },
             tack := { sessions := [(3, some { carrier := 2, src := 1, live := true, role := 2 })] } }

theorem witness_mailbox_reads :
    mboxServed (mbox true) rig = true ∧ mboxServed (mbox false) rig = true
    ∧ (let s := boxed { events := [(1, false, record)] }
       mboxServed (mbox false) s = true ∧ 2 < 5 ∧ (mboxOf s 1).events.filter (fun e => eventLog e == 2) = [(1, false, record)]
        ∧ (poisonRanges s).filter (fun p => decide (320 < p.1 + p.2 * 64) && decide (p.1 < 320 + 1) && (acceptedRegion s 1 (p.1 / 64)).isSome) = [(320, 1)]
        ∧ adminOnMbox s 1 = true) := by
  decide +kernel

/-- Logical device 1 with an offered region 8 and an asked region 7. -/
def offering : State :=
  { rig with lds := [(1, { enabled := true, agent := 3, berth := 2, coh := 1, offered := [8], accepted := [7], asked := [7] })] }

theorem witness_mailbox_acts :
    (let s := { linked { st := 0 } with lds := [(0, { berth := 2 }), (1, { enabled := true, agent := 3, berth := 2, coh := 2 })] }
     mboxServed (mbox true) s = true ∧ linkLds s 1 = 0 :: (linkLds s 1).tail ∧ (ldOf s 0).enabled = false ∧ (ldOf s 0).berth ≠ 0xFF
      ∧ (s.lds.filter (fun p => p.2.enabled)).length < 64 ∧ freeAgent s = some 0 ∧ (linkOf s (linkOfLd s 0)).st = 0)
    ∧ (mboxServed (mbox false) offering = true ∧ 8 ∈ (ldOf offering 1).offered ∧ 7 ∈ (ldOf offering 1).accepted ∧ 7 ∈ (ldOf offering 1).asked
      ∧ (ldOf offering 1).coh ≠ 2)
    ∧ (let s := { boxed { fwParts := some [(0, [1])] } with fw := { banks := [(5, ⟨true, 0x02030001, 0, 0, 0x01020000, []⟩)] } }
       mboxServed (mbox false) s = true ∧ 4 < 5 ∧ adminOnMbox s 1 = true ∧ (mboxOf s 1).fwParts = some [(0, [1])]
        ∧ activateStatus ([2, 3, 4, 5].filter (bit 4)) s = 0)
    ∧ (let s := { rig with regs := [(objKey .LC_STATE 0, 1)] }
       mboxServed (mbox false) s = true ∧ rget .LC_STATE 0 s = 1 ∧ (berthOf s (ldOf s 1).berth).conf = false ∧ s.berths.confDevice = false
        ∧ poisonTarget s 1 64 = true)
    ∧ mboxServed (mbox false) rig = true ∧ rget .LC_STATE 0 rig = 2 ∧ poisonTarget rig 1 64 = true := by
  decide +kernel

/-! ## Tack and the diagnostic window -/

/-- A message without a tag. -/
def tackBytes (op session seq : Nat) (payload : List Byte) : List Byte := tackHeader op session seq payload.length 0 0 ++ payload

/-- What a receiver reads in it. -/
def tackMsg (op session seq : Nat) (payload : List Byte) : TackMsg := ⟨1, op, session, seq, payload.length, 0, 0, payload, []⟩

/-- From logical device 1's mailbox, and over MCTP. -/
def mail (bytes : List Byte) : TackIn := ⟨2, 1, bytes⟩

/-- A live vendor's session of logical device 1, opened without a tag. -/
def session5 : Session := { carrier := 2, src := 1, role := 3, secure := true, live := true, tagged := false, h := 9 }
def sessions (x : Session) : State := { rig with tack := { sessions := [(5, some x)] } }

/-- The message of operation `op` with SEQ 17, the last inside the window. -/
def asks (op : Nat) (payload : List Byte) (x : Session) : Prop :=
  let m := mail (tackBytes op 5 17 payload)
  Claims.InSession m (tackMsg op 5 17 payload) x (sessions x) ∧ Claims.Delivered m (tackMsg op 5 17 payload) op (sessions x)

def segment : Seg := ⟨1, 0x2402, 1, 1440, 1432, [(0, List.replicate 1432 0)]⟩
def segmentDone : Seg := ⟨1, 0x2402, 1, 8, 8, [(0, [1, 2, 3, 4, 5, 6, 7, 8])]⟩

theorem witness_tack_requests :
    asks 4 [] session5 ∧ asks 5 [] session5
    ∧ (let p : List Byte := [0x12, 0x01, 0x04, 0, 0, 0, 0, 1]
       let s := sessions { session5 with h := 17 }
       let w : Who := ⟨5, 3, true⟩
       asks 0x10 p session5 ∧ findObj (beNat (p.take 2)) (beNat ((p.drop 2).take 1)) = some .EVENT_HEARTBEAT ∧ readStatus .EVENT_HEARTBEAT w s = 0 ∧ leAt p 3 1 = 0
        ∧ 1 ≤ (getBytes .EVENT_HEARTBEAT w s).1.length)
    ∧ (let p : List Byte := [0x30, 0x00, 0x01, 0, 2]
       let s := sessions { session5 with h := 17 }
       let w : Who := ⟨5, 3, true⟩
       asks 0x11 p session5 ∧ findObj (beNat (p.take 2)) (beNat ((p.drop 2).take 1)) = some .BERTH_SELECT ∧ accessStatus .BERTH_SELECT w true s = 0 ∧ leAt p 3 1 = 0 ∧ segOpen .BERTH_SELECT s = false
        ∧ (runSet .BERTH_SELECT w (p.drop 4) s).1 = some 0)
    ∧ (let p : List Byte := [0x12, 0x01, 0x03, 0]
       asks 0x12 p session5 ∧ nextObj ⟨5, 3, true⟩ 0x120103 (sessions { session5 with h := 17 }) = some .EVENT_HEARTBEAT ∧ leAt p 3 1 = 0)
    ∧ (let p : List Byte := [0x24, 0x02, 1, 0, 0, 0, 5, 0xA0, 0x05, 0x98, 0, 0]
       let s := sessions { session5 with h := 17 }
       asks 0x20 p session5 ∧ findObj (beNat (p.take 2)) (beNat ((p.drop 2).take 1)) = some .FW_STAGE ∧ accessStatus .FW_STAGE ⟨5, 3, true⟩ true s = 0
        ∧ beNat ((p.drop 8).take 2) = 1432 ∧ Obj.FW_STAGE.marks.contains .seg = true ∧ segOpen .FW_STAGE s = false)
    ∧ (let p : List Byte := [0, 1, 0, 0, 0, 0, 0x05, 0x98, 1, 2, 3, 4, 5, 6, 7, 8]
       let x := { session5 with seg := some segment }
       asks 0x21 p x ∧ segment.tid = beNat (p.take 2) ∧ beNat ((p.drop 4).take 4) % segment.size = 0 ∧ beNat ((p.drop 4).take 4) < segment.total
        ∧ (p.drop 8).length = min segment.size (segment.total - beNat ((p.drop 4).take 4)))
    ∧ (let data : List Byte := [1, 2, 3, 4, 5, 6, 7, 8]
       let p : List Byte := [0, 1, 0, 0] ++ natBE 4 (crc32c data)
       let x := { session5 with seg := some segmentDone }
       asks 0x22 p x ∧ segReceived segmentDone = segmentDone.total ∧ segmentDone.parts.flatMap (·.2) = data ∧ crc32c data = beNat ((p.drop 4).take 4)
        ∧ (runSet .FW_STAGE ⟨5, 3, true⟩ data (sessions { session5 with h := 17 })).1 = some 0) := by
  unfold asks Claims.InSession Claims.Delivered
  refine ⟨?_, ?_, ?_, ?_, ?_, ?_, ?_, ?_⟩ <;> decide +kernel

/-- HELLO of an operator over MCTP with no session open. -/
def hello : TackIn := ⟨1, 9, tackBytes 1 0 0 (1 :: 0 :: List.replicate 32 7)⟩

/-- A session opened by such a HELLO, with the operator's credential set. -/
def opening : Session := { carrier := 1, src := 9, role := 1, cnonce := List.replicate 32 7, dnonce := List.replicate 32 8 }
def proving : State := { sessions opening with regs := [(objKey .CRED_OPERATOR_NS 0, 12345), (objKey .LC_STATE 0, 2)] }
def proof (key : List Byte) : List Byte := hmac key (authMessage 5 opening)

theorem hmac_length (k m : List Byte) : (hmac k m).length = 48 := by simp [hmac]

theorem tackTag_length (k m : List Byte) : (tackTag k m).length = 16 := by simp [tackTag, hmac]

theorem parse_auth (p : List Byte) (h : p.length = 48) : parseTack (tackHeader 3 5 0 48 0 0 ++ p) = some ⟨1, 3, 5, 0, 48, 0, 0, p, []⟩ := by
  have e : tackHeader 3 5 0 48 0 0 = [0x54, 0x4B, 1, 3, 0, 0, 0, 5, 0, 0, 0, 0, 0, 48, 0, 0] := by decide +kernel
  rw [e]
  have e0 : beNat [0#8] = 0 := by decide +kernel
  have e2 : bit 0 2 = false := by decide +kernel
  simp [parseTack, h, e0, e2]
  refine ⟨by decide +kernel, by decide +kernel, by decide +kernel, by decide +kernel, by decide +kernel, ?_⟩
  first
  | decide +kernel
  | exact ⟨by decide +kernel, List.take_of_length_le (by omega)⟩

theorem witness_tack_sessions :
    (let t := tackMsg 1 0 0 (1 :: 0 :: List.replicate 32 7)
     Claims.Delivered hello t 1 rig ∧ helloBarred hello rig = false ∧ formatOk t = true ∧ t.len = 34 ∧ rget .LC_STATE 0 rig ≠ 4 ∧ leAt t.payload 0 1 = 1 ∧ leAt t.payload 1 1 ≤ 1
      ∧ sessionsOn 1 rig < sessionLimit 1 rig ∧ bootstraps hello 1 false rig = false ∧ sessionOf rig 1 = none ∧ (∀ k, k < 1 → k ≠ 0 → sessionOf rig k ≠ none))
    ∧ (∀ p : List Byte, p.length = 48 → let m : TackIn := ⟨1, 9, tackHeader 3 5 0 48 0 0 ++ p⟩
       Claims.Delivered m ⟨1, 3, 5, 0, 48, 0, 0, p, []⟩ 3 proving ∧ formatOk ⟨1, 3, 5, 0, 48, 0, 0, p, []⟩ = true ∧ ownsSession m opening = true)
    ∧ (sessionOf proving 5 = some opening ∧ opening.live = false ∧ rget (credentialFor opening.role (opening.world == 1)) 0 proving ≠ 0 ∧ roleOpen opening.role proving = true)
    ∧ (∀ k, (proof k).length = 48 ∧ ((proof k).map (· + 1)).length = 48 ∧ (proof k).map (· + 1) ≠ proof k) := by
  refine ⟨by unfold Claims.Delivered; decide +kernel, ?_, by decide +kernel, ?_⟩
  · intro p h
    exact ⟨⟨parse_auth p h, rfl, show carrierOpen ⟨1, 9, []⟩ proving = true by decide +kernel⟩, by simp [formatOk, h]; decide +kernel, rfl⟩
  · intro k
    have h := hmac_length k (authMessage 5 opening)
    refine ⟨h, by simpa [proof] using h, ?_⟩
    unfold proof
    intro e
    match hmac k (authMessage 5 opening), h, e with
    | [], h, _ => simp at h
    | b :: bs, _, e =>
      simp only [List.map_cons, List.cons.injEq] at e
      exact absurd e.1 ((by decide +kernel : ∀ c : Byte, c + 1 ≠ c) b)

/-- A pair frame of the management link: its tag is the one the pair key gives, or none does. -/
def paired : State :=
  { rig with
    regs := [(objKey .MG_LINK 0, 1), (objKey .LC_STATE 0, 2), (objKey .PAIR_SECRET 0, 77)]
    tack := { partnerBoot := 4, partnerSeq := 8 } }
def frame (op flags seq : Nat) (payload tag : List Byte) : TackIn := ⟨0, 0, tackHeader op 4 seq payload.length flags 0 ++ payload ++ tag⟩
def frameMsg (op flags seq : Nat) (payload tag : List Byte) : TackMsg := ⟨1, op, 4, seq, payload.length, flags, 0, payload, tag⟩
def frameTag (op flags seq : Nat) (payload : List Byte) : List Byte :=
  let h := tackHeader op 4 seq payload.length flags 0
  tackTag (pairKey 3 ['M', 'G', 'M', 'T'] paired) (h.take 2 ++ natBE 1 1 ++ h.drop 3 ++ payload)

theorem parse_frame (op flags : Nat) (payload tag : List Byte) (h : tag.length = 16)
    (hop : (op, flags, payload) ∈ [(0x40, 4, List.replicate 32 (0 : Byte)), (0x41, 4, List.replicate 40 0), (0x41, 5, List.replicate 40 0)]) :
    parseTack (frame op flags 9 payload tag).bytes = some (frameMsg op flags 9 payload tag) := by
  have hf : ∀ b : List Byte, b.length = 16 → bit (beNat ((b.drop 14).take 1)) 2 = true → beNat (b.take 2) = 0x544B →
      ∀ p : List Byte, parseTack (b ++ p ++ tag) = some ⟨beNat ((b.drop 2).take 1), beNat ((b.drop 3).take 1), beNat ((b.drop 4).take 4), beNat ((b.drop 8).take 4),
        beNat ((b.drop 12).take 2), beNat ((b.drop 14).take 1), beNat ((b.drop 15).take 1), p, tag⟩ := by
    intro b hb h2 hm p
    have d (i n : Nat) (hi : i + n ≤ 16) : ((b ++ p ++ tag).drop i).take n = (b.drop i).take n := by
      rw [List.append_assoc, List.drop_append_of_le_length (by omega), List.take_append_of_le_length (by simp [hb]; try omega)]
    have hd : (b ++ p ++ tag).drop 16 = p ++ tag := by
      rw [List.append_assoc, List.drop_append_of_le_length (by omega), List.drop_of_length_le (by omega), List.nil_append]
    have hz := d 0 2 (by omega)
    simp only [List.drop_zero] at hz
    have hl : ¬ ((b ++ p ++ tag).length < 16) := by simp [hb]
    unfold parseTack
    simp only [List.drop_zero, hz, d 2 1 (by omega), d 3 1 (by omega), d 4 4 (by omega), d 8 4 (by omega), d 12 2 (by omega), d 14 1 (by omega), d 15 1 (by omega), hd, hm, h2, hl]
    simp [h]
  simp only [List.mem_cons, Prod.mk.injEq, List.not_mem_nil, or_false] at hop
  obtain ⟨rfl, rfl, rfl⟩ | ⟨rfl, rfl, rfl⟩ | ⟨rfl, rfl, rfl⟩ := hop <;>
    (unfold frame frameMsg
     rw [hf _ (by decide +kernel) (by decide +kernel) (by decide +kernel)]
     congr 2 <;> decide +kernel)

theorem witness_pair_frames (op flags : Nat) (payload tag : List Byte)
    (hop : (op, flags, payload) ∈ [(0x40, 4, List.replicate 32 (0 : Byte)), (0x41, 4, List.replicate 40 0), (0x41, 5, List.replicate 40 0)]) (h : tag.length = 16) :
    rget .PAIR_SECRET 0 paired ≠ 0 ∧ Claims.Delivered (frame op flags 9 payload tag) (frameMsg op flags 9 payload tag) op paired
    ∧ (tag = frameTag op flags 9 payload → pairFrameOk (frameMsg op flags 9 payload tag) paired = true) := by
  refine ⟨by decide +kernel, ⟨parse_frame op flags payload tag h hop, rfl, show carrierOpen ⟨0, 0, []⟩ paired = true by decide +kernel⟩, ?_⟩
  simp only [List.mem_cons, Prod.mk.injEq, List.not_mem_nil, or_false] at hop
  obtain ⟨rfl, rfl, rfl⟩ | ⟨rfl, rfl, rfl⟩ | ⟨rfl, rfl, rfl⟩ := hop <;>
    (intro ht
     subst ht
     unfold pairFrameOk frameMsg
     simp only [frameTag]
     simp [tackTag_length]
     decide +kernel)

/-- The event destinations on and the management link heard or silent. -/
theorem witness_event_heartbeat :
    bookServed rig = true ∧ rget .EVENT_HEARTBEAT 0 rig ≠ 0 ∧ rig.clk.nixSilent = false ∧ { rig with clk := { nixSilent := true } }.clk.nixSilent = true
    ∧ (∀ o ∈ [Obj.EVENT_DEST_0, .EVENT_DEST_1], bit (rget o 0 { rig with regs := [(objKey o 0, 2 ^ 144)] }) 144 = true) := by
  decide +kernel

/-- The diagnostic window on the last 64 bytes of core 1199's local store, beyond it, and on a core of a confidential berth's panel. -/
def diag (addr : Nat) (conf : Bool) : State :=
  { rig with
    regs := [(objKey .LC_STATE 0, 1), (objKey .DIAG_ADDR 0, 2 ^ 60 * 2 + 2 ^ 48 * 1199 + addr)]
    berths := { confDevice := conf } }

theorem witness_diagnostics :
    bookServed (diag 131008 false) = true ∧ (diagAddr (diag 131008 false)).space = 2 ∧ diagStatus vendor false (diag 131008 false) = 0
    ∧ diagStatus vendor true (diag 131008 false) = 0 ∧ (List.replicate 64 (7 : Byte)).length = 64
    ∧ (∀ w ∈ [false, true], accessStatus .DIAG_DATA vendor w (diag 131008 true) = 0 ∧ accessStatus .DIAG_DATA vendor w (diag 131072 false) = 0)
    ∧ diagInRange (diag 131008 true) (diagAddr (diag 131008 true)) = true ∧ diagConfidential (diag 131008 true) (diagAddr (diag 131008 true)) = true
    ∧ diagInRange (diag 131072 false) (diagAddr (diag 131072 false)) = false := by
  decide +kernel

/-! ## The Seam -/

/-- The partner's UNIT and another one, neither of which is this unit's. -/
def partner : Nat := if Config.unitId.toNat = 1 then 2 else 1
def stranger : Nat := if Config.unitId.toNat = 3 then 4 else 3

theorem partner_ne : partner ≠ 0 ∧ partner ≠ Config.unitId.toNat ∧ stranger ≠ partner ∧ stranger ≠ Config.unitId.toNat := by
  unfold partner stranger
  split <;> split <;> omega

/-- One Seam port in the state `q`, of a unit whose region 7 is tandem; the pair in the state `p`, with that partner configured. -/
def seamed (q : SeamPort) : State := { rig with seam := { ports := [(1, q)] } }
def mated (q : SeamPort) (p : Pair) : State :=
  { rig with
    regs := [(objKey .LC_STATE 0, 2), (objKey .PAIR_KEY_MATCH 0, 1), (objKey .PAIR_PARTNER_UNIT 0, partner)]
    regions := [(7, { region with cls := 2 })], seam := { ports := [(0, { q with st := 3, width := 16 })] }, pair := p }

/-- A map with eight lanes left, and one with seven. -/
def eight : List Nat := List.range 8 ++ List.replicate 10 31
def seven : List Nat := List.range 7 ++ List.replicate 11 31

theorem own_unit (s : State) (h : rget .LC_STATE 0 s ≠ 0) : ownUnit s = Config.unitId.toNat := by
  unfold ownUnit unitId
  exact congrArg BitVec.toNat (if_neg h)

theorem partner_unit (s : State) (h : s.regs = [(objKey .LC_STATE 0, 2), (objKey .PAIR_KEY_MATCH 0, 1), (objKey .PAIR_PARTNER_UNIT 0, partner)]) :
    partnerUnit s = partner := by
  unfold partnerUnit rget
  rw [h]
  simp [tget, objKey, Obj.LC_STATE, Obj.PAIR_KEY_MATCH, Obj.PAIR_PARTNER_UNIT]

theorem pair_configured (s : State) (h : s.regs = [(objKey .LC_STATE 0, 2), (objKey .PAIR_KEY_MATCH 0, 1), (objKey .PAIR_PARTNER_UNIT 0, partner)]) :
    pairConfigured s = true := by
  have e : pairConfigured s = (partnerUnit s != 0) := rfl
  rw [e, partner_unit s h]
  exact bne_iff_ne.2 partner_ne.1

theorem witness_training :
    (∀ st ∈ [1, 2, 3, 4, 5, 7], (seamOf (seamed { st := st }) 1).st = st) ∧ rget .SEAM_ENABLE 1 (seamed {}) = 1
    ∧ min (goodLanes eight) (goodLanes (List.range 18)) = 8 ∧ min (goodLanes (List.range 18)) (goodLanes (List.range 18)) = 18
    ∧ min (goodLanes seven) (goodLanes eight) < 8 ∧ pairConfigured (seamed { st := 2 }) = false ∧ ownUnit (seamed { st := 2 }) = Config.unitId.toNat
    ∧ (stranger ≠ Config.unitId.toNat ∧ stranger ≠ partner ∧ partner ≠ Config.unitId.toNat)
    ∧ (let s := { mated {} {} with seam := { ports := [(1, { st := 2 })] } }
       (seamOf s 1).st = 2 ∧ ownUnit s = Config.unitId.toNat ∧ pairConfigured s = true ∧ partnerUnit s = partner ∧ servesTandem s = false)
    ∧ (let s := { rig with seam := { ports := [(0, { st := 4 }), (1, { st := 3 })] } }
       (seamOf s 1).st = 3 ∧ portUp s (1 - 1) = true ∧ (seamOf s 1).unanswered = [] ∧ (seamOf s 1).outbox = []) := by
  refine ⟨by decide +kernel, by decide +kernel, by decide +kernel, by decide +kernel, by decide +kernel, by decide +kernel, own_unit _ (by decide +kernel), ?_, ?_,
    by decide +kernel⟩
  · exact ⟨partner_ne.2.2.2, partner_ne.2.2.1, partner_ne.2.1⟩
  · exact ⟨by decide +kernel, own_unit _ (by decide +kernel), pair_configured _ rfl, partner_unit _ rfl, by decide +kernel⟩

/-- A frame as it crosses the Seam: its header, a payload of 240 bytes, and its check. -/
def wire (kind vc fseq : Nat) (sop eop : Bool) (ncell used : Nat) (payload : List Byte) : List Byte :=
  let h := natLE 8 (kind + vc * 2 ^ 4 + fseq * 2 ^ 6 + 2 ^ 32 * sop.toNat + 2 ^ 33 * eop.toNat + used * 2 ^ 34 + ncell * 2 ^ 42)
  let b := h ++ payload ++ List.replicate (240 - payload.length) 0
  b ++ natLE 8 (crc64 b)

/-- A CTRL frame with and without credits, a cell of a MACK, and a frame of a long message: its first, and a whole MPOISON and MWRITE. -/
def ctrl (credits : Bool) : List Byte := wire 3 0 0 false false 0 0 (natLE 8 (5 + 2 ^ 48 * credits.toNat))
def cellFrame : List Byte := wire 1 1 0 false false 1 48 (natLE 8 (3 + 2 ^ 5 * 9) ++ List.replicate 40 0)
def firstFrame : List Byte := wire 2 2 0 true false 0 240 (List.replicate 240 1)
def poisonFrame : List Byte := wire 2 2 0 true true 0 16 (natLE 16 (2 + 9 * 2 ^ 5 + 0 * 2 ^ 21 + 5 * 2 ^ 48 + 7 * 2 ^ 96))
def writeFrame : List Byte := wire 2 2 0 true true 0 80 (natLE 16 (1 + 9 * 2 ^ 5 + 63 * 2 ^ 21 + 5 * 2 ^ 48 + 7 * 2 ^ 96) ++ List.replicate 64 1)

def good (f : List Byte) (kind : Nat) : Prop := frameGood f = true ∧ (frameHead f).kind = kind ∧ (frameHead f).ackv = false ∧ (frameHead f).nak = false

theorem witness_frames :
    portUp (mated {} {}) 0 = true ∧ (mated {} {}).seam.spareDue = [] ∧ (mated {} {}).pair.waiting = []
    ∧ good (wire 0 0 0 false false 0 0 []) 0 ∧ good (ctrl true) 3 ∧ good (ctrl false) 3 ∧ good cellFrame 1 ∧ good firstFrame 2 ∧ good poisonFrame 2 ∧ good writeFrame 2
    ∧ (seamOf (mated {} {}) 0).txq = [] ∧ bit (leNat (((ctrl true).drop 8).take 8)) 48 = true ∧ bit (leNat (((ctrl false).drop 8).take 8)) 48 = false
    ∧ (∀ f ∈ [cellFrame, firstFrame, poisonFrame, writeFrame], (frameHead f).fseq = (seamOf (mated {} {}) 0).rxNext ∧ (frameHead f).fseq ≠ (seamOf (mated { rxNext := 1 } {}) 0).rxNext)
    ∧ (seamOf (mated {} {}) 0).spoiled = none ∧ (seamOf (mated {} {}) 0).unacked + 1 < rget .SEAM_ACK_COALESCE 0 (mated {} {})
    ∧ (frameHead cellFrame).ncell = 1 ∧ (frameHead firstFrame).sop = true ∧ (frameHead firstFrame).eop = false ∧ (frameHead poisonFrame).eop = true
    ∧ (let body (f : List Byte) := (f.drop 8).take (frameHead f).used
       let head := leNat ((body writeFrame).take 16)
       bits (leNat ((body cellFrame).take 8)) 0 5 = 3 ∧ bits (leNat ((body poisonFrame).take 16)) 0 5 = 2 ∧ (body poisonFrame).length = 16 ∧ bits head 0 5 = 1
        ∧ (bits head 21 12 + 1) % 64 = 0 ∧ (body writeFrame).length = 16 + 64 * ((bits head 21 12 + 1) / 64))
    ∧ frameGood [] = false ∧ (seamOf (mated {} {}) 0).nakOut = false := by
  unfold good; decide +kernel

theorem witness_frames_partner : msgTakes (mated {} {}) 3 1 = true ∧ msgTakes (mated {} {}) 1 2 = true ∧ msgTakes (mated {} {}) 2 2 = true ∧ pairConfigured (mated {} {}) = true := by
  have h : pairConfigured (mated {} {}) = true := pair_configured _ rfl
  simp [msgTakes, h, msgVc]

theorem witness_replay :
    (seamOf (mated { unacked := 31 } {}) 0).unacked = 31
    ∧ (let f : SeamFrame := ⟨1, 1, 5, false, false, 1, 48, []⟩
       (seamOf (mated { replay := [(f, 3)] } {}) 0).replay = [(f, 3)])
    ∧ (seamOf (mated { nakOut := true } {}) 0).nakOut = true := by
  decide +kernel

/-- Lane 15 of port 0 has 31 bad blocks; its replacement is asked for, confirmed by the partner, or copied for the partner. -/
def worn (level : Nat) : State := { mated {} {} with errs := { buckets := [(0x30 * 256 + 15, { level := level })] } }

theorem witness_spares :
    portUp (worn 30) 0 = true ∧ (worn 30).seam.spareDue = [] ∧ (bucketOf (worn 30) 0x30 15).held = false ∧ (bucketOf (worn 30) 0x30 15).level + 1 < 32
    ∧ (let s := worn 31
       let q := seamOf s 0
       q.st = 3 ∧ q.width = 16 ∧ (bucketOf s 0x30 15).held = false ∧ (bucketOf s 0x30 15).level = 31 ∧ q.rxMap.idxOf 15 = 15 ∧ q.rxMap.getD 16 31 < 18
        ∧ q.rxMap.getD 16 31 ∉ q.rxBad ∧ q.swap = none)
    ∧ (let q := seamOf (mated { swap := some ⟨15, 1, 7, false⟩ } {}) 0
       q.swap = some ⟨15, 1, 7, false⟩ ∧ q.copy = none)
    ∧ (let q := seamOf (mated { copy := some (15, 1, 7) } {}) 0
       q.swap = none ∧ q.copy = some (15, 1, 7))
    ∧ (seamOf (seamed { st := 7 }) 1).st = 7
    ∧ (seamOf (mated { loop := some [1, 2] } {}) 0).loop = some [1, 2] ∧ [1, 2] ≠ ([3] : List Byte)
    ∧ portUp (seamed {}) 1 = false := by
  decide +kernel

/-- The message `m` stands first in port 0's inbox, of which it took no frame. -/
def inboxed (m : SeamMsg) (p : Pair) (sm : Seam) : State :=
  let s := mated {} p
  { s with seam := { sm with ports := [(0, { st := 3, width := 16, inbox := [(m, 0)] })] } }

/-- What stands in port 0's inbox is taken as `m`. -/
def takes (mtype : Nat) (m : SeamMsg) (s : State) : State → Prop := fun s1 => takeSeam 0 (fun x => x.mtype == mtype) s = some (m, s1)
def after (mtype : Nat) (s : State) : State := ((takeSeam 0 (fun x => x.mtype == mtype) s).map (·.2)).getD s

theorem taken (mtype : Nat) (m : SeamMsg) (s : State) (h : (takeSeam 0 (fun x => x.mtype == mtype) s).map (·.1) = some m) : takes mtype m s (after mtype s) := by
  unfold takes after
  cases e : takeSeam 0 (fun x => x.mtype == mtype) s with
  | none => rw [e] at h; cases h
  | some p =>
    rw [e] at h
    obtain ⟨a, b⟩ := p
    simp only [Option.map_some, Option.some.injEq] at h
    subst h
    rfl

def mwrite (line claim : Nat) : SeamMsg := ⟨1, 2, 9, line, 1, claim, List.replicate 64 1⟩
def mpoison : SeamMsg := ⟨2, 2, 9, 5, 1, 4, []⟩

theorem witness_mirror_writes :
    (let s := inboxed (mwrite 5 4) { role := 1, claim := 3 } {}
     takes 1 (mwrite 5 4) s (after 1 s) ∧ writeStatus (mwrite 5 4) (after 1 s) = 0)
    ∧ (let s := inboxed mpoison { role := 1, claim := 3 } {}
       takes 2 mpoison s (after 2 s) ∧ writeStatus mpoison (after 2 s) = 0)
    ∧ (let s := inboxed (mwrite (2 ^ 30) 4) { role := 1, claim := 3 } {}
       takes 1 (mwrite (2 ^ 30) 4) s (after 1 s) ∧ writeStatus (mwrite (2 ^ 30) 4) (after 1 s) ≠ 0) := by
  refine ⟨⟨taken _ _ _ (by decide +kernel), by decide +kernel⟩, ⟨taken _ _ _ (by decide +kernel), by decide +kernel⟩, ⟨taken _ _ _ (by decide +kernel), by decide +kernel⟩⟩

/-- A MACK of a host write of logical device 1 whose local part is done. -/
def mackMsg : SeamMsg := ⟨3, 1, 9, 0, 0, 0, natLE 4 0 ++ natLE 4 3 ++ List.replicate 32 0⟩
def hostWrite : Req := ⟨.host 1 5, some 3, 5, .memWr .a (List.replicate 64 1) false, 2, 0, false, 0, 0, 0, .cmp⟩
def unmacked : State := inboxed mackMsg { role := 1, claim := 4, unmacked := [(0, 9, some hostWrite)] } {}

theorem witness_mack :
    let s1 := after 3 unmacked
    takes 3 mackMsg unmacked s1 ∧ leNat (mackMsg.bytes.take 1) = 0 ∧ s1.pair.unmacked = [(0, mackMsg.tag, some hostWrite)] ∧ hostWrite.src = .host 1 5
      ∧ (ldOf s1 1).enabled = true ∧ agentDead s1 (ldOf s1 1).agent = false ∧ linkServes s1 (linkOfLd s1 1) = true ∧ s1.mf.conflicts = [] ∧ s1.pair.handover = 0
      ∧ s1.seam.claims = [] ∧ beats (leNat ((mackMsg.bytes.drop 4).take 4)) (partnerUnit s1) s1.pair.claim (ownUnit s1) = false := by
  exact ⟨taken _ _ _ (by decide +kernel), by decide +kernel⟩

/-- A FETCH of line 5, its answers, and a fetch of this unit for a lost or damaged line. -/
def fetchMsg : SeamMsg := ⟨4, 0, 9, 0, 0, 0, natLE 8 5 ++ natLE 2 1 ++ List.replicate 30 0⟩
def fdataMsg : SeamMsg := ⟨5, 3, 9, 5, 1, 0, List.replicate 64 1⟩
def fnakMsg : SeamMsg := ⟨6, 1, 9, 0, 0, 0, List.replicate 40 0⟩
def wanted (why : FetchWhy) : Fetch := { port := 0, tag := 9, line := 5, n := 1, want := [5], why := why }

theorem witness_fetches :
    (let s := inboxed fetchMsg { role := 1, claim := 3, partnerClaim := 4 } {}
     takes 4 fetchMsg s (after 4 s) ∧ bits (leNat (fetchMsg.bytes.take 8)) 0 43 = 5 ∧ leNat ((fetchMsg.bytes.drop 8).take 2) = 1 ∧ fetchRefusal (after 4 s) 5 1 = none)
    ∧ (let s := inboxed fetchMsg { role := 0 } {}
       takes 4 fetchMsg s (after 4 s) ∧ fetchRefusal (after 4 s) 5 1 = some 1)
    ∧ (∀ why ∈ [FetchWhy.lost, .repair], let s := inboxed fdataMsg { role := 1 } { fetches := [wanted why] }
       takes 5 fdataMsg s (after 5 s) ∧ (after 5 s).seam.fetches = [wanted why] ∧ (fetchedLine (wanted why) fdataMsg.bytes 5).length = 64 ∧ (after 5 s).mf.waits = [])
    ∧ (let s := inboxed fnakMsg { role := 1 } { fetches := [wanted .repair] }
       takes 6 fnakMsg s (after 6 s) ∧ (after 6 s).seam.fetches = [wanted .repair] ∧ (after 6 s).mf.waits = []
        ∧ containsByReset (after 6 s) (homeOf (after 6 s) (tileOfLine 5)) 5 = false) := by
  refine ⟨⟨taken _ _ _ (by decide +kernel), by decide +kernel⟩, ⟨taken _ _ _ (by decide +kernel), by decide +kernel⟩, ?_, ⟨taken _ _ _ (by decide +kernel), by decide +kernel⟩⟩
  intro why h
  simp only [List.mem_cons, List.not_mem_nil, or_false] at h
  obtain rfl | rfl := h <;> exact ⟨taken _ _ _ (by decide +kernel), by decide +kernel⟩

/-- A claim of the partner on the first span, its answers, and a claim of this unit. -/
def claimMsg (first : Nat) : SeamMsg := ⟨7, 0, 9, 0, 0, 0, natLE 4 4 ++ natLE 8 77 ++ natLE 5 first ++ List.replicate 3 0 ++ natLE 8 1024 ++ List.replicate 12 0⟩
def ackMsg (status : Nat) : SeamMsg := ⟨8, 1, 9, 0, 0, 0, natLE 4 status ++ natLE 4 3 ++ natLE 8 77 ++ List.replicate 24 0⟩
def ours (st : Nat) : Claim := ⟨9, 0, 1024, st⟩

/-- A unit that matches its partner. -/
def matching : Pair := { role := 1, claim := 3, partnerSeen := true, partnerSet := fwSetId rig }

theorem matched (s : State) (h : s.pair = matching) (hf : fwSetId s = fwSetId rig) (h1 : rget .PAIR_KEY_MATCH 0 s = 1) (h2 : rget .FW_STATE 0 s = 0) : pairMatched s = true := by
  simp [pairMatched, fwMatches, h, h1, h2, matching, hf, bit]

theorem witness_claims :
    (∀ first ∈ [0, 16777216], let s := inboxed (claimMsg first) matching {}
       takes 7 (claimMsg first) s (after 7 s) ∧ bits (leNat (((claimMsg first).bytes.drop 12).take 5)) 0 33 = first ∧ leNat (((claimMsg first).bytes.drop 20).take 5) = 1024
        ∧ (after 7 s).seam.answered = [] ∧ rangeTandem (after 7 s) first 1024 = decide (first = 0) ∧ (after 7 s).seam.claims = [] ∧ (after 7 s).pair.role ≠ 3
        ∧ pairMatched (after 7 s) = true)
    ∧ (∀ st ∈ [1, 3], let s := inboxed (ackMsg 1) { role := 3 } { claims := [ours st] }
       takes 8 (ackMsg 1) s (after 8 s) ∧ (after 8 s).seam.claims = [ours st] ∧ leNat ((ackMsg 1).bytes.take 1) = 1 ∧ (after 8 s).pair.role = 3)
    ∧ (let s := inboxed (ackMsg 0) { role := 1 } { claims := [ours 1] }
       takes 8 (ackMsg 0) s (after 8 s) ∧ (after 8 s).seam.claims = [ours 1] ∧ leNat ((ackMsg 0).bytes.take 1) = 0)
    ∧ (let s := mated {} { role := 1, mirror := 2, resync := [7] }
       servesTandem s = true ∧ s.pair.mirror = 2 ∧ 7 ∈ s.pair.resync ∧ s.seam.claims = [] ∧ writesOpen s (7 * 1024) 1024 = false ∧ lowPort s = some 0) := by
  refine ⟨?_, ?_, ⟨taken _ _ _ (by decide +kernel), by decide +kernel⟩, by decide +kernel⟩
  · intro first h
    simp only [List.mem_cons, List.not_mem_nil, or_false] at h
    obtain rfl | rfl := h <;>
      exact ⟨taken _ _ _ (by decide +kernel), by decide +kernel, by decide +kernel, by decide +kernel, by decide +kernel, by decide +kernel, by decide +kernel,
        matched _ (by decide +kernel) (by decide +kernel) (by decide +kernel) (by decide +kernel)⟩
  · intro st h
    simp only [List.mem_cons, List.not_mem_nil, or_false] at h
    obtain rfl | rfl := h <;> exact ⟨taken _ _ _ (by decide +kernel), by decide +kernel⟩

/-! ## Pairs -/

/-- A pair whose partner has the UNIT 77, in the state `p`, with tandem region 7; port 0 is up. -/
def duo (p : Pair) : State := { mated {} p with regs := [(objKey .LC_STATE 0, 2), (objKey .PAIR_KEY_MATCH 0, 1), (objKey .PAIR_PARTNER_UNIT 0, 77)] }

/-- The partner's message, from the role `role` with the claim 9, as a request of type 9 or an answer of type 10. -/
def pairBytes (op role a b : Nat) : List Byte := natLE 1 op ++ natLE 1 role ++ natLE 2 0 ++ natLE 4 9 ++ natLE 8 77 ++ natLE 8 1000 ++ natLE 8 a ++ natLE 8 b
def fromPartner (mtype op role a b : Nat) : SeamMsg := ⟨mtype, mtype - 9, 9, 0, 0, 0, pairBytes op role a b⟩
def asked (m : SeamMsg) (p : Pair) : State :=
  let s := duo p
  { s with seam := { ports := [(0, { st := 3, width := 16, inbox := [(m, 0)] })] } }
def standby : Pair := { role := 2, claim := 3 }

/-- What stands in port 0's inbox is the request `m`, which is taken. -/
def afterReq (op : Nat) (s : State) : State := ((takeSeam 0 (fun x => x.mtype == 9 && (pairMsg x.bytes).op == op) s).map (·.2)).getD s
def reqTaken (op : Nat) (m : SeamMsg) (s : State) : Prop :=
  (takeSeam 0 (fun x => x.mtype == 9 && (pairMsg x.bytes).op == op) s).map (·.1) = some m ∧ (pairMsg m.bytes).op = op
def tandemArg : Nat := creation 2 2

theorem standby_rule (op a b : Nat) (s : State) (h1 : s.pair.role = 2 ∧ (pairMsg (pairBytes op 1 a b)).role = 1)
    (h2 : pairConfigured s = true ∧ (pairMsg (pairBytes op 1 a b)).unit = partnerUnit s) (h3 : beats (pairMsg (pairBytes op 1 a b)).claim (pairMsg (pairBytes op 1 a b)).unit s.pair.claim (ownUnit s) = true) :
    Claims.Standby (pairMsg (pairBytes op 1 a b)) s := ⟨h1, h2, h3⟩

theorem witness_pair_requests :
    (∀ op ∈ [1, 2, 3, 5, 7], let s := asked (fromPartner 9 op 1 0 0) standby
      reqTaken op (fromPartner 9 op 1 0 0) s ∧ Claims.Standby (pairMsg (fromPartner 9 op 1 0 0).bytes) (afterReq op s) ∧ (afterReq op s).pair.waiting = []
        ∧ max (afterReq op s).red.unitCtr (pairMsg (fromPartner 9 op 1 0 0).bytes).claim + 1 < 4294967296)
    ∧ (∀ role ∈ [1, 4], let s := asked (fromPartner 9 4 5 0 0) { role := role, claim := 3 }
       let p := pairMsg (fromPartner 9 4 5 0 0).bytes
       let s1 := afterReq 4 s
       reqTaken 4 (fromPartner 9 4 5 0 0) s ∧ s1.pair.role = role ∧ p.role = 5 ∧ pairConfigured s1 = true ∧ p.unit = partnerUnit s1
        ∧ beats p.claim p.unit s1.pair.claim (ownUnit s1) = true ∧ s1.pair.waiting = [])
    ∧ (let s := asked (fromPartner 9 5 3 4 2) { role := 4, claim := 10 }
       let p := pairMsg (fromPartner 9 5 3 4 2).bytes
       let s1 := afterReq 5 s
       reqTaken 5 (fromPartner 9 5 3 4 2) s ∧ s1.pair.role = 4 ∧ pairConfigured s1 = true ∧ p.unit = partnerUnit s1
        ∧ beats p.claim p.unit s1.pair.claim (ownUnit s1) = false ∧ p.arg1 ≤ 5 ∧ 5 < p.arg1 + p.arg2)
    ∧ (let m := fromPartner 9 6 1 (creation 2 2 - 2 ^ 19 * 0x7FFFF + 2 ^ 19) 8191
       let s := asked m standby
       let p := pairMsg m.bytes
       let s1 := afterReq 6 s
       let a := createArg p.arg1
       reqTaken 6 m s ∧ Claims.Standby p s1 ∧ p.arg1 ≠ 0 ∧ p.arg2 = 8191 ∧ (regionOf s1 p.arg2).st = 0 ∧ a.cls = 2 ∧ a.size ≠ 0 ∧ rangeFree s1 a.base a.size = true)
    ∧ (let m := fromPartner 9 6 1 0 7
       let s := asked m standby
       let p := pairMsg m.bytes
       let s1 := afterReq 6 s
       reqTaken 6 m s ∧ Claims.Standby p s1 ∧ p.arg1 = 0 ∧ (regionOf s1 p.arg2).st = 2 ∧ (regionOf s1 p.arg2).cls = 2)
    ∧ (let m := fromPartner 10 2 2 0 0
       let s := asked m { role := 1, claim := 10 }
       let p := pairMsg m.bytes
       let s1 := after 10 s
       (takeSeam 0 (fun x => x.mtype == 10) s).map (·.1) = some m ∧ pairConfigured s1 = true ∧ p.unit = partnerUnit s1 ∧ p.op = 2 ∧ p.status = 0 ∧ s1.pair.role = 1
        ∧ s1.pair.waiting = [] ∧ beats p.claim p.unit s1.pair.claim (ownUnit s1) = false) := by
  refine ⟨?_, ?_, ?_, ?_, ?_, ?_⟩
  · intro op h
    simp only [List.mem_cons, List.not_mem_nil, or_false] at h
    obtain rfl | rfl | rfl | rfl | rfl := h <;>
      exact ⟨by unfold reqTaken; decide +kernel, ⟨by decide +kernel, by decide +kernel, by decide +kernel⟩, by decide +kernel, by decide +kernel⟩
  · unfold reqTaken; decide +kernel
  · unfold reqTaken; decide +kernel
  · exact ⟨by unfold reqTaken; decide +kernel, ⟨by decide +kernel, by decide +kernel, by decide +kernel⟩, by decide +kernel⟩
  · exact ⟨by unfold reqTaken; decide +kernel, ⟨by decide +kernel, by decide +kernel, by decide +kernel⟩, by decide +kernel⟩
  · decide +kernel

/-- The same pair long after the partner was heard. -/
def quiet (regs : Tab Nat) (p : Pair) : State := { duo p with clk := { tsx := 25000000 }, regs := [(objKey .LC_STATE 0, 2), (objKey .PAIR_KEY_MATCH 0, 1), (objKey .PAIR_PARTNER_UNIT 0, 77)] ++ regs }

theorem witness_pair_timers :
    (let s := duo standby
     pairConfigured s = true ∧ s.pair.waiting = [] ∧ portUp s 0 = true ∧ 77 = partnerUnit s ∧ s.pair.role = 2)
    ∧ (let s := { duo standby with regs := [(objKey .LC_STATE 0, 2), (objKey .PAIR_SECRET 0, 5), (objKey .PAIR_KEY_MATCH 0, 1), (objKey .PAIR_PARTNER_UNIT 0, 77)] }
       pairConfigured s = true ∧ mgmtOpen s = true)
    ∧ (let silent (s : State) : Prop := pathSilent s s.pair.heardMgmt = true ∧ pathSilent s s.pair.heardSeam = true ∧ s.pair.partnerSilent = false
       (silent (quiet [] standby) ∧ (quiet [] standby).pair.role = 2 ∧ 1 + max (quiet [] standby).red.unitCtr (quiet [] standby).pair.partnerClaim < 4294967296)
       ∧ (∀ policy ∈ [0, 1], let s := quiet [(objKey .PAIR_SILENCE_POLICY 0, policy)] { role := 1 }
          silent s ∧ servesTandem s = true ∧ rget .PAIR_SILENCE_POLICY 0 s = policy))
    ∧ (∀ mode ∈ [0, 1], let s := quiet [(objKey .PAIR_MODE 0, mode)] { role := 5 }
       s.pair.role = 5 ∧ rget .PAIR_MODE 0 s = mode ∧ s.pair.lastEcho + 1313 ≤ now s)
    ∧ (let s := duo { role := 5 }
       rget .PAIR_MODE 0 s = 0 ∧ now s < s.pair.lastEcho + 1313 ∧ s.pair.overlapUntil ≤ now s)
    ∧ (let s := duo { role := 1, mirror := 0 }
       s.pair.role = 1 ∧ s.pair.mirror = 0 ∧ nextVerify s s.pair.verifyNext = some 0) := by
  refine ⟨by decide +kernel, by decide +kernel, by decide +kernel, by decide +kernel, by decide +kernel, by decide +kernel, by decide +kernel, ?_⟩
  have h : ((duo { role := 1, mirror := 0 }).regions.filter (fun p => p.2.st == 2 && p.2.cls == 2)).map (fun p => (p.2.base * tilesPerGib, (p.2.base + p.2.size) * tilesPerGib))
      = [(0, 16384)] := by decide +kernel
  unfold nextVerify
  rw [h]
  simp only [List.mergeSort_singleton]
  decide +kernel

theorem witness_pair_commands :
    (let op (s : State) : Bool := [0, 1].any (fun p => ((seamOf s p).unanswered ++ (seamOf s p).outbox).any (fun m => m.mtype == 1 || m.mtype == 2))
     let s := duo { role := 1 }
     Claims.Runs .PAIR_HANDOVER admin s ∧ s.pair.role = 1 ∧ s.pair.handover = 0 ∧ s.pair.unmacked = [] ∧ op s = false
      ∧ (duo { role := 1, unmacked := [(0, 9, none)] }).pair.unmacked ≠ [])
    ∧ (∀ role ∈ [2, 3], let s := duo { role := role }
       Claims.Runs .PAIR_FORCE_PRIMARY admin s ∧ s.pair.role = role ∧ 1 + max s.red.unitCtr s.pair.partnerClaim < 4294967296 ∧ s.pair.waiting = [])
    ∧ (let s := duo { role := 1 }
       Claims.Runs .PAIR_PARTNER_UNIT admin s ∧ rget .PAIR_PARTNER_UNIT 0 s ≠ 0 ∧ servesTandem s = true) := by
  unfold Claims.Runs; decide +kernel

/-! ## The manifest planes and the self-tests -/

def merge : MergeEntry := ⟨0, 6, 5, .cmp⟩
def cmd5 : PlaneCmd := ⟨0, 9, 2, 5, 1⟩
def planed (f : Redund → Redund) : State := { rig with red := f rig.red }

theorem witness_planes_compared :
    (planed (fun r => { r with merges := [merge] })).red.merges = [merge] ∧ mergeOf 6 merge = true ∧ (planed id).red.held = [] ∧ (planed id).red.done = []
    ∧ (planed id).red.claimNow = 0 ∧ (planed (fun r => { r with claimOld := some 4 })).red.claimOld = some 4 ∧ tandemMode (planed id) = true
    ∧ 7 ≠ (planed id).red.claimNow ∧ (planed id).red.claimOld ≠ some 7 ∧ planeState (planed id) 1 = 1 ∧ planeState (planed id) 0 ≠ 1
    ∧ (planed (fun r => { r with done := [cmd5] })).red.done = [cmd5] ∧ sameCid cmd5 { cmd5 with what := 3 } = true
    ∧ (let s := planed (fun r => { r with resolving := [(5, 1, 0, 9, 2)] })
       lineBusy s 5 = false ∧ tget {} s.mf.planeA.entries 5 = {} ∧ tget {} s.mf.planeB.entries 5 = {} ∧ s.mf.waits = [] ∧ (bucketOf s 0x50 0).held = false
        ∧ (bucketOf s 0x50 0).level < 7 ∧ (bucketOf s 0x50 1).held = false ∧ (bucketOf s 0x50 1).level < 7 ∧ s.boot.held = 0 ∧ s.red.divLog.length < 1024)
    ∧ (planed id).red.claimNow < 1 ∧ planeState (planed id) 0 = 0
    ∧ (let s := planed (fun r => { r with stA := 2 })
       planeState s 1 = 1 ∧ planeState s (1 - 1) = 2 ∧ tandemMode s = false) := by
  decide +kernel

theorem witness_planes_fenced :
    bit (planed (fun r => { r with silent := 2 ^ pathBit 1 1 })).red.silent (pathBit 1 1) = true ∧ planeState rig 1 = 1 ∧ planeState rig (1 - 1) = 0
    ∧ bit rig.red.silent (pathBit 1 0) = false ∧ bit rig.red.silent (pathBit 1 1) = false
    ∧ bit (planed (fun r => { r with silent := 2 ^ pathBit 1 1 })).red.silent (pathBit 1 0) = false
    ∧ Claims.Runs .PLANE_RETIRE admin rig ∧ (planeState (planed (fun r => { r with stA := 2 })) (1 - 1) = 2)
    ∧ Claims.Runs .PLANE_REJOIN admin rig ∧ (∀ p, p < 2 → ∃ c ∈ inService rig, c % 2 = p)
    ∧ (let s := planed (fun r => { r with stB := 2 })
       Claims.Runs .PLANE_REJOIN admin s ∧ planeState s 1 = 2 ∧ ∃ c ∈ inService s, c % 2 = 1)
    ∧ (let s := planed (fun r => { r with stB := 3, copied := [4] })
       rejoining s = some 1 ∧ 5 ∉ s.red.copied ∧ 5 < setCount s ∧ s.red.copied.length + 1 ≠ setCount s) := by
  unfold Claims.Runs; decide +kernel

theorem witness_rejoin_ends : ∃ s : State, rejoining s = some 1 ∧ 8388607 ∉ s.red.copied ∧ 8388607 < setCount s ∧ s.red.copied.length + 1 = setCount s := by
  obtain ⟨l, h1, h2⟩ : ∃ l : List Nat, 8388607 ∉ l ∧ l.length + 1 = 2097152 * 4 :=
    (fun n h => ⟨List.range n, h ▸ List.not_mem_range_self, (congrArg (· + 1) List.length_range).trans (congrArg (· + 1) h)⟩ :
      ∀ n, n = 8388607 → ∃ l : List Nat, 8388607 ∉ l ∧ l.length + 1 = 2097152 * 4) _ rfl
  exact ⟨planed (fun r => { r with stB := 3, copied := l }), rfl, h1, show 8388607 < setCount rig by decide +kernel, h2⟩

/-- Panel 59 is idle and nobody's; its bucket holds its action. -/
def tested (held : Bool) : State :=
  { rig with grid := { panels := [(59, {})] }, errs := { buckets := [(0x44 * 256 + 59, { level := 2, held := held })] } }

theorem witness_selftests :
    (let p := panelOf (tested true) 59
     59 < 60 ∧ p.st = 0 ∧ p.berth = 0xFF ∧ p.job = 0 ∧ rget .FW_STATE 0 (tested true) ≠ 2 ∧ (bucketOf (tested true) 0x44 59).held = true
      ∧ (bucketOf (tested false) 0x44 59).held = false ∧ (panelOf (tested false) 59).retireDue = false)
    ∧ rig.hlt.scrubbed + 1 ≠ setCount rig ∧ ({ rig with hlt := { scrubbed := 8388607 } } : State).hlt.scrubbed + 1 = setCount rig ∧ tandemMode rig = true
    ∧ Claims.Runs .HEALTH_CLEAR admin rig ∧ Claims.Runs .DIV_LOG_CLEAR admin rig := by
  unfold Claims.Runs; decide +kernel

/-! ## Meters, buckets, berths and rights -/

/-- A held request on link 0 over meter 255, of colour `c`. -/
def heldOne (kind c : Nat) : Held := ⟨.atw 1 0, kind, 0, c, 0, 1, [255], [255], []⟩
def holding (h : Held) (tc : Nat) : State := { rig with meters := { held := [h], insts := [(instKey 255 0, { cbs := 100, tc := tc })] } }

/-- A shaper record, and one whose CIR exceeds its PIR. -/
def shaper (cir : Nat) : ShaperArg := ⟨true, false, 0, cir, 10, 64, 64⟩

theorem witness_held_requests :
    (∀ kind ∈ [0, 1, 2, 3], oldestHeld (holding (heldOne kind 1) 0) kind 0 1 = some (heldOne kind 1)) ∧ (heldOne 0 1).meters = [255] ∧ 255 < 256
    ∧ oldestHeld (holding (heldOne 0 2) 0) 0 0 2 = some (heldOne 0 2)
    ∧ (heldOne 1 1).cost * 65536 ≤ (refilled (instOf (holding (heldOne 1 1) 65536) 255 0) (now (holding (heldOne 1 1) 65536))).tc
    ∧ (refilled (instOf (holding (heldOne 1 1) 65535) 255 0) (now (holding (heldOne 1 1) 65535))).tc < (heldOne 1 1).cost * 65536
    ∧ (colourReq [255] 0 1 (some (heldOne 0 2)) (holding (heldOne 0 2) 0)).colour = 0
    ∧ Claims.Runs .BMETER_SHAPER_SET admin { rig with regs := [(objKey .LC_STATE 0, 2), (objKey .BMETER_BERTH 1, 2)] } ∧ admin.secure = true
    ∧ (let s := { rig with regs := [(objKey .LC_STATE 0, 2), (objKey .BMETER_BERTH 1, 2)] }
       rget .BMETER_BERTH 1 s = 2 ∧ (berthOf s 2).st = 1 ∧ shaperValid (berthMeter 2 (rget .BMETER_KIND 1 s)) (shaper 5) = true
        ∧ shaperValid (berthMeter 2 (rget .BMETER_KIND 1 s)) (shaper 11) = false)
    ∧ (berthOf rig (rget .BMETER_BERTH 1 rig)).st ≠ 1 ∧ shaperValid (berthMeter 0 (rget .BMETER_KIND 1 rig)) (shaper 5) = true ∧ Claims.Runs .BMETER_SHAPER_SET admin rig
    ∧ Claims.Runs .PMETER_SHAPER_SET admin rig ∧ shaperValid (portMeter (rget .PMETER_PORT 1 rig)) (shaper 5) = true
    ∧ shaperValid (portMeter (rget .PMETER_PORT 1 rig)) (shaper 11) = false := by
  unfold Claims.Runs
  (repeat' apply And.intro) <;> decide +kernel

/-- A held request that is metered again stays yellow or red. -/
theorem witness_retest :
    let s : State := { rig with meters := { held := [heldOne 0 2], shapers := [(255, ⟨true, false, 1, 1, 64, 64⟩)], insts := [(instKey 255 0, { cir := 1, pir := 1, cbs := 64, pbs := 64 })] } }
    oldestHeld s 0 0 2 = some (heldOne 0 2) ∧ (colourReq (heldOne 0 2).meters 0 (heldOne 0 2).cost (some (heldOne 0 2)) s).colour ≠ 0 := by
  (repeat' apply And.intro) <;> decide +kernel

/-- The bucket of DRAM channel 23 at level 1; canaries run. -/
def leaky (held : Bool) : State := { rig with errs := { buckets := [(bucketKey 1 23, { level := 1, held := held, clock := some 9 })], canaryDram := 3 } }

theorem witness_buckets :
    bucketParams 1 = some (3600, 16384) ∧ (bucketOf (leaky false) 1 23).held = false ∧ (bucketOf (leaky false) 1 23).level = 1 ∧ (bucketOf (leaky true) 1 23).held = true
    ∧ (bucketOf rig 1 23).level = 0 ∧ Claims.Runs .ERR_LOG_CLEAR admin rig
    ∧ nextInTurn 24 (leaky false).errs.canaryDram (fun c => (chanOf (leaky false) c).st == 3) = some 0
    ∧ nextInTurn 32 (leaky false).errs.canaryFlash (fun c => (flashOf (leaky false) c).st == 3) = some 0
    ∧ nextInTurn 8 (leaky false).errs.canaryLane (fun g => !(leaky false).ferry.lanesOut.contains g) = some 1
    ∧ rget .CANARY_ENABLE 0 (leaky false) = 1 ∧ (leaky false).boot.held = 0 ∧ rget .BOOT_STEP 0 (leaky false) = 0 ∧ rget .FW_STATE 0 (leaky false) ≠ 3
    ∧ (leaky false).errs.log.length < 4096 := by
  unfold Claims.Runs
  (repeat' apply And.intro) <;> decide +kernel

/-- Only berth 2 is left of the device's owners. -/
def lonely : State := { regs := [(objKey .LC_STATE 0, 2)], berths := { berths := [(2, { st := 1 })] }, hosts := { links := [] } }

theorem witness_berths :
    Claims.Runs .BERTH_CREATE admin rig ∧ bits 127 0 6 = 63 ∧ 127 < 128 ∧ (berthOf rig 63).st = 0 ∧ keysServed rig = true ∧ (berthOf rig (bits 2 0 6)).st ≠ 0
    ∧ (Claims.Runs .BERTH_DELETE admin lonely ∧ (berthOf lonely 2).st = 1 ∧ lonely.lds = [] ∧ lonely.regions = [] ∧ lonely.grid.panels = [] ∧ lonely.jobs.jobs = []
      ∧ lonely.berths.grants = [] ∧ lonely.berths.queue = [] ∧ lonely.berths.running = none ∧ lonely.meters.held = [])
    ∧ (let r : Running := ⟨4, .unbind 2, [2], 0, []⟩
       let s := { lonely with berths := { berths := [(2, { st := 2, epoch := 1 })], running := some r } }
       s.berths.running = some r ∧ r.change = .unbind 2 ∧ r.lost = [] ∧ oldInflight s r.flipped = 0 ∧ (berthOf s 2).st = 2 ∧ s.lds = [] ∧ s.regions = []
        ∧ s.grid.panels = [] ∧ s.jobs.jobs = [] ∧ s.berths.grants = [] ∧ s.berths.queue = [] ∧ s.meters.held = [])
    ∧ Claims.Runs .BERTH_DELETE admin rig ∧ (berthOf rig 63).st ≠ 1
    ∧ (∀ arg ∈ [59 + 64 * 2, 59 + 64 * 2 + 8192], Claims.Runs .PANEL_ASSIGN admin rig ∧ (arg < 4096 ∨ (8192 ≤ arg ∧ arg < 12288)) ∧ bits arg 0 6 = 59
        ∧ (panelOf rig 59).st ≠ 4 ∧ (panelOf rig 59).berth = 0xFF ∧ (panelOf rig 59).lent = false ∧ bits arg 6 6 ≠ 0xFF ∧ (berthOf rig (bits arg 6 6)).st = 1)
    ∧ (let s := { lonely with grid := { panels := [(59, { berth := 2 })] } }
       let arg := 59 + 64 * 2 + 4096
       Claims.Runs .PANEL_ASSIGN admin s ∧ 4096 ≤ arg ∧ arg < 8192 ∧ bits arg 0 6 = 59 ∧ (panelOf s 59).st ≠ 4 ∧ (panelOf s 59).berth = bits arg 6 6
        ∧ (panelOf s 59).lent = false ∧ (panelOf s 59).job = 0 ∧ s.jobs.jobs = [])
    ∧ (let arg := 127 + 256 * 2
       Claims.Runs .LD_BIND admin rig ∧ bit arg 7 = false ∧ arg < 16384 ∧ (ldOf rig (bits arg 0 7)).enabled = false ∧ (berthOf rig (bits arg 8 6)).st = 1)
    ∧ bit 1 7 = false ∧ (ldOf rig (bits 1 0 7)).enabled = true
    ∧ Claims.Runs .WORLD_LANDING_SET admin rig ∧ 15 < 16 ∧ (linkOf rig (2 * bits 15 0 3)).st = 0 ∧ (linkOf rig (2 * bits 15 0 3 + 1)).st = 0 ∧ bit 15 3 = true
    ∧ (linkOf rig (2 * bits 0 0 3)).st ≠ 0
    ∧ Claims.Runs .CONF_SET admin rig ∧ 130 < 256 ∧ bit 130 6 = false ∧ bit 130 7 = true ∧ (berthOf rig (bits 130 0 6)).st = 1 ∧ bit 192 6 = true ∧ bit 192 7 = true
    ∧ (Claims.Runs .CONF_SET admin lonely ∧ bit 64 6 = true ∧ bit 64 7 = false ∧ lonely.regions = []) := by
  unfold Claims.Runs
  (repeat' apply And.intro) <;> decide +kernel

/-- A grant of every right on region 7 to berth 63. -/
def granting : State := { rig with berths := { berths := [(2, { st := 1 }), (63, { st := 1 })] } }
def grantArg : Nat := 7 + 2 ^ 13 * 63 + 2 ^ 19 * 15
def draining (ms : List Req) : State :=
  { granting with lds := [], ferry := { granting.ferry with misses := ms }, berths := { granting.berths with berths := [(2, { st := 1 }), (63, { st := 1, epoch := 1 })], running := some ⟨0, .grant 1 7 63 15, [63], 0, []⟩ } }

theorem witness_rights :
    Claims.Runs .PERM_GRANT admin granting ∧ grantStatus granting true grantArg = 0 ∧ granting.berths.running = none ∧ granting.berths.queue = []
    ∧ grantStatus rig true grantArg = 2
    ∧ (let s := draining []
       s.berths.running = some ⟨0, .grant 1 7 63 15, [63], 0, []⟩ ∧ oldInflight s [63] = 0 ∧ s.lds = [] ∧ s.berths.queue = [] ∧ (∀ p ∈ s.berths.berths, p.2.st ≠ 2))
    ∧ oldInflight (draining [{ request 5 (.memRd .s) with berth := 63 }]) [63] ≠ 0 := by
  unfold Claims.Runs
  (repeat' apply And.intro) <;> decide +kernel

/-! ## Attestation, management carriers and test access -/

def mctp : SpdmReq := ⟨false, 9⟩
def cycle (lc : Nat) : State := { rig with regs := [(objKey .LC_STATE 0, lc)] }

theorem witness_spdm :
    (∀ lc ∈ [1, 2, 3, 4], spdmServed mctp (cycle lc) = true ∧ rget .LC_STATE 0 (cycle lc) = lc) ∧ spdmServed ⟨true, 1⟩ rig = true ∧ 1 < 2 := by
  (repeat' apply And.intro) <;> decide +kernel

/-- A port whose link is up and whose address is an IPv4 or an IPv6 address. -/
def net (addr : Nat) : State := { rig with regs := [(objKey .MG_ADDR 1, leNat (natBE 16 addr)), (objKey .MG_LINK 1, 1), (objKey .LC_STATE 0, 1)] }

theorem witness_carriers :
    carrierOpen ⟨1, 9, []⟩ rig = true ∧ 1 < 2 ∧ 8 ≤ 254 ∧ 7 < 8
    ∧ netOpen (net (mappedV4 5)) 1 = true ∧ 5 % 2 ^ 32 ≠ 0 ∧ portAddress (net (mappedV4 5)) 1 = mappedV4 5
    ∧ netOpen (net 5) 1 = true ∧ 5 / 2 ^ 32 ≠ 0xFFFF ∧ portAddress (net 5) 1 = 5 ∧ netOpen rig 1 = false ∧ testOpen (net 5) = true ∧ testOpen rig = false := by
  (repeat' apply And.intro) <;> decide +kernel

/-! ## Keys, the life-cycle and firmware -/

/-- Berth 2's key record; tile 0's near copy and far copy under the slots given, log bands open in three channels. -/
def keyed (k : KeyRec) (near : Nat) (far : Option Nat) : State :=
  { rig with
    regs := [(objKey .LC_STATE 0, 2), (objKey .KEY_BERTH_SELECT 1, 2)]
    keys := { recs := [(2, k)], nextGen := 9 }
    ferry := { tags := [(0, { st := 2, kslot := near })], far := match far with
      | some k => [(0, { kind := 1, hdr := { kslot := k } })]
      | none => [] }
    flash := { exposed := 0, chans := [(0, { st := 3 }), (1, { st := 3 }), (2, { st := 3 })], openLog := [(0, some 5)], bands := [(5, { use := 1 })] } }
def steady : KeyRec := { st := 1, genA := 4 }
def rotating : KeyRec := { st := 3, active := 1, genA := 4, genB := 5 }

theorem witness_rotation :
    (let s := keyed steady 0 none
     Claims.Runs .KEY_ROTATE admin s ∧ rget .KEY_BERTH_SELECT 1 s = 2 ∧ (keyOf s 2).st = 1 ∧ (berthOf s 2).st = 1 ∧ admin.secure = true)
    ∧ (keyOf (keyed rotating 1 none) 2).st ≠ 1 ∧ Claims.Runs .KEY_ROTATE admin (keyed rotating 1 none)
    ∧ (let s := { keyed steady 0 none with berths := {} }
       Claims.Runs .KEY_ROTATE admin s ∧ (keyOf s 2).st = 1 ∧ (berthOf s 2).st ≠ 1)
    ∧ (∀ near ∈ [0, 1], ∀ far ∈ [none, some 0], let s := keyed rotating near far
       regionAtTile s 0 = some 7 ∧ (regionOf s 7).owner = 2 ∧ (keyOf s 2).st = 3 ∧ (keyOf s 2).pos ≤ sweepPlace 7 0 ∧ sweepMeets s 2 0 (sweepPlace 7 0) (oldSlot rotating) = false
        ∧ crossingOf s 0 = none ∧ ladderPos s < 28 ∧ oldSlot rotating = 0 ∧ (regionOf s 7).cls ≠ 1 ∧ freeFrames s (homeOf s 0) ≠ 0)
    ∧ (rekeyFar 0 (activeKey (keyed rotating 1 (some 0)) 2) (keyed rotating 1 (some 0))).isSome = true
    ∧ (let s := { keyed rotating 1 none with regions := [] }
       (keyOf s 2).st = 3 ∧ sweepMeets s 2 0 (8192 * 17179869184) (oldSlot (keyOf s 2)) = false ∧ s.ferry.crossings = [])
    ∧ Claims.Runs .PAIR_SECRET admin rig ∧ (List.replicate 48 (1 : Byte)).length = 48 := by
  unfold Claims.Runs
  (repeat' apply And.intro) <;> decide +kernel

/-- A token of the authority for a state's unit and nonce. -/
def tokenHead (scope : Nat) (s : State) : List Byte := natLE 2 scope ++ natLE 6 0 ++ natLE 8 (unitId s) ++ natLE 32 (rget .LC_NONCE 0 s)

theorem natLE_length (n v : Nat) : (natLE n v).length = n := by
  induction n generalizing v with
  | zero => rfl
  | succ n ih => simp [natLE, ih]

theorem leNat_of_natLE (n v : Nat) (h : v < 256 ^ n) : leNat (natLE n v) = v := by
  induction n generalizing v with
  | zero =>
    simp only [Nat.pow_zero] at h
    simp only [natLE, leNat]
    omega
  | succ n ih =>
    have hb : (BitVec.ofNat 8 v).toNat = v % 256 := by simp
    have hd : v / 256 < 256 ^ n := Nat.div_lt_of_lt_mul (by rw [Nat.pow_succ] at h; omega)
    simp only [natLE, leNat, hb, ih _ hd]
    omega

/-- Every token clause's premise holds of a token that the authority has signed. -/
theorem witness_tokens (scope : Nat) (s : State) (sig : List Byte) (hs : scope < 65536) (hn : rget .LC_NONCE 0 s < 256 ^ 32) (hl : sig.length = 96)
    (h : Config.authoritySigned (tokenHead scope s) sig = true) : tokenValid scope (tokenHead scope s ++ sig) s = true ∧ (tokenHead scope s ++ sig).length = 144 := by
  have l : (tokenHead scope s).length = 48 := by simp [tokenHead, natLE_length]
  have hu : unitId s < 256 ^ 8 := (if rget Obj.LC_STATE 0 s = 0 then Config.dieId else Config.unitId).isLt
  have a : (tokenHead scope s ++ sig).take 2 = natLE 2 scope := by
    simp only [tokenHead, List.append_assoc]
    rw [List.take_append_of_le_length (by simp [natLE_length]), List.take_of_length_le (by simp [natLE_length])]
  have c : ((tokenHead scope s ++ sig).drop 8).take 8 = natLE 8 (unitId s) := by
    have e : tokenHead scope s ++ sig = (natLE 2 scope ++ natLE 6 0) ++ (natLE 8 (unitId s) ++ (natLE 32 (rget .LC_NONCE 0 s) ++ sig)) := by
      simp only [tokenHead, List.append_assoc]
    rw [e, List.drop_append_of_le_length (by simp [natLE_length]), List.drop_of_length_le (by simp [natLE_length]), List.nil_append,
      List.take_append_of_le_length (by simp [natLE_length]), List.take_of_length_le (by simp [natLE_length])]
  have d : ((tokenHead scope s ++ sig).drop 16).take 32 = natLE 32 (rget .LC_NONCE 0 s) := by
    have e : tokenHead scope s ++ sig = (natLE 2 scope ++ natLE 6 0 ++ natLE 8 (unitId s)) ++ (natLE 32 (rget .LC_NONCE 0 s) ++ sig) := by
      simp only [tokenHead, List.append_assoc]
    rw [e, List.drop_append_of_le_length (by simp [natLE_length]), List.drop_of_length_le (by simp [natLE_length]), List.nil_append,
      List.take_append_of_le_length (by simp [natLE_length]), List.take_of_length_le (by simp [natLE_length])]
  have t : (tokenHead scope s ++ sig).take 48 = tokenHead scope s := by rw [← l, List.take_left]
  have r : (tokenHead scope s ++ sig).drop 48 = sig := by rw [← l, List.drop_left]
  have len : (tokenHead scope s ++ sig).length = 144 := by simp [l, hl]
  refine ⟨?_, len⟩
  unfold tokenValid
  rw [len, a, c, d, t, r, h, leNat_of_natLE _ _ hs, leNat_of_natLE _ _ hu, leNat_of_natLE _ _ hn]
  simp

theorem witness_lifecycle :
    (∀ p ∈ [(0, 1, some 4), (0, 4, some 3), (1, 2, none), (1, 4, none), (2, 3, some 1), (3, 4, none)], let s := cycle p.1
      Claims.Runs .LC_TRANSITION vendor s ∧ lcScope p.1 p.2.1 = p.2.2 ∧ lcAllowed p.1 p.2.1 = true ∧ rget .LC_NONCE 0 s < 256 ^ 32)
    ∧ (∀ p ∈ [(1, 2), (1, 4), (2, 4), (3, 4)], lcStatus p.2 vendor (List.replicate 144 0) (cycle p.1) = 0)
    ∧ (∀ p ∈ [(2, 1), (0, 2), (1, 3), (3, 1)], lcStatus p.2 vendor (List.replicate 144 0) (cycle p.1) = 1) ∧ (∀ p ∈ [(2, 3)], lcStatus p.2 vendor (List.replicate 144 0) (cycle p.1) = 2)
    ∧ Claims.Runs .LC_UNLOCK vendor (cycle 3) ∧ tokenValid 2 (List.replicate 144 0) (cycle 3) = false ∧ Claims.Runs .LC_UNLOCK vendor rig ∧ rget .LC_STATE 0 rig ≠ 3 := by
  unfold Claims.Runs
  (repeat' apply And.intro) <;> decide +kernel

/-- The transitions that need a token. -/
theorem witness_lifecycle_tokens : ∀ p ∈ [(0, 1, 4), (0, 4, 3), (2, 3, 1)], ∀ token, tokenValid p.2.2 token (cycle p.1) = true → lcStatus p.2.1 vendor token (cycle p.1) = 0 := by
  intro p hp token h
  simp only [List.mem_cons, List.not_mem_nil, or_false] at hp
  obtain rfl | rfl | rfl := hp
  all_goals
    unfold lcStatus
    simp only [show rget .LC_STATE 0 (cycle 0) = 0 by decide +kernel, show rget .LC_STATE 0 (cycle 2) = 2 by decide +kernel]
    simp only [show lcAllowed 0 1 = true by rfl, show lcAllowed 0 4 = true by rfl, show lcAllowed 2 3 = true by rfl, show lcScope 0 1 = some 4 by rfl,
      show lcScope 0 4 = some 3 by rfl, show lcScope 2 3 = some 1 by rfl, h]
    simp [vendor]

/-- A bundle of image 2 with an empty body. -/
def fwHead (sha : List Byte) : List Byte :=
  natLE 4 0x3A5C0F12 ++ natLE 1 2 ++ natLE 1 0 ++ natLE 2 1 ++ natLE 4 0x02030001 ++ natLE 4 0 ++ natLE 2 0 ++ natLE 6 0 ++ natLE 4 0 ++ natLE 4 0x01020000 ++ natLE 16 0
    ++ sha ++ List.replicate 32 0

/-- A bundle that the authority has signed passes; the empty one does not. -/
theorem witness_stage (sha sig : List Byte) (h1 : sha.length = 48) (h2 : sig.length = 96) (h3 : Config.sha384 [] = sha) (h4 : Config.authoritySigned (fwHead sha) sig = true) :
    stageStatus (fwHead sha ++ sig) rig = 0 ∧ parseBundle 4 (fwHead sha ++ sig) = some [(2, ⟨true, 0x02030001, 0, 0, 0x01020000, []⟩)] := by
  let fixed : List Byte := natLE 4 0x3A5C0F12 ++ natLE 1 2 ++ natLE 1 0 ++ natLE 2 1 ++ natLE 4 0x02030001 ++ natLE 4 0 ++ natLE 2 0 ++ natLE 6 0 ++ natLE 4 0 ++ natLE 4 0x01020000 ++ natLE 16 0
  have lf : fixed.length = 48 := by simp only [fixed, List.length_append, natLE_length]
  have lh : (fwHead sha).length = 128 := by
    show (fixed ++ sha ++ List.replicate 32 0).length = 128
    simp [lf, h1]
  have f (i n : Nat) (x : List Byte) (hi : i + n ≤ 48) : fieldAt (fixed ++ x) i n = fieldAt fixed i n := by
    unfold fieldAt
    rw [List.drop_append_of_le_length (by omega), List.take_append_of_le_length (by simp [lf]; omega)]
  have eh : fwHead sha = fixed ++ (sha ++ List.replicate 32 0) := by
    show fixed ++ sha ++ List.replicate 32 0 = _
    rw [List.append_assoc]
  have g (i n : Nat) (hi : i + n ≤ 48) : fieldAt (fwHead sha) i n = fieldAt fixed i n := by rw [eh, f i n _ hi]
  have g' (i n : Nat) (hi : i + n ≤ 48) : fieldAt (fwHead sha ++ sig) i n = fieldAt fixed i n := by rw [eh, List.append_assoc, f i n _ hi]
  have hz : fieldAt (fwHead sha) 96 32 = 0 := by
    have e : fwHead sha = (fixed ++ sha) ++ List.replicate 32 0 := rfl
    unfold fieldAt
    rw [e, List.drop_append_of_le_length (by simp [lf, h1]), List.drop_of_length_le (by simp [lf, h1]), List.nil_append]
    decide +kernel
  have hsha : ((fwHead sha).drop 48).take 48 = sha := by
    rw [eh, ← lf, List.drop_left, lf, ← h1, List.take_left]
  have v (i n k : Nat) (hk : fieldAt fixed i n = k) (hi : i + n ≤ 48) : fieldAt (fwHead sha) i n = k := (g i n hi).trans hk
  have hb : bankOf 2 (fwHead sha) [] sig = ⟨true, 0x02030001, 0, 0, 0x01020000, []⟩ := by
    unfold bankOf
    rw [g 0 4 (by omega), g 4 1 (by omega), g 6 2 (by omega), g 5 1 (by omega), g 18 6 (by omega), g 38 10 (by omega), hz, g 32 4 (by omega), g 36 2 (by omega), g 8 4 (by omega),
      g 12 4 (by omega), g 16 2 (by omega), g 28 4 (by omega), hsha, h3, h4]
    simp only [beq_self_eq_true]
    decide +kernel
  have hp : parseBundle 4 (fwHead sha ++ sig) = some [(2, ⟨true, 0x02030001, 0, 0, 0x01020000, []⟩)] := by
    have ne : (fwHead sha ++ sig).isEmpty = false := by
      cases e : fwHead sha ++ sig with
      | nil => rw [← List.length_eq_zero_iff, List.length_append, lh] at e; omega
      | cons => rfl
    have len : (fwHead sha ++ sig).length = 224 := by simp [lh, h2]
    have hd : (fwHead sha ++ sig).drop 256 = [] := List.drop_of_length_le (by omega)
    have i4 : fieldAt (fwHead sha ++ sig) 4 1 = 2 := (g' 4 1 (by omega)).trans (by decide +kernel)
    have i24 : fieldAt (fwHead sha ++ sig) 24 4 = 0 := (g' 24 4 (by omega)).trans (by decide +kernel)
    have t1 : (fwHead sha ++ sig).take 128 = fwHead sha := by rw [← lh, List.take_left]
    have t2 : (fwHead sha ++ sig).drop 128 = sig := by rw [← lh, List.drop_left]
    have t3 : sig.take 96 = sig := by rw [← h2, List.take_length]
    unfold parseBundle
    simp only [ne, i4, i24, len, t1, t2, t3, List.take_zero, Nat.add_zero, hb]
    simp only [Nat.reduceAdd, Nat.reduceDiv, Nat.reduceMul, hd]
    simp [parseBundle]
  refine ⟨?_, hp⟩
  unfold stageStatus
  rw [hp]
  have len : (fwHead sha ++ sig).length = 224 := by simp [lh, h2]
  rw [len]
  decide +kernel

theorem witness_firmware :
    Claims.Runs .FW_STAGE admin rig ∧ stageStatus [] rig ≠ 0
    ∧ (let s := { rig with fw := { banks := [(5, ⟨true, 0x02030001, 0, 0, 0x01020000, []⟩)] } }
       Claims.Runs .FW_ACTIVATE admin s ∧ bits 260 0 2 = 0 ∧ bits 260 6 2 = 0 ∧ 260 < 512 ∧ activateStatus ([2, 3, 4, 5].filter (bit 260)) s = 0)
    ∧ Claims.Runs .FW_ACTIVATE admin rig ∧ activateStatus ([2, 3, 4, 5].filter (bit 260)) rig ≠ 0
    ∧ Claims.Runs .FW_SVN_COMMIT admin rig ∧ Claims.Runs .FW_ROLLBACK admin rig ∧ rig.fw.trial = false ∧ ({ rig with fw := { trial := true } } : State).fw.trial = true
    ∧ rget .BOOT_STEP 0 { rig with fw := { trial := true } } = 0 ∧ rig.boot.held = 0 := by
  unfold Claims.Runs
  (repeat' apply And.intro) <;> decide +kernel

/-! ## Power, heat, resets and the start -/

/-- The power part changed, with a cap of 60 W in force. -/
def powered (p : Power) : State := { rig with regs := [(objKey .POWER_CAP 0, 60), (objKey .LC_STATE 0, 2)], power := p }

theorem witness_power :
    Claims.Runs .POWER_CAP admin rig ∧ 40 ≤ 75
    ∧ (let s := powered { pc := 3 }
       let t0 : Int := (List.replicate 24 (50 : Int)).getD 0 25
       List.replicate 24 (50 : Int) = List.replicate 24 t0 ∧ t0 < Int.ofNat (rget .THERM_WARN 0 s) - 3 ∧ t0 < 100 ∧ rget .THERM_STATE 0 s = 0 ∧ s.power.coolPt = 0 ∧ s.boot.held = 0
        ∧ rget .POWER_CAP 0 s = 60 ∧ 11 * 60 ≤ 660 ∧ 659 < 11 * 60 ∧ 10 * 60 - 10 < 591 ∧ 590 ≤ 10 * 60 - 10
        ∧ ¬ ((590 :: s.power.recent).take 10).sum < (10 * 60 - 30) * ((590 :: s.power.recent).take 10).length
        ∧ ((100 :: s.power.recent).take 10).sum < (10 * 60 - 30) * ((100 :: s.power.recent).take 10).length ∧ s.power.sincePc < 9)
    ∧ 9 ≤ (powered { pc := 3, sincePc := 9 }).power.sincePc
    ∧ (∀ v ∈ [(105 : Int), 109, 110, 127], List.replicate 24 v = List.replicate 24 ((List.replicate 24 v).getD 0 25))
    ∧ (powered { hotTwice := 1 }).power.hotTwice ≠ 0 ∧ (powered {}).power.hotTwice = 0
    ∧ (powered { asked := some 700, retries := 1 }).power.asked = some 700 ∧ (powered { asked := some 700, retries := 2 }).power.retries = 2 ∧ 6 < 7 := by
  unfold Claims.Runs
  (repeat' apply And.intro) <;> decide +kernel

/-- The boot part changed at a boot step. -/
def booting (step : Nat) (b : Boot) : State := { rig with regs := [(objKey .BOOT_STEP 0, step), (objKey .LC_STATE 0, 2)], boot := b }

theorem witness_resets :
    rig.power.tripped = false ∧ (powered { tripped := true }).power.tripped = true ∧ rig.boot.held = 0 ∧ rig.boot.unprepared = false
    ∧ (∀ n ∈ [4, 5, 6], (booting n { unprepared := true }).boot.unprepared = true ∧ rget .BOOT_STEP 0 (booting n { unprepared := true }) = n)
    ∧ (booting 1 { held := 2 }).boot.held ≠ 0
    ∧ Claims.Runs .RESTART admin rig ∧ 0 = b2n false + 8 * b2n false ∧ 1 = b2n true + 8 * b2n false ∧ 9 = b2n true + 8 * b2n true ∧ 2 ≤ bits 2 0 2 ∧ 16 ≤ 16 := by
  unfold Claims.Runs
  (repeat' apply And.intro) <;> decide +kernel

theorem witness_boot_steps :
    (∀ n ∈ [1, 2, 3, 4, 5, 6, 7], rget .BOOT_STEP 0 (booting n {}) = n ∧ (booting n {}).boot.held = 0) ∧ (booting 2 {}).red.planeCtr + 3 < 4294967296
    ∧ (booting 3 {}).fw.trial = false ∧ (booting 3 {}).fw.pending = []
    ∧ recordLive rig = true ∧ recordLive (booting 5 {}) = false
    ∧ (fwState (chooseBanks (booting 3 {}))).1 ≠ 3 ∧ (fwState (chooseBanks { booting 3 {} with fw := { banks := [] } })).1 = 3
    ∧ (booting 5 {}).boot.formatDue = false ∧ ({ booting 5 {} with flash := { formatted := true } } : State).flash.formatted = true
    ∧ (∀ h, h < 16 → (linkOf { booting 7 {} with hosts := {} } h).st = 0)
    ∧ linkServes (booting 7 {}) 0 = true ∧ 0 ∉ ({ booting 7 {} with hosts := { rig.hosts with opened := [] } } : State).hosts.opened ∧ (booting 7 {}).hosts.early = []
    ∧ (let s := { booting 0 {} with regions := [], flash := { chans := [(0, { st := 3 }), (1, { st := 3 }), (16, { st := 3 }), (17, { st := 3 })] } }
       Claims.Runs .FAR_FORMAT admin s ∧ s.regions = [] ∧ 2 ≤ (groupChans s 0).length ∧ 2 ≤ (groupChans s 1).length)
    ∧ Claims.Runs .FAR_FORMAT admin rig ∧ (∃ g ∈ rig.regions, g.2.st ≠ 0)
    ∧ (∀ p ∈ [Post.mk 5 [1] none none false true, .mk 5 [] (some (.book 1 7)) none false true, .mk 5 [1] none (some 0) false false],
        ({ rig with cfg := { posts := [p] } } : State).cfg.posts = [p]) := by
  unfold Claims.Runs
  (repeat' apply And.intro) <;> decide +kernel

/-! ## Well-formed commands -/

/-- Commands in which one operand lies outside its field, at the first value that does, for every check and every kind of operand. -/
def illFormedRequests : List Instr :=
  [.regionCreate ⟨2 ^ 32, 2, true⟩ 0, .regionCreate ⟨1, 4, true⟩ 0, .regionCreate admin (2 ^ 64), .regionLive 8192, .pllLockLoss 9 0, .pllLockLoss 0 8,
   .memRdData 128 0 0, .memRdData 0 65536 0, .memRdData 0 0 (2 ^ 52), .memWr 0 0 0 .i [0] false, .memWrPtl 0 0 0 .i (List.replicate 64 0) [true] false,
   .biRsp 64 0 .i none, .biRsp 0 (2 ^ 43) .i none, .biRsp 0 0 .i (some [0]), .manifestRemapMarker 16777216, .tileRecallComplete (2 ^ 33),
   .atwLoad ⟨128, 0, 0, 0, 0, true, none, none⟩, .atwLoad ⟨0, 512, 0, 0, 0, true, none, none⟩, .atwLoad ⟨0, 0, 2 ^ 49, 0, 0, true, none, none⟩,
   .atwLoad ⟨0, 0, 0, 16, 0, true, none, none⟩, .atwLoad ⟨0, 0, 0, 0, 32, true, none, none⟩, .atwLoad ⟨0, 0, 0, 0, 0, true, some (2 ^ 64), none⟩,
   .atwLoad ⟨0, 0, 0, 0, 0, true, none, some (2 ^ 64)⟩, .chunkPlaced 0 16 true, .evictionSweep 24, .slipwaySlotGranted 512,
   .hintPin ⟨128, 0, 0, 0, 0, true, none⟩, .hintPin ⟨0, 64, 0, 0, 0, true, none⟩, .hintPin ⟨0, 0, 2 ^ 33, 0, 0, true, none⟩, .hintPin ⟨0, 0, 0, 65536, 0, true, none⟩,
   .hintPin ⟨0, 0, 0, 0, 4096, true, none⟩, .hintPin ⟨0, 0, 0, 0, 0, true, some (2 ^ 32)⟩, .convert ⟨65536, 0, false⟩, .convert ⟨0, 65536, false⟩]

def illFormedCores : List Instr :=
  [.aluAdd (issuer 1200) 0 0 0, .aluAdd (issuer 0) 64 0 0, .aluAdd (issuer 0) 0 64 0, .aluAdd (issuer 0) 0 0 64, .addi (issuer 0) 0 0 16384, .shiLeft (issuer 0) 0 0 32,
   .lui (issuer 0) 0 (2 ^ 20), .lop (issuer 0) 8 0 0 0 0 0, .lop (issuer 0) 0 32 0 0 0 0, .lop (issuer 0) 0 0 0 0 4 0, .vld (issuer 0) 0 0 16 0, .vld (issuer 0) 0 0 0 2048,
   .vins (issuer 0) 0 0 16, .send (issuer 0) 0 0 8 0 0, .send (issuer 0) 0 0 0 8 0, .send (issuer 0) 0 0 0 0 256, .bar (issuer 0) 0 4, .tchk (issuer 0) 8 0 0 0,
   .coreMessage 60, .jobCancel ⟨128, 0, 0, 0, true⟩, .jobCancel ⟨0, 64, 0, 0, true⟩, .jobCancel ⟨0, 0, 2 ^ 49, 0, true⟩,
   .jobCancel ⟨0, 0, 0, 8192, true⟩, .jobSubmit ⟨0, 0, 0, 0, true⟩ 4, .quantumExpiry 65536]

theorem test_ill_formed_requests : ∀ i ∈ illFormedRequests ++ illFormedCores, wellFormed i = false := by decide +kernel

theorem test_ill_formed : ∀ i ∈ [Instr.unassignedOpcode (issuer 0) (2 ^ 32), .dramLineRead 0 0 (.corrected 256), .allBankRefresh 0 2 false, .pageIdlePrecharge 0 128, .flashChannelLost 32, .rowFlush 2, .linkDown 16, .decoderUncommit 0 8,
   .getLdInfo ⟨128, false⟩, .getEventRecords ⟨0, false⟩ 8, .clearPoison ⟨0, false⟩ 0 [0], .seamDetect 2, .idleFrame 0 [], .spareReq 0 16 0 0, .spareReq 0 0 2 0,
   .planeAnswer (2 ^ 27) 0 true, .planeAnswer 0 3 true, .planeHeartbeat 2 0, .planeHeartbeat 0 2, .resolveMarker 0 4, .panelTest 60 true, .holdYellowExpiry 4 0,
   .bmeterShaperSet admin ⟨true, false, 0, 2 ^ 64, 0, 0, 0⟩, .bmeterShaperSet admin ⟨true, false, 0, 0, 2 ^ 64, 0, 0⟩, .bmeterShaperSet admin ⟨true, false, 0, 0, 0, 2 ^ 32, 0⟩,
   .bmeterShaperSet admin ⟨true, false, 0, 0, 0, 0, 2 ^ 32⟩, .bmeterShaperSet admin ⟨true, false, 2 ^ 62, 0, 0, 0, 0⟩, .canaryStep ⟨4, false⟩, .getVersion ⟨false, 256⟩,
   .rekeySweepComplete 64, .lcToSealed admin (2 ^ 56) (List.replicate 144 0), .lcUnlock admin [], .pairSecret admin [], .hello ⟨3, 0, []⟩, .hello ⟨0, 2 ^ 128, []⟩,
   .railOutOfTolerance 7, .bootStepEnd ⟨List.replicate 25 ⟨0, 0, 0, 0, 0, false, false⟩, [], true, [], []⟩, .bootStepEnd ⟨[], List.replicate 33 ⟨false, false, 0, 0⟩, true, [], []⟩], wellFormed i = false := by
  decide +kernel

theorem test_well_formed : wellFormed (.regionCreate admin (2 ^ 64 - 1)) = true ∧ wellFormed (.addi (issuer 1199) 63 63 16383) = true ∧ wellFormed .ageTick = true := by
  decide +kernel

/-! ## The queue, NEXT and the invariant -/

/-- A step takes the oldest command; the tick of an empty queue. -/
theorem test_step_front : step { rig with pending := [.ageTick, .routeChange] } = exec .ageTick { rig with pending := [.routeChange] } := rfl

theorem witness_next_object : nextObj admin 0x120103 rig = some .EVENT_HEARTBEAT ∧ beNat ([0x12, 0x01, 0x03, 0].take 3) = 0x120103 ∧ leAt [0x12, 0x01, 0x03, 0] 3 1 = 0 := by
  decide +kernel

theorem witness_safe_step : Safe rig = true ∧ ∃ t, step { rig with pending := [.ageTick] } = .next t := ⟨by decide +kernel, _, rfl⟩

end Sys2Proof.Tests
end

section
/-! The scalar register arithmetic of Table 08.3 (R172): what a completed instruction that writes one general register leaves, once for
all of them, and then the function that each of the 17 ALU instructions names. -/

namespace Sys2Proof.Machine

/-! ## Instructions that change the registers of their core alone -/

/-- An instruction that only changes its core's registers is counted and leaves everything else. -/
theorem onlyCore_complete_modCore (c pc : Nat) (f : Core → Core) (s : State) : OnlyCore c s (complete c pc (modCore c f s)) where
  cores k hk := by rw [coreOf_complete_ne c pc k _ hk.symm, coreOf_modCore_ne c k f s hk.symm]
  counted := rget_rinc_self Obj.CORE_INSTRUCTIONS c _
  registers _ _ hne := rget_rinc_ne _ _ _ _ _ hne
  bytes _ := ⟨rfl, rfl, rfl⟩
  rest := rfl

/-- A completed write of `v` to general register `rd`; g0 discards it (Table 07.1). -/
theorem writesG_complete_setG (c rd pc : Nat) (v : Word) (s : State) : WritesG c rd v pc s (complete c pc (modCore c (setG rd v) s)) := by
  have hcore : coreOf (complete c pc (modCore c (setG rd v) s)) c = { setG rd v (coreOf s c) with pc := pc, wait := 0 } := by
    rw [coreOf_complete_self, coreOf_modCore_self]
  refine ⟨fun n => ?_, ?_, onlyCore_complete_modCore c pc _ s⟩
  · rw [hcore]
    exact greg_setG rd n v (coreOf s c)
  · rw [hcore, setG_eq]

/-! ## RD = RA op RB -/

/-- An instruction whose meaning is `aluOp` with `op` completes with `op` of RA and RB in RD and goes on to the next word. -/
theorem writesG_of_exec_eq_aluOp {c : CoreCtx} {rd ra rb : Nat} {s : State} (h : Ready c s) {i : Instr} {op : Word → Word → Word} {v : Word}
    (hi : exec i s = aluOp c rd ra rb op s) (hv : op (greg (coreOf s c.core) ra) (greg (coreOf s c.core) rb) = v) :
    ∃ t, exec i s = .next t ∧ WritesG c.core rd v (nextPc (coreOf s c.core)) s t := by
  refine ⟨_, ?_, writesG_complete_setG c.core rd (nextPc (coreOf s c.core)) v s⟩
  rw [hi, ← hv]
  exact issue_go c _ _ s _ _ h rfl

/-- A choice by a signed comparison of words is one by the integers they stand for. -/
theorem ite_slt (a b x y : Word) : (if a.slt b then x else y) = if a.toInt < b.toInt then x else y := by
  simp only [BitVec.slt_eq_decide, decide_eq_true_eq]

/-- A choice by an unsigned comparison of words is one by the numbers they stand for. -/
theorem ite_ult (a b x y : Word) : (if a.ult b then x else y) = if a.toNat < b.toNat then x else y := by
  simp only [BitVec.ult_eq_decide, decide_eq_true_eq]

/-- The high half of an unsigned product. -/
theorem highOf_ofNat (n : Nat) : highOf (Int.ofNat n) = BitVec.ofNat 32 (n / 2 ^ 32) := by
  rw [← BitVec.ofInt_natCast]
  rfl

end Sys2Proof.Machine

open Sys2Proof Sys2Proof.Machine

/-- Settles O2: each ALU instruction's meaning is `aluOp` with the function that Table 08.3 names. -/
theorem scalarArithmeticResults : Obligations.ScalarArithmeticResults := by
  unfold Obligations.ScalarArithmeticResults
  intro c rd ra rb s h a b answers
  exact ⟨writesG_of_exec_eq_aluOp h (exec_aluAdd c rd ra rb s) rfl, writesG_of_exec_eq_aluOp h (exec_aluSub c rd ra rb s) rfl,
    writesG_of_exec_eq_aluOp h (exec_aluAnd c rd ra rb s) rfl, writesG_of_exec_eq_aluOp h (exec_aluOr c rd ra rb s) rfl,
    writesG_of_exec_eq_aluOp h (exec_aluXor c rd ra rb s) rfl, writesG_of_exec_eq_aluOp h (exec_sll c rd ra rb s) rfl,
    writesG_of_exec_eq_aluOp h (exec_srl c rd ra rb s) rfl, writesG_of_exec_eq_aluOp h (exec_sra c rd ra rb s) rfl,
    writesG_of_exec_eq_aluOp h (exec_slt c rd ra rb s) (ite_slt a b 1 0), writesG_of_exec_eq_aluOp h (exec_sltu c rd ra rb s) (ite_ult a b 1 0),
    writesG_of_exec_eq_aluOp h (exec_mul c rd ra rb s) rfl, writesG_of_exec_eq_aluOp h (exec_mulh c rd ra rb s) rfl,
    writesG_of_exec_eq_aluOp h (exec_mulhu c rd ra rb s) (highOf_ofNat (a.toNat * b.toNat)),
    writesG_of_exec_eq_aluOp h (exec_aluMin c rd ra rb s) (ite_slt b a b a), writesG_of_exec_eq_aluOp h (exec_aluMax c rd ra rb s) (ite_slt a b b a),
    writesG_of_exec_eq_aluOp h (exec_minu c rd ra rb s) (ite_ult b a b a), writesG_of_exec_eq_aluOp h (exec_maxu c rd ra rb s) (ite_ult a b b a)⟩

end

section
/-! NEXT and the ACCESS word (R487, Table 22.2). The word is the number that packs the fields of Table 22.2 from bit 0 up. It is so because
no object carries a marker twice: the sum of the bits of its markers is then one field of one bit for each marker. Every value fits its
field, so each field reads back as its value. -/

namespace Sys2Proof.Machine

/-! ## The reply of NEXT -/

/-- NEXT of four bytes that finds an object answers with its identity, its type and its ACCESS word. -/
theorem tackNext_of_nextObj {w : Who} {t : TackMsg} {o : Obj} {s : State} (hlen : t.len = 4) (ho : nextObj w (beNat (t.payload.take 3)) s = some o) :
    tackNext w t s = ⟨0, natBE 2 o.index ++ natBE 1 o.sub ++ natBE 1 (typeCode o.ty) ++ natBE 4 (accessWord o), false⟩ := by
  simp only [tackNext, hlen, ho, ne_eq, not_true_eq_false, if_false]

/-- What follows a two-byte number and two one-byte numbers begins at byte 4. -/
theorem drop_natBE_2_1_1 (a b c : Nat) (rest : List Byte) : (natBE 2 a ++ natBE 1 b ++ natBE 1 c ++ rest).drop 4 = rest := rfl

/-! ## Packed fields -/

/-- The number that holds fields, each a width and a value, one above the other from bit 0. -/
def packed : List (Nat × Nat) → Nat
  | [] => 0
  | (n, v) :: fs => v + 2 ^ n * packed fs

/-- Where every value fits its width, each field reads back as its value. -/
theorem packed_div_mod (fs : List (Nat × Nat)) (hfit : ∀ p ∈ fs, p.2 < 2 ^ p.1) (i : Nat) {n v : Nat} (hf : fs[i]? = some (n, v)) :
    packed fs / 2 ^ ((fs.map Prod.fst).take i).sum % 2 ^ n = v := by
  induction fs generalizing i with
  | nil => simp at hf
  | cons p fs ih =>
    obtain ⟨m, u⟩ := p
    obtain ⟨hu, hrest⟩ := List.forall_mem_cons.mp hfit
    cases i with
    | zero =>
      obtain ⟨rfl, rfl⟩ : m = n ∧ u = v := by simpa using hf
      simpa [packed] using Nat.mod_eq_of_lt hu
    | succ i =>
      have habove : (u + 2 ^ m * packed fs) / 2 ^ m = packed fs := by
        rw [Nat.add_mul_div_left u _ (Nat.two_pow_pos m), Nat.div_eq_of_lt hu, Nat.zero_add]
      simpa [packed, Nat.pow_add, ← Nat.div_div_eq_div_mul, habove] using ih hrest i hf

/-- Where every value fits its width, no bit lies above the last field. -/
theorem packed_lt (fs : List (Nat × Nat)) (hfit : ∀ p ∈ fs, p.2 < 2 ^ p.1) : packed fs < 2 ^ (fs.map Prod.fst).sum := by
  induction fs with
  | nil => exact Nat.one_pos
  | cons p fs ih =>
    obtain ⟨n, v⟩ := p
    obtain ⟨hv, hrest⟩ := List.forall_mem_cons.mp hfit
    calc v + 2 ^ n * packed fs
      _ < 2 ^ n * (packed fs + 1) := by rw [Nat.mul_succ, Nat.add_comm]; exact Nat.add_lt_add_left hv _
      _ ≤ 2 ^ n * 2 ^ (fs.map Prod.fst).sum := Nat.mul_le_mul_left _ (ih hrest)
      _ = 2 ^ (((n, v) :: fs).map Prod.fst).sum := by rw [List.map_cons, List.sum_cons, Nat.pow_add]

/-! ## The fields of the ACCESS word -/

/-- 1 where the object carries the marker, else 0. -/
def markField (o : Obj) (m : Mark) : Nat := if o.marks.contains m then 1 else 0

/-- The widths of the fields of Table 22.2 from bit 0 up. -/
def accessWidths : List Nat := [2, 2, 2, 1, 1, 1, 1, 1, 1, 1, 1, 1, 1, 5, 5]

/-- The fields of Table 22.2 from bit 0 up, each with its width; bit 15 is reserved. -/
def accessFields (o : Obj) : List (Nat × Nat) :=
  accessWidths.zip [o.kind, o.rrole, o.wrole, markField o .secure, markField o .world, markField o .conf, markField o .path, markField o .nextReset,
    markField o .noSess, markField o .recov, markField o .seg, markField o .secureIf, 0, lcr o, lcw o]

theorem map_fst_accessFields (o : Obj) : (accessFields o).map Prod.fst = accessWidths := rfl

/-- KIND and the roles are codes of two bits, and no marker stands twice. -/
def AccessFits (o : Obj) : Prop := o.kind < 2 ^ 2 ∧ o.rrole < 2 ^ 2 ∧ o.wrole < 2 ^ 2 ∧ o.marks.Nodup

/-- Every object of Tables 22.3 to 22.13 fits (R491). -/
theorem accessFits_of_mem_all : ∀ o ∈ Obj.all, AccessFits o := by
  unfold AccessFits
  decide +kernel

/-- LCR has bits for the five life-cycle states only. -/
theorem lcr_lt (o : Obj) : lcr o < 2 ^ 5 := by
  have hbase : (if o.kind = 2 then 0 else if o.marks.contains .l1 then 0x0E else if o.marks.contains .v then 0x0B else 0x0F) < 2 ^ 4 := by
    (repeat' split) <;> decide
  simp only [lcr]
  split <;> omega

/-- LCW has bits for the five life-cycle states only. -/
theorem lcw_lt (o : Obj) : lcw o < 2 ^ 5 := by
  unfold lcw
  (repeat' split) <;> decide

theorem markField_lt (o : Obj) (m : Mark) : markField o m < 2 ^ 1 := by
  unfold markField
  split <;> decide

theorem accessFields_fit {o : Obj} (h : AccessFits o) : ∀ p ∈ accessFields o, p.2 < 2 ^ p.1 := by
  obtain ⟨hkind, hrrole, hwrole, -⟩ := h
  have hmark := markField_lt o
  simp only [accessFields, accessWidths, List.zip_cons_cons, List.zip_nil_left, List.forall_mem_cons]
  exact ⟨hkind, hrrole, hwrole, hmark .secure, hmark .world, hmark .conf, hmark .path, hmark .nextReset, hmark .noSess, hmark .recov, hmark .seg,
    hmark .secureIf, Nat.two_pow_pos 1, lcr_lt o, lcw_lt o, fun _ hp => absurd hp List.not_mem_nil⟩

/-- The bits of a list of markers, counted marker by marker. -/
theorem sum_markBit_eq_count (l : List Mark) : (l.map markBit).sum = l.count .secure * 2 ^ 6 + l.count .world * 2 ^ 7 + l.count .conf * 2 ^ 8
    + l.count .path * 2 ^ 9 + l.count .nextReset * 2 ^ 10 + l.count .noSess * 2 ^ 11 + l.count .recov * 2 ^ 12 + l.count .seg * 2 ^ 13
    + l.count .secureIf * 2 ^ 14 := by
  induction l with
  | nil => rfl
  | cons m l ih =>
    rw [List.map_cons, List.sum_cons, ih]
    cases m <;> simp only [markBit, List.count_cons, beq_self_eq_true, reduceCtorEq, beq_iff_eq, if_true, if_false] <;> omega

/-- A marker that stands at most once is counted as its field. -/
theorem count_marks_eq_markField {o : Obj} (h : o.marks.Nodup) (m : Mark) : o.marks.count m = markField o m := by
  simp only [markField, h.count, List.contains_iff_mem]

theorem accessWord_eq_packed {o : Obj} (h : AccessFits o) : accessWord o = packed (accessFields o) := by
  obtain ⟨-, -, -, hmarks⟩ := h
  simp only [accessWord, sum_markBit_eq_count, count_marks_eq_markField hmarks, accessFields, accessWidths, List.zip_cons_cons, List.zip_nil_left, packed]
  omega

/-- Field number `i` of Table 22.2, `n` bits from bit `k` up, reads back from the ACCESS word. -/
theorem accessWord_field {o : Obj} (h : AccessFits o) (i : Nat) {k n v : Nat} (hk : (accessWidths.take i).sum = k)
    (hf : (accessFields o)[i]? = some (n, v)) : accessWord o / 2 ^ k % 2 ^ n = v := by
  rw [accessWord_eq_packed h, ← hk, ← map_fst_accessFields o]
  exact packed_div_mod _ (accessFields_fit h) i hf

/-- Bits 26 to 31 of the ACCESS word are 0. -/
theorem accessWord_lt {o : Obj} (h : AccessFits o) : accessWord o < 2 ^ 26 := by
  have hwidth : accessWidths.sum = 26 := rfl
  rw [accessWord_eq_packed h, ← hwidth, ← map_fst_accessFields o]
  exact packed_lt _ (accessFields_fit h)

end Sys2Proof.Machine

open Sys2Proof Sys2Proof.Machine

/-- Settles O56: the reply is the identity and type, four bytes, and then the ACCESS word, whose field number `i` of Table 22.2 reads back
as its value. -/
theorem nextReturnsAccessWord : Obligations.NextReturnsAccessWord := by
  unfold Obligations.NextReturnsAccessWord
  constructor
  · intro w t o s hlen ho
    rw [tackNext_of_nextObj hlen ho]
    exact ⟨rfl, drop_natBE_2_1_1 _ _ _ _⟩
  · intro o ho
    have hfits : AccessFits o := accessFits_of_mem_all o ho
    exact ⟨accessWord_field hfits 0 rfl rfl, accessWord_field hfits 1 rfl rfl, accessWord_field hfits 2 rfl rfl, accessWord_field hfits 3 rfl rfl,
      accessWord_field hfits 4 rfl rfl, accessWord_field hfits 5 rfl rfl, accessWord_field hfits 6 rfl rfl, accessWord_field hfits 7 rfl rfl,
      accessWord_field hfits 8 rfl rfl, accessWord_field hfits 9 rfl rfl, accessWord_field hfits 10 rfl rfl, accessWord_field hfits 11 rfl rfl,
      accessWord_field hfits 12 rfl rfl, accessWord_field hfits 13 rfl rfl, accessWord_field hfits 14 rfl rfl, accessWord_lt hfits⟩

end
